-- ==== Sys2Proof/Word.lean ====
section
/-! DEFINITION. The word types of the KS-4 and the numbered things of 00_scope 0.6. -/

namespace Sys2Proof

/-- One byte on a wire, in a picture or in the settings memory. -/
abbrev Byte := BitVec 8

/-- Cameras are numbered 0–3 (0.6). -/
abbrev Camera := Fin 4

/-- Picture slots are numbered 0–3 within each camera (2.1). -/
abbrev SlotIx := Fin 4

/-- Zones are numbered 0–7 (0.6). -/
abbrev Zone := Fin 8

/-- View causes are numbered 0–11 (0.6). -/
abbrev Cause := Fin 12

/-- Track table places are numbered 0–15 (0.6). -/
abbrev Place := Fin 16

/-- Overlay slots are numbered 0–95 (0.6). -/
abbrev ObjSlot := Fin 96

end Sys2Proof
end

