-- ==== Sys2Proof/Syntax.lean ====
section
/-! DEFINITION. The commands of the KS-4: one constructor per row of spec/opcode_table.json. A request row carries the link
whose inbound queue it takes its request from (R179; log 3): the request's bytes are those at the head of that queue. -/

namespace Sys2Proof

/-- The three client links (Table 0-1). -/
inductive Link where
  | chassis | body | detector
  deriving DecidableEq, Repr

/-- The two CAN FD ports (10.2). -/
inductive CanPort where
  | chassis | body
  deriving DecidableEq, Repr

/-- Index of a link in the order CHASSIS, BODY, DETECTOR (R198). -/
def Link.ix : Link → Fin 3
  | .chassis => 0
  | .body => 1
  | .detector => 2

/-- The three links in order. -/
def Link.all : List Link := [.chassis, .body, .detector]

/-- The link whose port a CAN port is. -/
def CanPort.link : CanPort → Link
  | .chassis => .chassis
  | .body => .body

/-- The steps of the KS-4. -/
inductive Instr where
  /-- R8: a frame-start record arrives; its packet's bytes. -/
  | frameStartRecord (cam : Camera) (packet : List Byte)
  /-- R2: a line record arrives; its packet's bytes. -/
  | lineRecord (cam : Camera) (packet : List Byte)
  /-- R3: a blanking record arrives; its packet's bytes. -/
  | blankingRecord (cam : Camera) (packet : List Byte)
  /-- R4 -/
  | silenceTimerExpiry (cam : Camera)
  /-- R23 -/
  | returnTimerExpiry (cam : Camera)
  /-- R13 -/
  | errorWindowEnd (cam : Camera)
  /-- R32 -/
  | concealmentCopyFinish (cam : Camera)
  /-- R50 -/
  | stopTimerExpiry (cam : Camera)
  /-- R155 -/
  | outputFrameStart
  /-- R94 -/
  | outputFrameEnd
  /-- R85 -/
  | objectPut (link : Link)
  /-- R87 -/
  | objectMove (link : Link)
  /-- R88 -/
  | objectStyle (link : Link)
  /-- R89 -/
  | objectTextSetCursor (link : Link)
  /-- R90 -/
  | objectTextAppend (link : Link)
  /-- R91 -/
  | objectRemove (link : Link)
  /-- R92 -/
  | objectRemoveAll (link : Link)
  /-- R96 -/
  | stripSet (link : Link)
  /-- R185 -/
  | ownerSilenceTimerExpiry (link : Link)
  /-- R105 -/
  | vehicleState (link : Link)
  /-- R109 -/
  | bodyState (link : Link)
  /-- R107 -/
  | indicatorOffDelayExpiry
  /-- R108 -/
  | chassisSilenceTimerExpiry
  /-- R110 -/
  | bodySilenceTimerExpiry
  /-- R112 -/
  | trackUpdate (link : Link)
  /-- R115 -/
  | trackExpiry (place : Place)
  /-- R116 -/
  | trackDrop (link : Link)
  /-- R120 -/
  | holdTimerExpiry (zone : Zone)
  /-- R122 -/
  | dwellPeriodEnd (zone : Zone)
  /-- R123 -/
  | zoneAck (link : Link)
  /-- R132 -/
  | segmentTimerExpiry
  /-- R143 -/
  | viewRequest (link : Link)
  /-- R145 -/
  | viewMaskSet (link : Link)
  /-- R145 -/
  | viewMaskClear (link : Link)
  /-- R144 -/
  | causeTimerExpiry (cause : Cause)
  /-- R149 -/
  | showTimerExpiry
  /-- R173: a frame received without error: its identifier and payload. -/
  | canRequestFrame (port : CanPort) (ident : BitVec 11) (payload : List Byte)
  /-- R176 -/
  | spiExchangeStart
  /-- R176: the master's half of the exchange. -/
  | spiExchange (half : List Byte)
  /-- R177 -/
  | spiExchangeCutShort
  /-- R174 -/
  | canFrameAcknowledged (port : CanPort)
  /-- R174 -/
  | canArbitrationLoss (port : CanPort)
  /-- R174 -/
  | canBusError (port : CanPort)
  /-- R175 -/
  | canBusOff (port : CanPort)
  /-- R175 -/
  | canBusOffRecovery (port : CanPort)
  /-- R179 -/
  | unknownKind (link : Link)
  /-- R184 -/
  | statusQuery (link : Link)
  /-- R191 -/
  | serviceEnter (link : Link)
  /-- R191 -/
  | serviceExit (link : Link)
  /-- R192 -/
  | settingsWrite (link : Link)
  /-- R192 -/
  | settingsRead (link : Link)
  /-- R193 -/
  | settingsCommit (link : Link)
  /-- R194 -/
  | commitWriteComplete
  /-- R194 -/
  | commitWriteFailed
  /-- R194 -/
  | commitLimitExpiry
  /-- R190: power-on or the rise back to 9.0 V; whether the supply is below 18.0 V at that moment (R196). -/
  | coldReset (below18V : Bool)
  /-- R190 -/
  | settingsLoadEnd
  /-- R190 -/
  | settingsLoadLimitExpiry
  /-- R195: the line falls. -/
  | resetN
  /-- R195: the request. -/
  | reset (link : Link)
  /-- R196 -/
  | supplyFallBelow18V
  /-- R196 -/
  | supplyRiseTo18V
  /-- R196 -/
  | dipTimerExpiry
  /-- R196 -/
  | supplyRiseTo20V
  /-- R196 -/
  | supplyFallBelow20V
  /-- R196 -/
  | recoveryTimerExpiry
  /-- R197 -/
  | supplyStop
  /-- R195: the line rises. -/
  | resetNRise
  /-- R190 -/
  | settingsLoadNotAcknowledged
  deriving DecidableEq, Repr

end Sys2Proof
end

