-- ==== Sys2Proof/Config.lean ====
section
/-! DEFINITION. What the KS-4 fixes for the model: the periods and bounds its rules name, and the FREE VALUES, which the
spec does not give (opaque constants: nothing can be proved about their values). -/

namespace Sys2Proof.Config

/-! ## Periods, in milliseconds -/

/-- R4: the silence timer of a receiver. -/
abbrev silencePeriod : Nat := 100
/-- R23: the return timer. -/
abbrev returnPeriod : Nat := 33
/-- R12: one error window. -/
abbrev errorWindowPeriod : Nat := 1000
/-- R115: the age at which a track has expired. -/
abbrev trackLife : Nat := 300
/-- R122: one dwell period. -/
abbrev dwellPeriod : Nat := 100
/-- R190: the limit of the settings load. -/
abbrev loadLimit : Nat := 150
/-- R193: the limit of a commit in flight. -/
abbrev commitLimit : Nat := 400
/-- R196: the dip timer. -/
abbrev dipPeriod : Nat := 20
/-- R196: the recovery timer. -/
abbrev recoveryPeriod : Nat := 200

/-! ## Bounds -/

/-- R178: requests an inbound queue holds. -/
abbrev inboundLimit : Nat := 16
/-- R181: messages an outbound queue holds. -/
abbrev outboundLimit : Nat := 12
/-- R106: the speed in force while the chassis is unknown, and the top of the speed range. -/
abbrev topSpeed : Nat := 1200
/-- The byte a picture slot reads as where nothing was written since power-on (log 5, DESIGN CHOICE; R41 leaves it open). -/
abbrev blankPixel : BitVec 8 := 128
/-- The byte the settings memory reads as where nothing was written (log 6, DESIGN CHOICE). -/
abbrev blankSetting : BitVec 8 := 0xFF

/-! ## Free values -/

/-- FREE VALUE (log 17): whether pixel (row, column) of a glyph's 12 × 8 cell is foreground; 0.4: "the glyph shapes of the
96-character text set are not given". -/
opaque glyphPixel : (glyph row col : Nat) → Bool

/-- FREE VALUE (log 17): whether pixel (row, column) of an icon's 32 × 32 square is foreground; 0.4: "the form of the icon
set" is not given. -/
opaque iconPixel : (icon row col : Nat) → Bool

/-- FREE VALUE (log 17): the glyph number of a character the KS-4 writes itself (STARTING, HELD, NO CAMERA n, P C V U). -/
opaque glyphOf : Char → Nat

/-- FREE VALUE (log 16): how many rows of the MONITOR frame are drawn when a warm reset falls in it. -/
opaque monitorRowsDrawn : Nat → Nat

/-- FREE VALUE (log 16): how many rows of the RECORDER frame are drawn when a warm reset falls in it. -/
opaque recorderRowsDrawn : Nat → Nat

end Sys2Proof.Config
end

