-- ==== Sys2Proof/Machine/Wire.lean ====
section
/-! DEFINITION. Bytes on the wires (12.1 to 12.3): numbers in bytes, the two CRCs, and the packets of a camera link. -/

namespace Sys2Proof.Machine

/-! ## Numbers (R198) -/

/-- A number of 0 to 255 takes one byte (R198). -/
def byte (n : Nat) : Byte := BitVec.ofNat 8 n

/-- A yes/no field: 0 for no and 1 for yes (R198). -/
def yesNo (b : Bool) : Byte := if b then 1 else 0

/-- Two bytes in two's complement, most significant byte first (R198). -/
def be16 (n : Int) : List Byte :=
  let w := BitVec.ofInt 16 n
  [w.extractLsb' 8 8, w.extractLsb' 0 8]

/-- Four bytes, most significant first (R198). -/
def be32 (w : BitVec 32) : List Byte :=
  [w.extractLsb' 24 8, w.extractLsb' 16 8, w.extractLsb' 8 8, w.extractLsb' 0 8]

/-- Byte `i` of a list of bytes; 0 beyond its end. -/
def byteAt (bs : List Byte) (i : Nat) : Byte := bs.getD i 0

/-- The number in byte `i`. -/
def u8At (bs : List Byte) (i : Nat) : Nat := (byteAt bs i).toNat

/-- The two bytes at `i`, most significant first. -/
def w16At (bs : List Byte) (i : Nat) : BitVec 16 := byteAt bs i ++ byteAt bs (i + 1)

/-- The two bytes at `i` as a number of 0 to 65535. -/
def u16At (bs : List Byte) (i : Nat) : Nat := (w16At bs i).toNat

/-- The two bytes at `i` in two's complement (R198). -/
def s16At (bs : List Byte) (i : Nat) : Int := (w16At bs i).toInt

/-- The four bytes at `i`, most significant first. -/
def w32At (bs : List Byte) (i : Nat) : BitVec 32 := w16At bs i ++ w16At bs (i + 2)

/-! ## CRCs -/

/-- One bit of CRC-8 with generator x^8 + x^2 + x + 1 (R14). -/
def crc8Bit (c : Byte) : Byte := if c.msb then (c <<< 1) ^^^ 0x07#8 else c <<< 1

/-- One byte of CRC-8, most significant bit first (R14). -/
def crc8Byte (c b : Byte) : Byte := Nat.repeat crc8Bit 8 (c ^^^ b)

/-- CRC-8 with initial value 0 and no final inversion (R14). -/
def crc8 (bs : List Byte) : Byte := bs.foldl crc8Byte 0

/-- One bit of CRC-16 with generator x^16 + x^12 + x^5 + 1 (R169). -/
def crc16Bit (c : BitVec 16) : BitVec 16 := if c.msb then (c <<< 1) ^^^ 0x1021#16 else c <<< 1

/-- One byte of CRC-16, most significant bit first (R169). -/
def crc16Byte (c : BitVec 16) (b : Byte) : BitVec 16 := Nat.repeat crc16Bit 8 (c ^^^ (b ++ 0#8))

/-- CRC-16 with initial value 0xFFFF and no final inversion (R169, 11.1). -/
def crc16 (bs : List Byte) : BitVec 16 := bs.foldl crc16Byte 0xFFFF#16

/-- The CRC-16 of the bytes, in two bytes. -/
def crc16Bytes (bs : List Byte) : List Byte :=
  [(crc16 bs).extractLsb' 8 8, (crc16 bs).extractLsb' 0 8]

/-! ## Packets of a camera link (R199) -/

/-- The frame-start word (Table 12-1). -/
def frameStartWord : List Byte := [0xC7, 0x1E, 0xE1, 0x78]

/-- The line-start marker (Table 12-1). -/
def lineStartMarker : List Byte := [0x96, 0x69]

/-- What a packet is (R199). `body` is the bytes after the row number. -/
inductive Packet where
  | frameStart (cycle : Nat)
  | line (row : Nat) (body : List Byte)
  | blanking (row : Nat) (body : List Byte)
  | notRecord
  deriving DecidableEq, Repr

/-- R199: a receiver classifies each packet by its first bytes. -/
def classify (p : List Byte) : Packet :=
  if p.take 4 = frameStartWord ∧ 5 ≤ p.length then .frameStart (u8At p 4 % 16)
  else if p.take 2 = lineStartMarker ∧ 4 ≤ p.length then
    if 480 ≤ u16At p 2 ∧ u16At p 2 ≤ 483 then .blanking (u16At p 2) (p.drop 4) else .line (u16At p 2) (p.drop 4)
  else .notRecord

/-- The pixel bytes a line record supplies, at most 1600: the bytes between the row number and the last byte (R199). -/
def linePixels (body : List Byte) : List Byte := body.dropLast.take 1600

/-- A line record that ends before its 1600 pixel bytes are complete: a packet of fewer than 1605 bytes (R2, R199). -/
def lineShort (body : List Byte) : Bool := body.length < 1601

/-- The check byte of a line record: its last byte, 0 where it has none (R199). -/
def lineCheckByte (body : List Byte) : Byte := body.getLastD 0

/-- The check byte of a blanking record: its second-to-last byte; in a packet of 5 bytes the last byte; 0 where there is no
trailer (R199). -/
def blankingCheckByte (body : List Byte) : Byte :=
  if body.length ≤ 1 then body.getLastD 0 else body.dropLast.getLastD 0

/-- The status slot byte of a blanking record: its last byte, 0 where there is no trailer (R199). -/
def blankingStatusByte (body : List Byte) : Byte := body.getLastD 0

/-- The status slot byte a line record in place 481 supplies: the byte before its last, 0 where the packet does not hold it
after its row number (R199). -/
def lineStatusByte (body : List Byte) : Byte := body.dropLast.getLastD 0

end Sys2Proof.Machine
end

