-- ==== Sys2Proof/Machine/Settings.lean ====
section
/-! DEFINITION. The settings: a body of eight sections as bytes (12.5), what each block reads from it, and the built-in
defaults (Table 11-2). -/

namespace Sys2Proof.Machine

/-- The eight sections of a settings record (Table 12-5), section n at index n − 1, each as its bytes. -/
structure Body where
  sections : Vector (List Byte) 8
  deriving DecidableEq, Repr

/-- The number of bytes of section n in format version 1 (Table 12-5); 0 for a number that is no section's. -/
def sectionLength (n : Nat) : Nat := [28, 76, 320, 202, 352, 158, 197, 2].getD (n - 1) 0

/-- The bytes of section n; none where there is no such section. -/
def Body.sec (b : Body) (n : Nat) : List Byte := b.sections.toList.getD (n - 1) []

/-- The one-byte number at an offset of a section. -/
def Body.u8 (b : Body) (sec off : Nat) : Nat := u8At (b.sec sec) off

/-- The yes/no field at an offset of a section. -/
def Body.yes (b : Body) (sec off : Nat) : Bool := b.u8 sec off ≠ 0

/-- The two-byte number at an offset of a section, in two's complement (R198). -/
def Body.s16 (b : Body) (sec off : Nat) : Int := s16At (b.sec sec) off

/-- The two bytes at an offset of a section. -/
def Body.w16 (b : Body) (sec off : Nat) : BitVec 16 := w16At (b.sec sec) off

/-- The bytes of the eight sections in order. -/
def Body.bytes (b : Body) : List Byte := b.sections.toList.flatten

/-- Every section has the length its number has (11.1: "every section has a fixed length"). -/
def Body.wf (b : Body) : Bool :=
  (List.range 8).all fun i => (b.sec (i + 1)).length == sectionLength (i + 1)

/-- Bytes of a list replaced from an offset on, the list's length kept. -/
def splice (old : List Byte) (off : Nat) (new : List Byte) : List Byte :=
  (old.take off ++ new ++ old.drop (off + new.length)).take old.length

/-- A body with bytes of section n replaced (R192). -/
def Body.write (b : Body) (n off : Nat) (new : List Byte) : Body :=
  { sections := b.sections.mapIdx fun i old => if i + 1 = n then splice old off new else old }

/-! ## Section 1, Links -/

/-- The CAN identifiers of link i (CHASSIS 0, BODY 1): requests in, replies out, notices out (Table 10-2); the DETECTOR link has
none (R186). -/
def Body.canId (b : Body) (i which : Nat) : Int := b.s16 1 (6 * i + 2 * which)

/-- The chassis silence limit in ms (Table 6-2). -/
def Body.chassisSilenceLimit (b : Body) : Nat := (b.s16 1 12).toNat

/-- The body silence limit in ms (Table 6-2). -/
def Body.bodySilenceLimit (b : Body) : Nat := (b.s16 1 14).toNat

/-- The owner timeout of a link in seconds (R79). -/
def Body.ownerTimeout (b : Body) (l : Link) : Nat := b.u8 1 (16 + l.ix.val)

/-- Whether the notice set of link i includes the notice kind of the given bit (R203). -/
def Body.wantsNotice (b : Body) (i bit : Nat) : Bool := (byteAt (b.sec 1) (19 + i)).getLsbD bit

/-- An entry of a link's sector map, the first (0) or the second (1): a sector, or none (R78). -/
def Body.sectorEntry (b : Body) (l : Link) (half : Nat) : Option Nat :=
  let v := b.u8 1 (22 + 2 * l.ix.val + half)
  if v < 6 then some v else none

/-! ## Section 2, Cameras -/

/-- The settings of one camera (Table 3-1 and the check policy). -/
structure CameraSettings where
  required : Bool
  rTop : Nat
  rBot : Nat
  target : Nat
  tolerance : Nat
  upInterval : Nat
  downInterval : Nat
  gainFloor : Nat
  gainCeiling : Nat
  initialGain : Nat
  fitted : Bool
  startDuty : Nat
  stopDuty : Nat
  stopTime : Nat
  heaterOn : Int
  heaterOff : Int
  deriving DecidableEq, Repr

/-- The settings of a camera as the section holds them: 19 bytes each, the items of Table 3-1 in its order (Table 12-5). -/
def Body.camera (b : Body) (c : Camera) : CameraSettings :=
  let o := 19 * c.val
  { required := b.yes 2 o
    rTop := (b.s16 2 (o + 1)).toNat
    rBot := (b.s16 2 (o + 3)).toNat
    target := b.u8 2 (o + 5)
    tolerance := b.u8 2 (o + 6)
    upInterval := b.u8 2 (o + 7)
    downInterval := b.u8 2 (o + 8)
    gainFloor := b.u8 2 (o + 9)
    gainCeiling := b.u8 2 (o + 10)
    initialGain := b.u8 2 (o + 11)
    fitted := b.yes 2 (o + 12)
    startDuty := b.u8 2 (o + 13)
    stopDuty := b.u8 2 (o + 14)
    stopTime := b.u8 2 (o + 15)
    heaterOn := b.s16 2 (o + 16)
    heaterOff := b.u8 2 (o + 18) }

/-! ## Section 3, Calibration -/

/-- One rung of a calibration ladder (Table 4-2). -/
structure Rung where
  depth : Int
  row : Int
  centre : Int
  scale : Int
  deriving DecidableEq, Repr

/-- A calibration record (Table 4-2). -/
structure Calibration where
  calibrated : Bool
  depthAlong : Bool
  x0 : Int
  y0 : Int
  depthSign : Int
  acrossSign : Int
  rungs : List Rung
  deriving DecidableEq, Repr

/-- The calibration record of a camera: 80 bytes each, the fields of Table 4-2 in its order, the nine rungs last. A sign is
coded 0 for +1 and 1 for −1 (R198). -/
def Body.calibration (b : Body) (c : Camera) : Calibration :=
  let o := 80 * c.val
  { calibrated := b.yes 3 o
    depthAlong := b.yes 3 (o + 1)
    x0 := b.s16 3 (o + 2)
    y0 := b.s16 3 (o + 4)
    depthSign := if b.yes 3 (o + 6) then -1 else 1
    acrossSign := if b.yes 3 (o + 7) then -1 else 1
    rungs := (List.range 9).map fun k =>
      { depth := b.s16 3 (o + 8 + 8 * k), row := b.s16 3 (o + 10 + 8 * k)
        centre := b.s16 3 (o + 12 + 8 * k), scale := b.s16 3 (o + 14 + 8 * k) } }

/-! ## Section 4, Zones -/

/-- A zone record (Table 6-4). -/
structure ZoneSettings where
  enabled : Bool
  xMin : Int
  xMax : Int
  yMin : Int
  yMax : Int
  arm : BitVec 9
  classes : BitVec 4
  contacts : BitVec 3
  warnConds : BitVec 9
  warnClasses : BitVec 4
  dwellLimit : Nat
  holdTime : Nat
  ackRights : BitVec 3
  chimeOnCaution : Bool
  preferredView : Option Nat
  colourClear : Nat
  colourCaution : Nat
  colourWarning : Nat
  deriving DecidableEq, Repr

/-- The record of a zone: 25 bytes each, the fields of Table 6-4 in its order. -/
def Body.zone (b : Body) (z : Zone) : ZoneSettings :=
  let o := 25 * z.val
  { enabled := b.yes 4 o
    xMin := b.s16 4 (o + 1)
    xMax := b.s16 4 (o + 3)
    yMin := b.s16 4 (o + 5)
    yMax := b.s16 4 (o + 7)
    arm := (b.w16 4 (o + 9)).setWidth 9
    classes := (byteAt (b.sec 4) (o + 11)).setWidth 4
    contacts := (byteAt (b.sec 4) (o + 12)).setWidth 3
    warnConds := (b.w16 4 (o + 13)).setWidth 9
    warnClasses := (byteAt (b.sec 4) (o + 15)).setWidth 4
    dwellLimit := (b.s16 4 (o + 16)).toNat
    holdTime := b.u8 4 (o + 18)
    ackRights := (byteAt (b.sec 4) (o + 19)).setWidth 3
    chimeOnCaution := b.yes 4 (o + 20)
    preferredView := if b.u8 4 (o + 21) = 255 then none else some (b.u8 4 (o + 21))
    colourClear := b.u8 4 (o + 22)
    colourCaution := b.u8 4 (o + 23)
    colourWarning := b.u8 4 (o + 24) }

/-- The admission floor (R113). -/
def Body.admissionFloor (b : Body) : Nat := b.u8 4 200

/-- The count floor (R118). -/
def Body.countFloor (b : Body) : Nat := b.u8 4 201

/-! ## Section 5, Views -/

/-- A pane of a view (Table 8-1). -/
structure Pane where
  camera : Camera
  half : Bool
  cx : Int
  cy : Int
  px : Int
  py : Int
  w : Int
  h : Int
  deriving DecidableEq, Repr

/-- Whether a view has Defined yes. -/
def Body.viewDefined (b : Body) (v : Nat) : Bool := b.yes 5 (44 * v)

/-- Pane k of view v: 14 bytes each in the order of Table 8-1. -/
def Body.pane (b : Body) (v k : Nat) : Pane :=
  let o := 44 * v + 2 + 14 * k
  { camera := Fin.ofNat 4 (b.u8 5 o)
    half := b.yes 5 (o + 1)
    cx := b.s16 5 (o + 2)
    cy := b.s16 5 (o + 4)
    px := b.s16 5 (o + 6)
    py := b.s16 5 (o + 8)
    w := b.s16 5 (o + 10)
    h := b.s16 5 (o + 12) }

/-- The panes of view v; none where the view is not defined (R139). -/
def Body.panes (b : Body) (v : Nat) : List Pane :=
  if b.viewDefined v then (List.range (min 3 (b.u8 5 (44 * v + 1)))).map (b.pane v) else []

/-! ## Section 6, Causes -/

/-- The sources of a view cause (Table 8-2). -/
inductive CauseSource where
  | reverse | nearsideIndicator | liftActive | doorOpen | stepOccupied | zoneWarning | linkRequest
  deriving DecidableEq, Repr

/-- The source a code stands for (R198). -/
def CauseSource.ofCode (n : Nat) : CauseSource :=
  [CauseSource.reverse, .nearsideIndicator, .liftActive, .doorOpen, .stepOccupied, .zoneWarning, .linkRequest].getD n .linkRequest

/-- A cause record (Table 8-2). -/
structure CauseSettings where
  enabled : Bool
  source : CauseSource
  zones : BitVec 8
  view : Nat
  priority : Nat
  latched : Bool
  urgent : Bool
  maxSpeed : Nat
  serveTime : Nat
  pendingLife : Nat
  deriving DecidableEq, Repr

/-- The record of a cause: 13 bytes each, the fields of Table 8-2 in its order. -/
def Body.cause (b : Body) (i : Cause) : CauseSettings :=
  let o := 13 * i.val
  { enabled := b.yes 6 o
    source := CauseSource.ofCode (b.u8 6 (o + 1))
    zones := byteAt (b.sec 6) (o + 2)
    view := b.u8 6 (o + 3)
    priority := b.u8 6 (o + 4)
    latched := b.yes 6 (o + 5)
    urgent := b.yes 6 (o + 6)
    maxSpeed := (b.s16 6 (o + 7)).toNat
    serveTime := (b.s16 6 (o + 9)).toNat
    pendingLife := (b.s16 6 (o + 11)).toNat }

/-- The minimum show time in tenths of a second. -/
def Body.minShowTime (b : Body) : Nat := b.u8 6 156

/-- The default view. -/
def Body.defaultView (b : Body) : Nat := b.u8 6 157

/-! ## Section 7, Appearance -/

/-- A colour (Y, Cb, Cr). -/
structure Colour where
  y : Nat
  cb : Nat
  cr : Nat
  deriving DecidableEq, Repr

/-- The colour of a palette entry (R166). -/
def Body.paletteColour (b : Body) (e : Nat) : Colour := ⟨b.u8 7 (4 * e), b.u8 7 (4 * e + 1), b.u8 7 (4 * e + 2)⟩

/-- The alpha of a palette entry (R166). -/
def Body.paletteAlpha (b : Body) (e : Nat) : Nat := b.u8 7 (4 * e + 3)

/-- A strip assignment (Table 9-6); `target` is the zone or camera, 255 for ANY. -/
structure StripAssignment where
  kind : Nat
  icon : Nat
  entry : Nat
  target : Nat
  deriving DecidableEq, Repr

/-- The assignment of a strip position: 4 bytes each. -/
def Body.strip (b : Body) (p : Nat) : StripAssignment :=
  let o := 64 + 4 * p
  ⟨b.u8 7 o, b.u8 7 (o + 1), b.u8 7 (o + 2), b.u8 7 (o + 3)⟩

/-- The chime volume in per cent (R133). -/
def Body.chimeVolume (b : Body) : Nat := b.u8 7 192

/-- The palette entry of the track marker of class i, in the order of Table 6-3. -/
def Body.markerColour (b : Body) (i : Nat) : Nat := b.u8 7 (193 + i)

/-! ## Section 8, Conditions -/

/-- The moving threshold in tenths of km/h (Table 6-2). -/
def Body.movingThreshold (b : Body) : Nat := b.u8 8 0

/-- The indicator off-delay in tenths of a second (Table 6-2). -/
def Body.offDelay (b : Body) : Nat := b.u8 8 1

/-! ## The built-in defaults (Table 11-2). Bytes that the tables of defaults do not state (the further fields of an
uncalibrated camera, of an undefined view, of a strip position assigned to nothing) are 0: DESIGN CHOICE, log 4. -/

/-- Default Links section: identifiers of Table 10-2, limits 500 ms, timeouts 5 s, every notice kind, maps of Table 5-1. -/
def defaultLinks : List Byte :=
  be16 0x310 ++ be16 0x311 ++ be16 0x312 ++ be16 0x320 ++ be16 0x321 ++ be16 0x322 ++ be16 500 ++ be16 500 ++
    [5, 5, 5, 0x3F, 0x3F, 0x3F, 0, 1, 2, 3, 4, 5]

/-- Default settings of one camera: check policy AUTO and the defaults of Table 3-1. -/
def defaultCamera : List Byte :=
  [0] ++ be16 160 ++ be16 479 ++ [110, 12, 4, 2, 0, 63, 32, 0, 60, 20, 30] ++ be16 3 ++ [8]

/-- Default zone record (Table 6-4). -/
def defaultZone : List Byte :=
  List.replicate 16 0 ++ be16 30 ++ [10, 0, 0, 255, 0, 0, 0]

/-- Default view 0: one pane of camera 1, FULL, crop (0, 32), origin (240, 32), 800 × 448 (R139). -/
def defaultView0 : List Byte :=
  [1, 1, 1, 0] ++ be16 0 ++ be16 32 ++ be16 240 ++ be16 32 ++ be16 800 ++ be16 448 ++ List.replicate 28 0

/-- Default cause record (Table 8-2). -/
def defaultCause : List Byte := List.replicate 9 0 ++ be16 50 ++ be16 100

/-- Default palette (Table 9-5). -/
def defaultPalette : List Byte :=
  [235, 128, 128, 16] ++ [16, 128, 128, 16] ++ [128, 128, 128, 16] ++ [145, 54, 34, 16] ++
  [170, 40, 170, 16] ++ [82, 90, 240, 16] ++ [41, 240, 110, 16] ++ [210, 16, 146, 16] ++
  [170, 166, 16, 16] ++ [106, 202, 222, 16] ++ [170, 40, 170, 10] ++ [82, 90, 240, 10] ++
  [145, 54, 34, 8] ++ [16, 128, 128, 8] ++ [235, 128, 128, 8] ++ [16, 128, 128, 0]

/-- The built-in defaults of Table 11-2. -/
def Body.builtIn : Body :=
  { sections := #v[
      defaultLinks,
      (List.replicate 4 defaultCamera).flatten,
      List.replicate 320 0,
      (List.replicate 8 defaultZone).flatten ++ [20, 40],
      defaultView0 ++ List.replicate 308 0,
      (List.replicate 12 defaultCause).flatten ++ [15, 0],
      defaultPalette ++ List.replicate 128 0 ++ [25, 7, 8, 6, 2],
      [5, 10]] }

/-! ## The record in the settings memory (R188, R203) -/

/-- The bytes of a whole record: version 1, length 1341, the eight sections, CRC-16 (R203). -/
def Body.record (b : Body) : List Byte :=
  let front := be16 1 ++ be16 1341 ++ b.bytes
  front ++ crc16Bytes front

/-- The body a list of bytes cuts into by the lengths of the sections. -/
def Body.ofBytes (bs : List Byte) : Body :=
  { sections := #v[bs.take 28, (bs.drop 28).take 76, (bs.drop 104).take 320, (bs.drop 424).take 202,
      (bs.drop 626).take 352, (bs.drop 978).take 158, (bs.drop 1136).take 197, (bs.drop 1333).take 2] }

/-- The body a record carries, where its version, length and CRC-16 pass (R188). -/
def Body.ofRecord (bs : List Byte) : Option Body :=
  if u16At bs 0 = 1 ∧ u16At bs 2 = 1341 ∧ (bs.drop 1339).take 2 = crc16Bytes (bs.take 1339)
  then some (Body.ofBytes ((bs.drop 4).take 1335)) else none

end Sys2Proof.Machine
end

