-- ==== Sys2Proof/Machine/State.lean ====
section
/-! DEFINITION. The state of the KS-4: every piece of state the spec gives it, as plain data, and the machine right after a
cold reset. -/

namespace Sys2Proof.Machine

/-- Bytes at addresses, in the canonical form `Memory.wf` (Machine/Ops.lean): addresses strictly rising, no entry equal to
what an unlisted address reads as. -/
abbrev Memory := List Host.Cell

/-- A timer: stopped (or expired), or running with the milliseconds it has left. -/
abbrev Timer := Option Nat

/-- Whether the part is stopped (R197), loading its settings (R190) or running. -/
inductive Phase where
  | stopped | loading | running
  deriving DecidableEq, Repr

/-! ## Camera link receivers (chapter 1) -/

/-- Table 1-2. -/
inductive LockState where
  | silent | search | confirm | locked
  deriving DecidableEq, Repr

/-- R15. -/
inductive CheckMode where
  | trial | checked | unchecked
  deriving DecidableEq, Repr

/-- A camera status record's eight fields (Table 1-5). -/
structure StatusRecord where
  kind : Nat
  checksSent : Bool
  temperature : Int
  misted : Bool
  heaterRunning : Bool
  sensorFault : Bool
  gain : Nat
  duty : Nat
  deriving DecidableEq, Repr

/-- A fill that a receiver has open. -/
structure Fill where
  /-- the FILLING slot -/
  slot : SlotIx
  /-- the frame's cycle position -/
  cycle : Nat
  /-- groups marked with a sequence fault in this frame (R2) -/
  faulted : List Nat
  /-- groups marked FAILED in this frame (R18) -/
  failed : Nat
  /-- the verdict of group 59 has been given (R19) -/
  judged : Bool
  deriving DecidableEq, Repr

/-- A camera link receiver (Table 1-7). `place` is 0 where there is no count. -/
structure Receiver where
  lock : LockState
  place : Nat
  anchor : Option Nat
  slips : Nat
  fill : Option Fill
  mode : CheckMode
  trial : Nat
  errorWindow : Timer
  failures : Nat
  degraded : Bool
  assembly : List Byte
  nextPos : Nat
  previous : Option (List Byte)
  accepted : Option StatusRecord
  mismatches : Nat
  notFollowing : Bool
  failedGroups : Nat
  returnTimer : Timer
  silenceTimer : Timer
  /-- the return word last put on the back channel (R23) -/
  lastWord : Option (List Byte)
  deriving DecidableEq, Repr

/-! ## Picture memory (chapter 2) -/

/-- Table 2-2. -/
inductive SlotState where
  | free | filling | latest | superseded
  deriving DecidableEq, Repr

/-- The three holders a slot may have (R26). -/
structure Holders where
  monitor : Bool
  recorder : Bool
  copy : Bool
  deriving DecidableEq, Repr

/-- An entry of a group map (Table 2-1). -/
inductive GroupMark where
  | good | concealed
  deriving DecidableEq, Repr

/-- The two metering figures of a group (R28). -/
structure Figures where
  luma : Nat
  glare : Nat
  deriving DecidableEq, Repr

/-- A picture slot (Table 2-1); the hold count is the number of holders (R26). -/
structure PicSlot where
  state : SlotState
  holders : Holders
  pixels : Memory
  groups : Vector GroupMark 60
  figures : Vector Figures 60
  deriving DecidableEq, Repr

/-- A concealment copy in flight (R31): its group, the slot it reads (none: grey), the slot it writes (none: its fill was
abandoned and its writes are discarded, R32). -/
structure Copy where
  group : Nat
  source : Option SlotIx
  target : Option SlotIx
  deriving DecidableEq, Repr

/-- Table 2-3. -/
inductive Freshness where
  | fresh | stale | lost
  deriving DecidableEq, Repr

/-- The picture memory of one camera. -/
structure Picture where
  slots : Vector PicSlot 4
  latest : Option SlotIx
  age : Nat
  freshness : Freshness
  /-- the age as judged at the last frame start, or as set by a completion since (R40) -/
  shownAge : Nat
  copy : Option Copy
  deriving DecidableEq, Repr

/-! ## Exposure regulators (chapter 3) -/

/-- The result of the last frame metered (Table 3-2). -/
structure Reading where
  mean : Nat
  glare : Bool
  deriving DecidableEq, Repr

/-- An exposure regulator (Table 3-2). -/
structure Regulator where
  gain : Nat
  duty : Nat
  low : Nat
  high : Nat
  stopTimer : Timer
  heater : Bool
  reading : Option Reading
  deriving DecidableEq, Repr

/-! ## The overlay object table (chapter 5) -/

/-- How an object is placed. -/
inductive Anchor where
  | screen | ground
  deriving DecidableEq, Repr

/-- Table 5-2. -/
inductive Blink where
  | none | slow | fast
  deriving DecidableEq, Repr

/-- A point: (column, row) for SCREEN, (x, y) for GROUND (R81). -/
structure Pt where
  a : Int
  b : Int
  deriving DecidableEq, Repr

/-- The sixteen character places of a TEXT record, its length and cursor (R83). -/
structure TextBody where
  glyphs : Vector Nat 16
  length : Nat
  cursor : Nat
  deriving DecidableEq, Repr

/-- The geometry of an object, by its kind (R81, R83). -/
inductive Shape where
  | segment (p1 p2 : Pt) (thickness : Nat)
  | box (p1 p2 : Pt) (filled : Bool) (thickness : Nat)
  | text (origin : Pt) (scale : Nat) (body : TextBody)
  | distanceMark (depth a1 a2 : Int) (thickness : Nat)
  deriving DecidableEq, Repr

/-- An object record (Table 5-2). -/
structure ObjRecord where
  owner : Link
  anchor : Anchor
  cameras : BitVec 4
  outputs : BitVec 2
  layer : Nat
  colour : Nat
  blink : Blink
  showConds : BitVec 9
  lifetime : Nat
  marked : Bool
  shape : Shape
  deriving DecidableEq, Repr

/-- The overlay object table: EMPTY slots are `none`; the strip sets are per link in the order CHASSIS, BODY, DETECTOR. -/
structure ObjectTable where
  slots : Vector (Option ObjRecord) 96
  lit : Vector (BitVec 32) 3
  blink : Vector (BitVec 32) 3
  deriving DecidableEq, Repr

/-! ## Vehicle state, tracks and zones (chapter 6) -/

/-- The condition set (Table 6-1). -/
structure Conditions where
  moving : Bool
  reverse : Bool
  nearsideIndicator : Bool
  doorOpen : Bool
  liftActive : Bool
  stepOccupied : Bool
  chassisUnknown : Bool
  bodyUnknown : Bool
  service : Bool
  deriving DecidableEq, Repr

/-- R105. -/
inductive Gear where
  | forward | neutral | reverse
  deriving DecidableEq, Repr

/-- The raw chassis fields (R105). -/
structure RawChassis where
  speed : Nat
  gear : Gear
  nearside : Bool
  door : Bool
  deriving DecidableEq, Repr

/-- The vehicle state block. -/
structure Vehicle where
  conds : Conditions
  raw : Option RawChassis
  chassisTimer : Timer
  bodyTimer : Timer
  offDelay : Timer
  deriving DecidableEq, Repr

/-- Table 6-3. -/
inductive TrackClass where
  | pedestrian | cyclist | vehicle | unknown
  deriving DecidableEq, Repr

/-- A track entry (Table 6-3). -/
structure Track where
  source : Link
  id : Nat
  cls : TrackClass
  x : Int
  y : Int
  confidence : Nat
  age : Nat
  deriving DecidableEq, Repr

/-- The three contact inputs. -/
structure Contacts where
  stepLeft : Bool
  stepRight : Bool
  curtain : Bool
  deriving DecidableEq, Repr

/-- The track table. -/
structure Tracks where
  places : Vector (Option Track) 16
  contacts : Contacts
  deriving DecidableEq, Repr

/-- Table 6-6. -/
inductive ZoneState where
  | idle | clear | caution | warning | hold
  deriving DecidableEq, Repr

/-- The held level of a zone, CAUTION or WARNING. -/
inductive Level where
  | caution | warning
  deriving DecidableEq, Repr

/-- A zone runtime record (Table 6-5). -/
structure ZoneRec where
  state : ZoneState
  held : Level
  occupancy : Nat
  warnMark : Bool
  acked : Bool
  dwell : Nat
  dwellTimer : Timer
  holdTimer : Timer
  deriving DecidableEq, Repr

/-! ## The alert output unit (chapter 7) -/

/-- R131. -/
inductive ChimeLevel where
  | off | caution | warning
  deriving DecidableEq, Repr

/-- Table 7-3. -/
inductive Segment where
  | c1 | c2 | w1 | w2
  deriving DecidableEq, Repr

/-- What the alert unit copies of a zone (7.1). -/
structure ZoneFace where
  state : ZoneState
  held : Level
  acked : Bool
  deriving DecidableEq, Repr

/-- The alert output unit (Table 7-1). -/
structure Alert where
  started : Bool
  /-- the chime on caution flags, bit z for zone z, as the unit last read them (R136) -/
  flags : BitVec 8
  copies : Vector ZoneFace 8
  level : ChimeLevel
  segment : Option Segment
  segmentTimer : Timer
  toneDuty : Nat
  hzWarn : Bool
  hzCaution : Bool
  deriving DecidableEq, Repr

/-! ## The view arbiter (chapter 8) -/

/-- Table 8-3. -/
inductive Stage where
  | quiet | pending | inService
  deriving DecidableEq, Repr

/-- The runtime of a cause: stage and timer (LATCHED causes) and the mask set, bit i for link i (R198). -/
structure CauseRec where
  stage : Stage
  timer : Timer
  masks : BitVec 3
  deriving DecidableEq, Repr

/-- The view arbiter (Table 8-3). -/
structure Arbiter where
  shownView : Nat
  shownCause : Option Cause
  showTimer : Timer
  causes : Vector CauseRec 12
  deriving DecidableEq, Repr

/-! ## Supply and settings (chapter 11) -/

/-- R196. -/
inductive SupplyState where
  | normal | crank
  deriving DecidableEq, Repr

/-- The supply monitor. -/
structure Supply where
  state : SupplyState
  dip : Timer
  recovery : Timer
  deriving DecidableEq, Repr

/-- Table 11-3. -/
inductive SettingsState where
  | valid | defaulted | modified
  deriving DecidableEq, Repr

/-- Table 11-3. -/
inductive WriteResult where
  | none | done | failed
  deriving DecidableEq, Repr

/-- The settings memory: its bytes, and whether the last write to it failed or was cut off, so that what it holds is not a
valid record (R194, R197). -/
structure SettingsMemory where
  cells : Memory
  spoiled : Bool
  deriving DecidableEq, Repr

/-- The settings block (Table 11-3), with the load of the cold reset and the external settings memory. -/
structure SettingsBlock where
  working : Body
  committed : Option Body
  staging : Option Body
  state : SettingsState
  serviceIn : Bool
  exitPending : Bool
  commit : Timer
  lastWrite : WriteResult
  load : Timer
  memory : SettingsMemory
  deriving DecidableEq, Repr

/-! ## Composers and output timing (chapter 9) -/

/-- What a frame snapshot holds of a camera (R155). -/
structure CameraShot where
  monitorSlot : Option SlotIx
  recorderSlot : Option SlotIx
  freshness : Freshness
  age : Nat
  lock : LockState
  degraded : Bool
  deriving DecidableEq, Repr

/-- The frame snapshot (R155). `settings` is the working copy at the frame start: the view definitions, the calibration
records, the Appearance section, the count floor and the zone records are read from it. -/
structure Snapshot where
  cameras : Vector CameraShot 4
  objects : Vector (Option ObjRecord) 96
  lit : Vector (BitVec 32) 3
  blink : Vector (BitVec 32) 3
  tracks : Vector (Option Track) 16
  zones : Vector ZoneRec 8
  conds : Conditions
  shownView : Nat
  chime : ChimeLevel
  supply : SupplyState
  settingsState : SettingsState
  settings : Body
  deriving DecidableEq, Repr

/-- A STARTING frame (R170) or a RUNNING one. -/
inductive FrameBody where
  | starting (supply : SupplyState)
  | running (snap : Snapshot)
  deriving DecidableEq, Repr

/-- An output frame being drawn: its number, the milliseconds at its start, and after a warm reset within it the rows from
which MONITOR and RECORDER are drawn black (R171). -/
structure Frame where
  number : BitVec 32
  millis : BitVec 32
  body : FrameBody
  blackFrom : Option (Nat × Nat)
  deriving DecidableEq, Repr

/-- The output timing generator's counters (R154, R169). -/
structure Generator where
  counter : BitVec 32
  millis : BitVec 32
  deriving DecidableEq, Repr

/-! ## Client link controllers (chapter 10) -/

/-- A request as it came: kind, tag, length field, and the bytes carried after the header. -/
structure Request where
  kind : Byte
  tag : Byte
  len : Nat
  carried : List Byte
  deriving DecidableEq, Repr

/-- The notice kinds in the order of Table 10-3. -/
inductive NoticeKind where
  | zone | camera | view | supply | settings | object
  deriving DecidableEq, Repr

/-- A reply or notice. `notice` is the notice's kind and subject; none for a reply. -/
structure OutMsg where
  notice : Option (NoticeKind × Nat)
  kind : Byte
  tag : Byte
  fields : List Byte
  deriving DecidableEq, Repr

/-- The four event flags (Table 10-5). -/
structure EventFlags where
  inboundOverrun : Bool
  noticesLost : Bool
  objectsPurged : Bool
  framing : Bool
  deriving DecidableEq, Repr

/-- What a port is sending: a CAN frame on the bus, or the KS-4's half of an SPI exchange in progress. -/
structure Transit where
  /-- the message as it stood when the sending began; none: an empty marker -/
  msg : Option OutMsg
  /-- the identifier of the CAN frame -/
  ident : Int
  /-- whether the end of the sending removes the head of the queue (R174, R176, R181, R187) -/
  removesHead : Bool
  /-- whether the master's half of the exchange is disregarded (R187) -/
  disregard : Bool
  deriving DecidableEq, Repr

/-- A client link controller. -/
structure LinkCtl where
  inbound : List Request
  outbound : List OutMsg
  flags : EventFlags
  ownerTimer : Timer
  transit : Option Transit
  busOff : Bool
  deriving DecidableEq, Repr

/-! ## The whole machine -/

/-- The KS-4. Vectors of four are by camera, of three by link (CHASSIS, BODY, DETECTOR), of eight by zone. -/
structure State where
  phase : Phase
  resetLineHigh : Bool
  receivers : Vector Receiver 4
  pictures : Vector Picture 4
  regulators : Vector Regulator 4
  table : ObjectTable
  vehicle : Vehicle
  tracks : Tracks
  zones : Vector ZoneRec 8
  alert : Alert
  arbiter : Arbiter
  frame : Option Frame
  generator : Generator
  links : Vector LinkCtl 3
  settings : SettingsBlock
  supply : Supply
  /-- the MODEL's own counter, which indexes the free values (log 16) -/
  free : Nat
  /-- the commands that wait, first in, first out -/
  pending : List Instr
  deriving DecidableEq, Repr

/-- The one fault. -/
inductive Fault where
  /-- Raised by FRAME_START_RECORD when a fill is to be opened and the camera has no FREE slot. R27 says that this never
  happens ("Whenever a camera's receiver opens a fill, that camera has a FREE slot"). Safe (log 8). -/
  | noFreeSlot
  deriving DecidableEq, Repr

/-- Why a command has no meaning. -/
inductive Refusal where
  /-- Answered by an arm of `exec` that has no meaning yet. Safe. -/
  | notModelled (mnemonic : String)
  deriving DecidableEq, Repr

/-! ## Values after reset -/

/-- Table 1-7, after cold reset; the last return word: none (log 4). -/
def Receiver.atReset : Receiver :=
  { lock := .silent, place := 0, anchor := none, slips := 0, fill := none, mode := .trial, trial := 0, errorWindow := none
    failures := 0, degraded := false, assembly := [], nextPos := 0, previous := none, accepted := none, mismatches := 0
    notFollowing := false, failedGroups := 0, returnTimer := none, silenceTimer := none, lastWord := none }

/-- No holder. -/
def Holders.none : Holders := ⟨false, false, false⟩

/-- R41: a FREE slot; its pixels, group map and figures as log 5 says. -/
def PicSlot.atReset : PicSlot :=
  { state := .free, holders := Holders.none, pixels := [], groups := Vector.replicate 60 .good
    figures := Vector.replicate 60 ⟨0, 0⟩ }

/-- R41. -/
def Picture.atReset : Picture :=
  { slots := Vector.replicate 4 PicSlot.atReset, latest := none, age := 255, freshness := .lost, shownAge := 255, copy := none }

/-- Table 3-5: the values a regulator takes from its camera's settings at a reset. -/
def Regulator.atReset (c : CameraSettings) : Regulator :=
  { gain := c.initialGain, duty := 0, low := 0, high := 0, stopTimer := none, heater := false, reading := none }

/-- R101, R102. -/
def ObjectTable.atReset : ObjectTable :=
  { slots := Vector.replicate 96 none, lit := Vector.replicate 3 0, blink := Vector.replicate 3 0 }

/-- Table 6-10: the conditions at their fallbacks. -/
def Conditions.atReset : Conditions :=
  { moving := true, reverse := false, nearsideIndicator := false, doorOpen := false, liftActive := false
    stepOccupied := false, chassisUnknown := true, bodyUnknown := true, service := false }

/-- Table 6-10. -/
def Vehicle.atReset : Vehicle :=
  { conds := Conditions.atReset, raw := none, chassisTimer := none, bodyTimer := none, offDelay := none }

/-- Table 6-10. -/
def Tracks.atReset : Tracks := { places := Vector.replicate 16 none, contacts := ⟨false, false, false⟩ }

/-- Table 6-10. -/
def ZoneRec.atReset : ZoneRec :=
  { state := .idle, held := .caution, occupancy := 0, warnMark := false, acked := false, dwell := 0, dwellTimer := none
    holdTimer := none }

/-- R137: the unit as a reset leaves it. -/
def Alert.atReset (started : Bool) (flags : BitVec 8) (duty : Nat) : Alert :=
  { started := started, flags := flags, copies := Vector.replicate 8 ⟨.idle, .caution, false⟩, level := .off, segment := none
    segmentTimer := none, toneDuty := duty, hzWarn := false, hzCaution := false }

/-- Table 8-4. -/
def Arbiter.atReset (defaultView : Nat) : Arbiter :=
  { shownView := defaultView, shownCause := none, showTimer := none
    causes := Vector.replicate 12 { stage := .quiet, timer := none, masks := 0 } }

/-- No flag set. -/
def EventFlags.clear : EventFlags := ⟨false, false, false, false⟩

/-- R187: empty queues, clear flags. -/
def LinkCtl.atReset : LinkCtl :=
  { inbound := [], outbound := [], flags := EventFlags.clear, ownerTimer := none, transit := none, busOff := false }

/-- R190: the settings block while the load of a cold reset runs. The working copy stands at the built-in defaults and the
settings state at DEFAULTED until the load ends (log 4). -/
def SettingsBlock.atReset (memory : SettingsMemory) : SettingsBlock :=
  { working := Body.builtIn, committed := none, staging := none, state := .defaulted, serviceIn := false
    exitPending := false, commit := none, lastWrite := .none, load := some Config.loadLimit, memory := memory }

/-- The machine right after a cold reset (R190), its settings load running; the settings memory is blank (log 6). -/
def State.reset : State :=
  { phase := .loading
    resetLineHigh := true
    receivers := Vector.replicate 4 Receiver.atReset
    pictures := Vector.replicate 4 Picture.atReset
    regulators := Vector.replicate 4 (Regulator.atReset (Body.builtIn.camera 0))
    table := ObjectTable.atReset
    vehicle := Vehicle.atReset
    tracks := Tracks.atReset
    zones := Vector.replicate 8 ZoneRec.atReset
    alert := Alert.atReset false 0 25
    arbiter := Arbiter.atReset 0
    frame := none
    generator := { counter := 0, millis := 0 }
    links := Vector.replicate 3 LinkCtl.atReset
    settings := SettingsBlock.atReset { cells := [], spoiled := false }
    supply := { state := .normal, dip := none, recovery := none }
    free := 0
    pending := [] }

end Sys2Proof.Machine
end

