-- ==== Sys2Proof/Machine/Ops.lean ====
section
/-! DEFINITION. The shared operations: memory in its canonical form, the homes of the parts of State, the queues of a link
controller, raising a notice, answering a request, and putting CAN frames on the bus. -/

namespace Sys2Proof.Machine

/-! ## Memory -/

/-- The canonical form over the byte `d` that an unlisted address reads as: addresses strictly rising, no entry equal to d. -/
abbrev Memory.wf (d : Byte) (m : Memory) : Prop := m.Pairwise (fun a b => a.1 < b.1) ∧ ∀ c ∈ m, c.2 ≠ d

/-- The byte at an address. -/
def Memory.read (d : Byte) (m : Memory) (a : Nat) : Byte := (m.lookup a).getD d

/-- The cells of bytes laid from an address on. -/
def Memory.cellsOf (d : Byte) (base : Nat) : List Byte → Memory
  | [] => []
  | b :: bs => if b = d then Memory.cellsOf d (base + 1) bs else (base, b) :: Memory.cellsOf d (base + 1) bs

/-- Bytes written from an address on. -/
def Memory.store (d : Byte) (m : Memory) (base : Nat) (bs : List Byte) : Memory :=
  m.filter (fun c => c.1 < base) ++ Memory.cellsOf d base bs ++ m.filter (fun c => base + bs.length ≤ c.1)

/-- The n bytes from address a on, of cells none of which lies below a. -/
def Memory.walk (d : Byte) : Nat → Nat → Memory → List Byte
  | 0, _, _ => []
  | n + 1, a, [] => d :: Memory.walk d n (a + 1) []
  | n + 1, a, (b, v) :: rest =>
    if b = a then v :: Memory.walk d n (a + 1) rest else d :: Memory.walk d n (a + 1) ((b, v) :: rest)

/-- The n bytes from an address on. -/
def Memory.load (d : Byte) (m : Memory) (base n : Nat) : List Byte :=
  Memory.walk d n base (m.filter (fun c => base ≤ c.1))

/-! ## Homes -/

/-- A link's controller. -/
def State.ctl (s : State) (l : Link) : LinkCtl := s.links[l.ix]

/-- A link's controller replaced. -/
def State.setCtl (s : State) (l : Link) (c : LinkCtl) : State := { s with links := s.links.set l.ix c }

/-- A camera's receiver. -/
def State.recv (s : State) (c : Camera) : Receiver := s.receivers[c]

/-- A camera's receiver replaced. -/
def State.setRecv (s : State) (c : Camera) (r : Receiver) : State := { s with receivers := s.receivers.set c r }

/-- A camera's picture memory. -/
def State.pict (s : State) (c : Camera) : Picture := s.pictures[c]

/-- A camera's picture memory replaced. -/
def State.setPict (s : State) (c : Camera) (p : Picture) : State := { s with pictures := s.pictures.set c p }

/-- A camera's exposure regulator. -/
def State.reg (s : State) (c : Camera) : Regulator := s.regulators[c]

/-- A camera's exposure regulator replaced. -/
def State.setReg (s : State) (c : Camera) (r : Regulator) : State := { s with regulators := s.regulators.set c r }

/-- A zone's runtime record. -/
def State.zoneRec (s : State) (z : Zone) : ZoneRec := s.zones[z]

/-- A zone's runtime record replaced. -/
def State.setZoneRec (s : State) (z : Zone) (r : ZoneRec) : State := { s with zones := s.zones.set z r }

/-- The working copy. -/
def State.body (s : State) : Body := s.settings.working

/-- The settings block replaced. -/
def State.setSettings (s : State) (b : SettingsBlock) : State := { s with settings := b }

/-- A duration in tenths of a second, in milliseconds. -/
def tenths (n : Nat) : Nat := 100 * n

/-! ## The queues of a link controller (10.4, 10.5) -/

/-- The sending in progress no longer ends with the head's removal: the head was replaced in place (R174, R176), pushed out
(R181). -/
def LinkCtl.detach (c : LinkCtl) : LinkCtl :=
  { c with transit := c.transit.map fun t => { t with removesHead := false } }

/-- R182: a notice reaches the controller. -/
def LinkCtl.pushNotice (c : LinkCtl) (m : OutMsg) : LinkCtl :=
  match c.outbound.findIdx? (fun q => q.notice == m.notice) with
  | some i => { (if i = 0 then c.detach else c) with outbound := c.outbound.set i m }
  | none =>
    if c.outbound.length < Config.outboundLimit then { c with outbound := c.outbound ++ [m] }
    else { c with flags := { c.flags with noticesLost := true } }

/-- R181: room is made for a reply in a full queue by removing its oldest notice. -/
def LinkCtl.makeRoom (c : LinkCtl) : LinkCtl :=
  if c.outbound.length < Config.outboundLimit then c
  else
    match c.outbound.findIdx? (fun q => q.notice.isSome) with
    | some i =>
      { (if i = 0 then c.detach else c) with
        outbound := c.outbound.eraseIdx i, flags := { c.flags with noticesLost := true } }
    | none => c

/-- R181: a reply joins the tail. -/
def LinkCtl.pushReply (c : LinkCtl) (m : OutMsg) : LinkCtl :=
  { c.makeRoom with outbound := c.makeRoom.outbound ++ [m] }

/-- R179: the outbound queue can take a reply. -/
def LinkCtl.canReply (c : LinkCtl) : Bool :=
  c.outbound.length < Config.outboundLimit || c.outbound.any fun m => m.notice.isSome

/-- The end of a sending that succeeds: the head leaves, unless the sending was detached (R174, R176). -/
def LinkCtl.finishSending (c : LinkCtl) : LinkCtl :=
  match c.transit with
  | some t => { c with transit := none, outbound := if t.removesHead then c.outbound.tail else c.outbound }
  | none => c

/-- R178: a request arrives: it joins the tail and restarts the owner silence timer, or is discarded at a full queue. -/
def LinkCtl.arrive (c : LinkCtl) (timeout : Nat) (r : Request) : LinkCtl :=
  if c.inbound.length < Config.inboundLimit then
    { c with inbound := c.inbound ++ [r], ownerTimer := some timeout }
  else { c with flags := { c.flags with inboundOverrun := true } }

/-- R187, warm reset of link i: queues emptied, flags cleared, owner silence timer restarted. An SPI exchange in progress runs to
its end and removes nothing, and its master's half is discarded. A message that a CAN port is sending is emptied with its queue and
lost, its frame with it, as R195 says of the reply of a RESET (log 13, DESIGN CHOICE). -/
def LinkCtl.warmReset (i : Nat) (c : LinkCtl) (timeout : Nat) : LinkCtl :=
  { c with
    inbound := [], outbound := [], flags := EventFlags.clear, ownerTimer := some timeout
    transit := if i < 2 then none else c.transit.map fun t => { t with removesHead := false, disregard := true } }

/-! ## Notices -/

/-- The place of a notice kind in Table 10-3, which is its bit in a notice set (R203). -/
def NoticeKind.index : NoticeKind → Nat
  | .zone => 0
  | .camera => 1
  | .view => 2
  | .supply => 3
  | .settings => 4
  | .object => 5

/-- A notice message: kinds 0x81 to 0x86, tag 0, fields beginning with the subject (R201). -/
def noticeMsg (k : NoticeKind) (subject : Nat) (fields : List Byte) : OutMsg :=
  { notice := some (k, subject), kind := byte (0x81 + k.index), tag := 0, fields := byte subject :: fields }

/-- A notice raised: it reaches every link whose notice set includes its kind (R182). Before the links have started none is
raised (R187, R196). -/
def State.raise (s : State) (k : NoticeKind) (subject : Nat) (fields : List Byte) : State :=
  { s with
    links :=
      if s.phase = .running then
        s.links.mapIdx fun i c =>
          if s.body.wantsNotice i k.index then c.pushNotice (noticeMsg k subject fields) else c
      else s.links }

/-! ## Sending on the CAN ports (R174) -/

/-- The CAN port of link i puts the head of its queue on the bus when it is sending nothing and is not in bus-off: a reply on
the reply identifier, a notice on the notice identifier (R174; log 12). -/
def LinkCtl.putUp (b : Body) (i : Nat) (c : LinkCtl) : LinkCtl :=
  match c.transit, c.busOff, c.outbound with
  | none, false, m :: _ =>
    { c with
      transit := some
        { msg := some m, ident := b.canId i (if m.notice.isSome then 2 else 1), removesHead := true, disregard := false } }
  | _, _, _ => c

/-- The end of every step of the running part: both CAN ports put up what they can (log 12). -/
def State.settle (s : State) : State :=
  { s with links := s.links.mapIdx fun i c => if i < 2 then c.putUp s.body i else c }

/-- A step of the running part; before the settings load has ended, and in the stopped part, the event finds no block that
takes it (R25, R187, R190, R197; log 2). -/
def whileRunning (s : State) (f : State → State) : Host.Outcome State Fault Refusal :=
  .next (if s.phase = .running then (f s).settle else s)

/-! ## Replies -/

/-- Table 10-1, in the order of its codes (R201). -/
inductive ResultCode where
  | done | notMapped | notOwner | wrongKind | unknownTrack | tableFull | notWarning | notPermitted | notInService | busy
  | invalid | unknownKind | malformed
  deriving DecidableEq, Repr

/-- The code on the wire (R201). -/
def ResultCode.code : ResultCode → Byte
  | .done => 0
  | .notMapped => 1
  | .notOwner => 2
  | .wrongKind => 3
  | .unknownTrack => 4
  | .tableFull => 5
  | .notWarning => 6
  | .notPermitted => 7
  | .notInService => 8
  | .busy => 9
  | .invalid => 10
  | .unknownKind => 11
  | .malformed => 12

/-- What a block answers: a result code and the result fields after it. -/
structure Answer where
  code : ResultCode
  fields : List Byte
  deriving DecidableEq, Repr

/-- A refusal carries its code alone (log 22). -/
def Answer.refuse (c : ResultCode) : Answer := ⟨c, []⟩

/-- DONE without result fields. -/
def Answer.done : Answer := ⟨.done, []⟩

/-- The reply message: the request's kind plus 0x40, or 0x7F for an unknown kind; the request's tag unchanged (R172, R201). -/
def replyMsg (r : Request) (a : Answer) : OutMsg :=
  { notice := none
    kind := if a.code = .unknownKind then 0x7F else r.kind + 0x40
    tag := r.tag
    fields := a.code.code :: a.fields }

/-- The reply enters the link's outbound queue (R181). -/
def State.reply (s : State) (l : Link) (r : Request) (a : Answer) : State :=
  s.setCtl l ((s.ctl l).pushReply (replyMsg r a))

end Sys2Proof.Machine
end

