-- ==== Sys2Proof/Machine/Exposure.lean ====
section
/-! DEFINITION. The exposure regulator of one camera (chapter 3): metering, streaks, steps, stop timer, heater demand. -/

namespace Sys2Proof.Machine

/-- R45: the groups of the metering window that the map marks GOOD. -/
def usedGroups (cfg : CameraSettings) (groups : Vector GroupMark 60) : List (Fin 60) :=
  (List.finRange 60).filter fun g =>
    cfg.rTop / 8 ≤ g.val && g.val < (cfg.rBot + 1) / 8 && groups[g] == .good

/-- R45, R46: the reading of a completed frame; none where no group of the window is GOOD. -/
def meter (cfg : CameraSettings) (groups : Vector GroupMark 60) (figures : Vector Figures 60) : Option Reading :=
  let used := usedGroups cfg groups
  let n := 6400 * used.length
  let luma := (used.map fun g => figures[g].luma).sum
  let glare := (used.map fun g => figures[g].glare).sum
  if n = 0 then none else some { mean := (luma + n / 2) / n, glare := n / 16 < glare }

/-- R48: a step-up that falls due. -/
def Regulator.stepUp (cfg : CameraSettings) (r : Regulator) : Regulator :=
  let r := { r with stopTimer := none }
  if r.gain < cfg.gainCeiling then { r with gain := r.gain + 1 }
  else if cfg.fitted ∧ r.duty = 0 then { r with duty := cfg.startDuty }
  else if 1 ≤ r.duty ∧ r.duty ≤ 99 then { r with duty := min (r.duty + 5) 100 }
  else r

/-- R49: a step-down that falls due; with a stop time of 0 the stop timer expires at once (R50). -/
def Regulator.stepDown (cfg : CameraSettings) (r : Regulator) : Regulator :=
  if cfg.stopDuty < r.duty then { r with duty := max (r.duty - 5) cfg.stopDuty }
  else if r.duty = cfg.stopDuty ∧ r.stopTimer = none then
    if cfg.stopTime = 0 then { r with duty := 0 } else { r with stopTimer := some (tenths cfg.stopTime) }
  else if r.stopTimer ≠ none then r
  else if r.duty = 0 ∧ cfg.gainFloor < r.gain then { r with gain := r.gain - 1 }
  else r

/-- Both streaks cleared. -/
def Regulator.clearStreaks (r : Regulator) : Regulator := { r with low := 0, high := 0 }

/-- R47: a metered frame classified; the streaks move and a step that falls due is carried out. -/
def Regulator.classify (cfg : CameraSettings) (r : Regulator) (m : Reading) : Regulator :=
  if m.glare then r.clearStreaks.stepDown cfg
  else if m.mean + cfg.tolerance < cfg.target then
    if cfg.upInterval ≤ r.low + 1 then r.clearStreaks.stepUp cfg else { r with low := r.low + 1, high := 0 }
  else if cfg.target + cfg.tolerance < m.mean then
    if cfg.downInterval ≤ r.high + 1 then r.clearStreaks.stepDown cfg else { r with high := r.high + 1, low := 0 }
  else r.clearStreaks

/-- R45 to R47, R55: a completed frame handed to the regulator. -/
def Regulator.takeFrame (cfg : CameraSettings) (supply : SupplyState) (groups : Vector GroupMark 60)
    (figures : Vector Figures 60) (r : Regulator) : Regulator :=
  match meter cfg groups figures with
  | none => r
  | some m =>
    let r := { r with reading := some m }
    match supply with
    | .normal => r.classify cfg m
    | .crank => r.clearStreaks

/-- R50: the stop timer expires. -/
def Regulator.stopExpiry (r : Regulator) : Regulator :=
  if r.stopTimer = none then r else { r with duty := 0, stopTimer := none }

/-- R53: the heater demand from the accepted status record. -/
def heaterDemand (cfg : CameraSettings) (accepted : Option StatusRecord) (before : Bool) : Bool :=
  match accepted with
  | none => false
  | some a =>
    if a.misted then true
    else if a.temperature ≤ cfg.heaterOn then true
    else if cfg.heaterOff ≤ a.temperature then false
    else before

/-- R51: a commit, from the camera's old settings to its new ones. -/
def Regulator.commit (old new : CameraSettings) (accepted : Option StatusRecord) (r : Regulator) : Regulator :=
  let gain := min (max r.gain new.gainFloor) new.gainCeiling
  let duty := if !new.fitted then 0 else if r.duty ≠ 0 ∧ r.duty < new.stopDuty then new.stopDuty else r.duty
  { gain := gain, duty := duty, low := 0, high := 0
    stopTimer := if duty ≠ r.duty ∨ old.stopDuty ≠ new.stopDuty ∨ duty = 0 then none else r.stopTimer
    heater := heaterDemand new accepted r.heater
    reading := r.reading }

/-- R54: entry to CRANK. -/
def Regulator.enterCrank (r : Regulator) : Regulator := { r.clearStreaks with stopTimer := none }

/-- R44: the illuminator duty handed to the receiver. -/
def Regulator.handedDuty (supply : SupplyState) (r : Regulator) : Nat :=
  match supply with
  | .normal => r.duty
  | .crank => 0

/-- R44: the heater demand handed to the receiver. -/
def Regulator.handedHeater (supply : SupplyState) (r : Regulator) : Bool :=
  match supply with
  | .normal => r.heater
  | .crank => false

/-- STOP_TIMER_EXPIRY (R50). -/
def execStopTimerExpiry (c : Camera) (s : State) : Host.Outcome State Fault Refusal :=
  whileRunning s fun s => s.setReg c (s.reg c).stopExpiry

end Sys2Proof.Machine
end

