-- ==== Sys2Proof/Machine/Operands.lean ====
section
/-! DEFINITION. Operand forms: the codes of enumerated fields (R198), the rows and least lengths of requests (Table 12-3),
and the taking of a request from the head of an inbound queue (R179). -/

namespace Sys2Proof.Machine

/-! ## Codes on the wire (R198: 0, 1, 2 ... in the order the owning table lists) -/

/-- SILENT, SEARCH, CONFIRM, LOCKED (Tables 1-2, 12-4). -/
def LockState.code : LockState → Nat
  | .silent => 0
  | .search => 1
  | .confirm => 2
  | .locked => 3

/-- TRIAL, CHECKED, UNCHECKED (R15). -/
def CheckMode.code : CheckMode → Nat
  | .trial => 0
  | .checked => 1
  | .unchecked => 2

/-- FRESH, STALE, LOST (Table 2-3). -/
def Freshness.code : Freshness → Nat
  | .fresh => 0
  | .stale => 1
  | .lost => 2

/-- IDLE, CLEAR, CAUTION, WARNING, HOLD (Table 6-6). -/
def ZoneState.code : ZoneState → Nat
  | .idle => 0
  | .clear => 1
  | .caution => 2
  | .warning => 3
  | .hold => 4

/-- CAUTION, WARNING (Table 6-5). -/
def Level.code : Level → Nat
  | .caution => 0
  | .warning => 1

/-- OFF, CAUTION, WARNING (Table 7-1). -/
def ChimeLevel.code : ChimeLevel → Nat
  | .off => 0
  | .caution => 1
  | .warning => 2

/-- QUIET, PENDING, IN_SERVICE (Table 8-3). -/
def Stage.code : Stage → Nat
  | .quiet => 0
  | .pending => 1
  | .inService => 2

/-- NORMAL, CRANK (R196). -/
def SupplyState.code : SupplyState → Nat
  | .normal => 0
  | .crank => 1

/-- VALID, DEFAULTED, MODIFIED (Table 11-3). -/
def SettingsState.code : SettingsState → Nat
  | .valid => 0
  | .defaulted => 1
  | .modified => 2

/-- none, DONE, FAILED (Table 11-3): none is 255 (R198), the others their places in the table's list (log 22). -/
def WriteResult.code : WriteResult → Nat
  | .none => 255
  | .done => 1
  | .failed => 2

/-- The gear a code stands for (R105). -/
def Gear.ofCode : Nat → Option Gear
  | 0 => some .forward
  | 1 => some .neutral
  | 2 => some .reverse
  | _ => none

/-- The anchor a code stands for. -/
def Anchor.ofCode : Nat → Option Anchor
  | 0 => some .screen
  | 1 => some .ground
  | _ => none

/-- The blink a code stands for. -/
def Blink.ofCode : Nat → Option Blink
  | 0 => some .none
  | 1 => some .slow
  | 2 => some .fast
  | _ => Option.none

/-- The track class a code stands for. -/
def TrackClass.ofCode : Nat → Option TrackClass
  | 0 => some .pedestrian
  | 1 => some .cyclist
  | 2 => some .vehicle
  | 3 => some .unknown
  | _ => none

/-- The place of a class in Table 6-3. -/
def TrackClass.index : TrackClass → Nat
  | .pedestrian => 0
  | .cyclist => 1
  | .vehicle => 2
  | .unknown => 3

/-! ## Clamping (R60, R180) -/

/-- A value brought to the nearer end of its range. -/
def clamp (lo hi x : Int) : Int := max lo (min hi x)

/-- R60: x of a ground point. -/
def clampX (x : Int) : Int := clamp (-300) 2000 x

/-- R60: y of a ground point. -/
def clampY (y : Int) : Int := clamp (-100) 1000 y

/-! ## Requests (Table 12-3) -/

/-- The request rows of the opcode table. Every request is of exactly one row. -/
inductive RequestRow where
  | objectPut | objectMove | objectStyle | objectTextSetCursor | objectTextAppend | objectRemove | objectRemoveAll | stripSet
  | vehicleState | bodyState | trackUpdate | trackDrop | zoneAck | viewRequest | viewMaskSet | viewMaskClear | statusQuery
  | serviceEnter | serviceExit | settingsWrite | settingsRead | settingsCommit | reset | unknownKind
  deriving DecidableEq, Repr

/-- The field bytes the length field names, as far as they are carried. -/
def Request.fields (r : Request) : List Byte := r.carried.take r.len

/-- The row a request is of, by its kind; an OBJECT_TEXT by its mode and a VIEW_MASK by its action, a mode or action that is
unknown or absent going with SET_CURSOR and SET (log 3). -/
def Request.row (r : Request) : RequestRow :=
  match r.kind.toNat with
  | 0x01 => .objectPut
  | 0x02 => .objectMove
  | 0x03 => .objectStyle
  | 0x04 => if u8At r.fields 1 = 1 then .objectTextAppend else .objectTextSetCursor
  | 0x05 => .objectRemove
  | 0x06 => .objectRemoveAll
  | 0x07 => .stripSet
  | 0x08 => .vehicleState
  | 0x09 => .bodyState
  | 0x0A => .trackUpdate
  | 0x0B => .trackDrop
  | 0x0C => .zoneAck
  | 0x0D => .viewRequest
  | 0x0E => if u8At r.fields 2 = 1 then .viewMaskClear else .viewMaskSet
  | 0x0F => .statusQuery
  | 0x10 => .serviceEnter
  | 0x11 => .serviceExit
  | 0x12 => .settingsWrite
  | 0x13 => .settingsRead
  | 0x14 => .settingsCommit
  | 0x15 => .reset
  | _ => .unknownKind

/-- The least length of a row's kind (Table 12-3). -/
def RequestRow.leastLength : RequestRow → Nat
  | .objectPut => 11
  | .objectMove => 9
  | .objectStyle => 7
  | .objectTextSetCursor | .objectTextAppend => 3
  | .objectRemove => 1
  | .objectRemoveAll => 0
  | .stripSet => 8
  | .vehicleState => 4
  | .bodyState => 3
  | .trackUpdate => 11
  | .trackDrop => 1
  | .zoneAck => 1
  | .viewRequest => 1
  | .viewMaskSet | .viewMaskClear => 3
  | .statusQuery => 1
  | .serviceEnter | .serviceExit => 0
  | .settingsWrite => 4
  | .settingsRead => 4
  | .settingsCommit => 0
  | .reset => 0
  | .unknownKind => 0

/-- R179 step 2 and R172: shorter than the least length of its kind, a length field above 29, or one that names more bytes than
are carried. -/
def Request.tooShort (r : Request) : Bool :=
  29 < r.len || r.carried.length < r.len || r.len < r.row.leastLength

/-- The request that bytes on a port hold; none where they are too short for a kind, a tag and a length (R173). -/
def Request.ofBytes : List Byte → Option Request
  | kind :: tag :: len :: carried => some { kind := kind, tag := tag, len := len.toNat, carried := carried }
  | _ => none

/-- R179: the request that the controller of the link takes, with the state it leaves: the head of the inbound queue, when the
outbound queue can take a reply and the request is of the row this step is of (log 3). -/
def State.takeHead (s : State) (row : RequestRow) (l : Link) : Option (Request × State) :=
  match (s.ctl l).inbound with
  | r :: rest =>
    if (s.ctl l).canReply ∧ r.row = row then some (r, s.setCtl l { s.ctl l with inbound := rest }) else none
  | [] => none

/-- R179: a request of a row is taken, judged too short or handed to the block that owns its effect, and answered. -/
def answering (row : RequestRow) (l : Link) (act : Request → State → State × Answer) (s : State) : State :=
  match s.takeHead row l with
  | none => s
  | some (r, s') =>
    if r.tooShort then s'.reply l r (.refuse .malformed)
    else (act r s').1.reply l r (act r s').2

end Sys2Proof.Machine
end

