-- ==== Sys2Proof/Machine/Flags.lean ====
section
/-! DEFINITION. The event flags of a link (R183) and how each is set. -/

namespace Sys2Proof.Machine

/-- The flags in one byte (R201): INBOUND_OVERRUN bit 0, NOTICES_LOST bit 1, OBJECTS_PURGED bit 2, FRAMING bit 3; bits 7–4
are sent as 0 (log 42, DESIGN CHOICE). -/
def EventFlags.byte (f : EventFlags) : Byte :=
  (if f.inboundOverrun then 1 else 0) ||| (if f.noticesLost then 2 else 0) ||| (if f.objectsPurged then 4 else 0) |||
    (if f.framing then 8 else 0)

/-- FRAMING is set (R173, R176, R177). -/
def State.setFraming (s : State) (l : Link) : State :=
  s.setCtl l { s.ctl l with flags := { (s.ctl l).flags with framing := true } }

/-- OBJECTS_PURGED is set (R97, R99). -/
def State.setPurged (s : State) (l : Link) : State :=
  s.setCtl l { s.ctl l with flags := { (s.ctl l).flags with objectsPurged := true } }

/-- The flags are cleared when a STATUS_QUERY reply carries them (R183). -/
def State.clearFlags (s : State) (l : Link) : State :=
  s.setCtl l { s.ctl l with flags := EventFlags.clear }

end Sys2Proof.Machine
end

