-- ==== Sys2Proof/Machine/Pictures.lean ====
section
/-! DEFINITION. The picture memory of one camera (chapter 2): fills, concealment copies, holds, age and freshness. -/

namespace Sys2Proof.Machine

/-! ## Holds -/

/-- The three holders (R26). -/
inductive Holder where
  | monitor | recorder | copy
  deriving DecidableEq, Repr

/-- Whether a holder is listed. -/
def Holders.has (h : Holders) : Holder → Bool
  | .monitor => h.monitor
  | .recorder => h.recorder
  | .copy => h.copy

/-- A holder listed or not. -/
def Holders.put (h : Holders) (k : Holder) (on : Bool) : Holders :=
  match k with
  | .monitor => { h with monitor := on }
  | .recorder => { h with recorder := on }
  | .copy => { h with copy := on }

/-- R26: a slot's hold count is the number of holders listed for it. -/
def Holders.count (h : Holders) : Nat := h.monitor.toNat + h.recorder.toNat + h.copy.toNat

/-- A slot of the camera. -/
def Picture.slot (p : Picture) (i : SlotIx) : PicSlot := p.slots[i]

/-- A slot replaced. -/
def Picture.setSlot (p : Picture) (i : SlotIx) (s : PicSlot) : Picture := { p with slots := p.slots.set i s }

/-- A complete picture that is LATEST no more: SUPERSEDED while held, else FREE (R29, R37). -/
def PicSlot.retire (s : PicSlot) : PicSlot := { s with state := if s.holders.count = 0 then .free else .superseded }

/-- R33: a holder leaves a slot; a SUPERSEDED slot whose count has reached 0 becomes FREE at once. -/
def PicSlot.release (s : PicSlot) (k : Holder) : PicSlot :=
  let h := s.holders.put k false
  { s with holders := h, state := if s.state = .superseded ∧ h.count = 0 then .free else s.state }

/-- R33 on a slot of the camera; no effect where the holder does not hold it. -/
def Picture.release (p : Picture) (i : SlotIx) (k : Holder) : Picture :=
  if (p.slot i).holders.has k then p.setSlot i ((p.slot i).release k) else p

/-- A hold taken on a slot. -/
def Picture.hold (p : Picture) (i : SlotIx) (k : Holder) : Picture :=
  p.setSlot i { p.slot i with holders := (p.slot i).holders.put k true }

/-- The slot a holder holds. -/
def Picture.heldBy (p : Picture) (k : Holder) : Option SlotIx :=
  (List.finRange 4).find? fun i => (p.slot i).holders.has k

/-! ## Fills -/

/-- R27: the lowest-numbered FREE slot. -/
def Picture.lowestFree (p : Picture) : Option SlotIx := (List.finRange 4).find? fun i => (p.slot i).state == .free

/-- R27: a slot becomes FILLING, its group map GOOD and its figures 0. -/
def Picture.openFill (p : Picture) (i : SlotIx) : Picture :=
  p.setSlot i
    { p.slot i with state := .filling, groups := Vector.replicate 60 .good, figures := Vector.replicate 60 ⟨0, 0⟩ }

/-- The Y samples of pixel data sent as Cb, Y, Cr, Y (Table 12-1). -/
def ySamples : List Byte → List Byte
  | _ :: y :: rest => y :: ySamples rest
  | _ => []

/-- R28: the figures of one row: the sum of its Y samples and the number of them at 248 or more. -/
def rowFigures (row : List Byte) : Figures :=
  ⟨((ySamples row).map BitVec.toNat).sum, (ySamples row).countP fun y => 248 ≤ y.toNat⟩

/-- The figures of a group with those of one more row. -/
def Figures.add (a b : Figures) : Figures := ⟨a.luma + b.luma, a.glare + b.glare⟩

/-- R28: a row is stored as written and its figures are added to its group's. -/
def PicSlot.writeRow (s : PicSlot) (row : Nat) (bytes : List Byte) : PicSlot :=
  { s with
    pixels := Memory.store Config.blankPixel s.pixels (1600 * row) bytes
    figures := s.figures.mapIdx fun g f => if g = row / 8 then f.add (rowFigures bytes) else f }

/-- The bytes of line group g, 12,800 in transmission order (R14). -/
def PicSlot.group (s : PicSlot) (g : Nat) : List Byte := Memory.load Config.blankPixel s.pixels (12800 * g) 12800

/-- An entry of the group map set. -/
def PicSlot.mark (s : PicSlot) (g : Nat) (m : GroupMark) : PicSlot :=
  { s with groups := s.groups.mapIdx fun i old => if i = g then m else old }

/-- R29: a completion: the FILLING slot becomes LATEST, the LATEST before it is retired, age 0, FRESH. -/
def Picture.complete (p : Picture) (i : SlotIx) : Picture :=
  let p1 := match p.latest with
    | some j => if j = i then p else p.setSlot j (p.slot j).retire
    | none => p
  { p1.setSlot i { p1.slot i with state := .latest } with latest := some i, age := 0, shownAge := 0, freshness := .fresh }

/-- R30, R32: an abandonment: the slot becomes FREE, its group map and figures are discarded (log 5), and the writes of a copy
in flight into it are discarded from now on. -/
def Picture.abandon (p : Picture) (i : SlotIx) : Picture :=
  { p.setSlot i
      { p.slot i with state := .free, groups := Vector.replicate 60 .good, figures := Vector.replicate 60 ⟨0, 0⟩ } with
    copy := p.copy.map fun c => if c.target = some i then { c with target := none } else c }

/-! ## Concealment copies -/

/-- R31: a copy of group g into a slot starts: it holds LATEST, or will write grey where there is none; the group is marked
CONCEALED. -/
def Picture.startCopy (p : Picture) (g : Nat) (target : SlotIx) : Picture :=
  let p1 := match p.latest with
    | some j => p.hold j .copy
    | none => p
  { p1.setSlot target ((p1.slot target).mark g .concealed) with
    copy := some { group := g, source := p.latest, target := some target } }

/-- R31: what a copy writes: the same rows of its source, or no-signal grey (every byte 128). -/
def Picture.copyBytes (p : Picture) (c : Copy) : List Byte :=
  match c.source with
  | some j => (p.slot j).group c.group
  | none => List.replicate 12800 128

/-- R32: a copy's rows stand in its target, unless its fill was abandoned. -/
def Picture.landCopy (p : Picture) (c : Copy) : Picture :=
  match c.target with
  | some i =>
    p.setSlot i
      { p.slot i with pixels := Memory.store Config.blankPixel (p.slot i).pixels (12800 * c.group) (p.copyBytes c) }
  | none => p

/-- R32: the copy in flight finishes: its rows have been written and its hold is released. -/
def Picture.finishCopy (p : Picture) : Picture :=
  match p.copy with
  | none => p
  | some c =>
    let p1 := p.landCopy c
    let p2 := match c.source with
      | some j => p1.release j .copy
      | none => p1
    { p2 with copy := none }

/-! ## Age, freshness and the composers' holds -/

/-- R36: the freshness judged. -/
def judgedFreshness (latest : Option SlotIx) (age : Nat) : Freshness :=
  if latest = none then .lost else if age ≤ 3 then .fresh else if age ≤ 59 then .stale else .lost

/-- R36, R37: the judgement of a frame start: freshness, the release of a LOST camera's LATEST, the raise of the age. -/
def Picture.judge (p : Picture) : Picture :=
  let f := judgedFreshness p.latest p.age
  let p1 := match f, p.latest with
    | .lost, some j => { p.setSlot j (p.slot j).retire with latest := none }
    | _, _ => p
  { p1 with freshness := f, shownAge := p.age, age := min (p.age + 1) 255 }

/-- A holder's hold on the camera is released, if it has one. -/
def Picture.drop (p : Picture) (k : Holder) : Picture :=
  match p.heldBy k with
  | some i => p.release i k
  | none => p

/-- R34: a composer's hold on the camera moves: to LATEST where it uses the camera and the camera is not LOST; the new hold is
taken before the old one is released. -/
def Picture.moveHold (p : Picture) (k : Holder) (uses : Bool) : Picture :=
  match uses && p.freshness != .lost, p.latest with
  | true, some j =>
    if p.heldBy k = some j then p
    else
      match p.heldBy k with
      | some i => (p.hold j k).release i k
      | none => p.hold j k
  | _, _ => p.drop k

/-- R34: what a frame start does to a camera, given whether MONITOR uses it; RECORDER uses every camera (R35). -/
def Picture.frameStart (p : Picture) (monitorUses : Bool) : Picture :=
  (p.judge.moveHold .monitor monitorUses).moveHold .recorder true

/-! ## Warm reset -/

/-- R42 on one slot: FREE with no holders, or, where a copy in flight reads it, SUPERSEDED with the copy as its one holder; the
group map and figures of an open fill are discarded with it (R30, log 5). -/
def PicSlot.warmReset (s : PicSlot) (source : Bool) : PicSlot :=
  { s with
    state := if source then .superseded else .free
    holders := { monitor := false, recorder := false, copy := source }
    groups := if s.state = .filling then Vector.replicate 60 .good else s.groups
    figures := if s.state = .filling then Vector.replicate 60 ⟨0, 0⟩ else s.figures }

/-- R42 -/
def Picture.warmReset (p : Picture) : Picture :=
  { slots := p.slots.mapFinIdx fun i s h => s.warmReset ((p.copy.bind Copy.source) = some ⟨i, h⟩)
    latest := none, age := 255, freshness := .lost, shownAge := 255
    copy := p.copy.map fun c => { c with target := none } }

end Sys2Proof.Machine
end

