-- ==== Sys2Proof/Machine/Cameras.lean ====
section
/-! DEFINITION. The camera link receivers (chapter 1): frame lock, error windows, line-group checks, the status cycle and the
return word; with what their events do in the picture memory and the exposure regulators. -/

namespace Sys2Proof.Machine

/-! ## The CAMERA notice (R24, R40) -/

/-- A camera status record in a notice or reply: a presence byte and its eight fields, all 0 when absent (R201). -/
def statusBytes : Option StatusRecord → List Byte
  | none => List.replicate 10 0
  | some a =>
    [1, byte a.kind, yesNo a.checksSent] ++ be16 a.temperature ++
      [yesNo a.misted, yesNo a.heaterRunning, yesNo a.sensorFault, byte a.gain, byte a.duty]

/-- R24: the fields of a CAMERA notice after its camera number. -/
def State.cameraFields (s : State) (c : Camera) : List Byte :=
  let r := s.recv c
  let p := s.pict c
  [byte r.lock.code, byte r.mode.code, yesNo r.degraded, yesNo r.notFollowing] ++ statusBytes r.accepted ++
    [byte p.freshness.code, byte p.shownAge]

/-- R24, R40: what a change of raises a CAMERA notice. -/
def State.cameraFace (s : State) (c : Camera) :
    LockState × CheckMode × Bool × Bool × Option StatusRecord × Freshness :=
  let r := s.recv c
  (r.lock, r.mode, r.degraded, r.notFollowing, r.accepted, (s.pict c).freshness)

/-- R24, R40: a CAMERA notice is raised where something of the camera's face has changed. -/
def State.noteCamera (c : Camera) (before s : State) : State :=
  if before.cameraFace c = s.cameraFace c then s else s.raise .camera c.val (s.cameraFields c)

/-! ## The status cycle (1.5) -/

/-- R200: the sixteen bytes of a complete cycle as a status record; none where a byte spoils the cycle. -/
def StatusRecord.ofBytes (bs : List Byte) : Option StatusRecord :=
  let t := (byteAt bs 2).toInt
  if t < -40 ∨ 85 < t ∨ 63 < u8At bs 3 ∨ 100 < u8At bs 4 then none
  else
    some
      { kind := u8At bs 0 % 16
        checksSent := (byteAt bs 1).getLsbD 0, misted := (byteAt bs 1).getLsbD 1
        heaterRunning := (byteAt bs 1).getLsbD 2, sensorFault := (byteAt bs 1).getLsbD 3
        temperature := t, gain := u8At bs 3, duty := u8At bs 4 }

/-- R20: the assembly is spoiled. -/
def Receiver.spoil (r : Receiver) : Receiver := { r with assembly := [], nextPos := 0, previous := none }

/-- R22: the comparison of an acceptance event. -/
def Receiver.compareGain (r : Receiver) (inUse commanded : Nat) : Receiver :=
  if inUse = commanded then { r with mismatches := 0, notFollowing := false }
  else
    let n := min (r.mismatches + 1) 3
    { r with mismatches := n, notFollowing := r.notFollowing || n == 3 }

/-- R17: a record that says the camera sends no checks sets UNCHECKED under the policy AUTO. -/
def Receiver.modeAfter (r : Receiver) (cfg : CameraSettings) (a : StatusRecord) : Receiver :=
  if !a.checksSent && !cfg.required then { r with mode := .unchecked } else r

/-- R53: the heater demand of a camera worked out. -/
def State.workHeater (s : State) (c : Camera) : State :=
  s.setReg c
    { s.reg c with heater := heaterDemand (s.body.camera c) (s.recv c).accepted (s.reg c).heater }

/-- R21: an acceptance event. -/
def State.accept (s : State) (c : Camera) (a : StatusRecord) : State :=
  let r := s.recv c
  let r1 := ({ r with accepted := some a }.modeAfter (s.body.camera c) a).compareGain a.gain (s.reg c).gain
  let s1 := s.setRecv c r1
  if r.accepted = some a then s1 else s1.workHeater c

/-- R20, R21: the sixteen bytes of a complete cycle. -/
def State.cycleComplete (s : State) (c : Camera) (bytes : List Byte) : State :=
  let r := s.recv c
  match StatusRecord.ofBytes bytes with
  | none => s.setRecv c r.spoil
  | some a =>
    let s1 := s.setRecv c { r with assembly := [], nextPos := 0, previous := some bytes }
    if r.previous = some bytes then s1.accept c a else s1

/-- R20: the status slot byte of a frame whose fill was open when place 481 was taken. -/
def State.addStatusByte (s : State) (c : Camera) (cycle : Nat) (b : Byte) : State :=
  let r := s.recv c
  if cycle ≠ r.nextPos then s
  else if r.nextPos = 15 then s.cycleComplete c (r.assembly ++ [b])
  else s.setRecv c { r with assembly := r.assembly ++ [b], nextPos := r.nextPos + 1 }

/-! ## The end of a fill -/

/-- R15, R16: the trial count rises when a fill ends, and at 16 the trial ends by the check policy. -/
def Receiver.fillEnded (r : Receiver) (required : Bool) : Receiver :=
  if r.mode = .trial then
    if r.trial + 1 = 16 then { r with trial := 16, mode := if required then .checked else .unchecked }
    else { r with trial := r.trial + 1 }
  else r

/-- The receiver's open fill is abandoned to the picture memory (R30); before its place 481 was taken, the assembly is spoiled
(R20); the trial count rises (R15). -/
def State.abandonFill (s : State) (c : Camera) : State :=
  let r := s.recv c
  match r.fill with
  | none => s
  | some f =>
    let r1 := { (if f.judged then r else r.spoil) with fill := none }
    (s.setPict c ((s.pict c).abandon f.slot)).setRecv c (r1.fillEnded (s.body.camera c).required)

/-- R29: the completed fill's slot becomes LATEST and the regulator meters the frame. -/
def State.completeFill (s : State) (c : Camera) (f : Fill) : State :=
  let slot := (s.pict c).slot f.slot
  (s.setPict c ((s.pict c).complete f.slot)).setReg c
    ((s.reg c).takeFrame (s.body.camera c) s.supply.state slot.groups slot.figures)

/-- R19: the fill ends: failed-group count, outcome, then the trial count. -/
def State.endFill (s : State) (c : Camera) (f : Fill) : State :=
  let r := s.recv c
  let required := (s.body.camera c).required
  let s1 :=
    if (required && r.mode == .trial) || f.failed == 60 then s.setPict c ((s.pict c).abandon f.slot)
    else s.completeFill c f
  s1.setRecv c ({ r with fill := none, failedGroups := f.failed }.fillEnded required)

/-- R32: the camera's copy in flight finishes; where it was the last thing the fill waited for, the fill ends (R19). -/
def State.finishCopy (s : State) (c : Camera) : State :=
  match (s.pict c).copy with
  | none => s
  | some k =>
    let s1 := s.setPict c (s.pict c).finishCopy
    match (s.recv c).fill with
    | some f => if f.judged ∧ k.target = some f.slot then s1.endFill c f else s1
    | none => s1

/-! ## Frame lock (1.2) -/

/-- R6: entry to SEARCH from any state. -/
def Receiver.enterSearch (r : Receiver) : Receiver :=
  { r with lock := .search, place := 0, anchor := none, mode := .trial, trial := 0 }

/-- R11: what a receiver does when it leaves LOCKED, its fill abandoned already. -/
def Receiver.leaveLocked (r : Receiver) : Receiver :=
  { r with
    errorWindow := none, failures := 0, degraded := false, slips := 0, anchor := none, place := 0, assembly := [], nextPos := 0
    previous := none, failedGroups := 0 }

/-- R11 with the abandonment of an open fill. -/
def State.leaveLocked (s : State) (c : Camera) : State :=
  let s1 := s.abandonFill c
  s1.setRecv c (s1.recv c).leaveLocked

/-- R11, R6: LOCKED is left for SEARCH; a change of what software sees raises a CAMERA notice (R24). -/
def State.dropToSearch (s : State) (c : Camera) : State :=
  let s1 := s.leaveLocked c
  State.noteCamera c s (s1.setRecv c (s1.recv c).enterSearch)

/-- R6: SEARCH takes a frame-start and enters CONFIRM. -/
def State.searchTakes (s : State) (c : Camera) (cycle : Nat) : State :=
  State.noteCamera c s (s.setRecv c { s.recv c with lock := .confirm, anchor := some cycle, place := 0 })

/-- R7: CONFIRM goes back to SEARCH. -/
def State.confirmFails (s : State) (c : Camera) : State :=
  State.noteCamera c s (s.setRecv c (s.recv c).enterSearch)

/-- R27, R20: a fill is opened for a frame of a cycle position; a position other than the next one spoils the assembly. An
open fill, which the frame-lock rules leave none of here, is abandoned first (log 27). -/
def State.openFill (s : State) (c : Camera) (cycle : Nat) : State :=
  let s1 := s.abandonFill c
  match (s1.pict c).lowestFree with
  | none => s1
  | some i =>
    let r := s1.recv c
    let r1 := if cycle = r.nextPos then r else r.spoil
    (s1.setPict c ((s1.pict c).openFill i)).setRecv c
      { r1 with fill := some { slot := i, cycle := cycle, faulted := [], failed := 0, judged := false } }

/-- R7: the proving frame-start moves CONFIRM to LOCKED, opens a fill and starts the first error window. -/
def State.enterLocked (s : State) (c : Camera) (cycle : Nat) : State :=
  let s1 :=
    s.setRecv c
      { s.recv c with
        lock := .locked, anchor := some cycle, place := 0, slips := 0, errorWindow := some Config.errorWindowPeriod
        failures := 0 }
  State.noteCamera c s (s1.openFill c cycle)

/-- R9, R10, R20: a frame slip: the open fill is abandoned, an assembly that holds any byte is spoiled, the slip count rises.
The state reached by the count of 3 is left to the caller. -/
def State.slip (s : State) (c : Camera) : State :=
  let s1 := s.abandonFill c
  let r := s1.recv c
  let r1 := if r.assembly = [] then r else r.spoil
  s1.setRecv c { r1 with slips := r.slips + 1 }

/-- R9: a slipped frame-start. -/
def State.frameSlip (s : State) (c : Camera) (cycle : Nat) : State :=
  let s1 := s.slip c
  if 3 ≤ (s1.recv c).slips then ((State.noteCamera c s s1).dropToSearch c).searchTakes c cycle
  else State.noteCamera c s (s1.setRecv c { s1.recv c with anchor := some cycle, place := 0 })

/-- R10: a missing frame-start; the record that raised it is discarded and counted 1. -/
def State.missingFrameStart (s : State) (c : Camera) : State :=
  let s1 := s.slip c
  if 3 ≤ (s1.recv c).slips then (State.noteCamera c s s1).dropToSearch c
  else State.noteCamera c s (s1.setRecv c { s1.recv c with anchor := none, place := 1 })

/-- R7, R8: the frame-start arrives at place count 484 with the cycle position one more, modulo 16, than the anchor's. -/
def Receiver.expects (r : Receiver) (cycle : Nat) : Bool :=
  r.place == 484 && r.anchor.any fun a => cycle == (a + 1) % 16

/-- A frame-start record in a receiver that is not SILENT (R6 to R10). -/
def State.frameStart (s : State) (c : Camera) (cycle : Nat) : State :=
  let r := s.recv c
  match r.lock with
  | .silent | .search => s.searchTakes c cycle
  | .confirm => if r.expects cycle then s.enterLocked c cycle else (s.confirmFails c).searchTakes c cycle
  | .locked =>
    if r.anchor = none then s.setRecv c { r with anchor := some cycle, place := 0 }
    else if r.expects cycle then
      State.noteCamera c s
        ((s.setRecv c { r with anchor := some cycle, place := 0, slips := 0 }).openFill c cycle)
    else s.frameSlip c cycle

/-! ## The return word (1.6) -/

/-- R23, R200: the return word as it is made up now; bits 5–2 of byte 0 are sent as 0 (log 42, DESIGN CHOICE). -/
def State.returnWord (s : State) (c : Camera) : List Byte :=
  let r := s.recv c
  let g := s.reg c
  let lock := byte (r.lock.code % 4)
  let b0 := lock ||| (if g.handedHeater s.supply.state then 0x40#8 else 0) |||
    (if r.lock = .search ∨ r.lock = .confirm then 0x80#8 else 0)
  let front := [b0, byte r.failedGroups, byte g.gain, byte (g.handedDuty s.supply.state)]
  front ++ [crc8 front]

/-- R23: a return word is sent and the return timer restarts. -/
def State.sendWord (s : State) (c : Camera) : State :=
  s.setRecv c { s.recv c with lastWord := some (s.returnWord c), returnTimer := some Config.returnPeriod }

/-- R4, R5: a record arrives: the silence timer restarts; a SILENT receiver passes to SEARCH and sends a return word. -/
def State.wake (s : State) (c : Camera) : State :=
  let r := { s.recv c with silenceTimer := some Config.silencePeriod }
  if r.lock = .silent then (State.noteCamera c s (s.setRecv c r.enterSearch)).sendWord c
  else s.setRecv c r

/-! ## Line and blanking records (R1 to R3, R18) -/

/-- A line or blanking record: its row number, whether it is a line record, the bytes after the row number. -/
structure RowRecord where
  row : Nat
  isLine : Bool
  body : List Byte
  deriving DecidableEq, Repr

/-- The check byte a record's trailer supplies (R199). -/
def RowRecord.check (k : RowRecord) : Byte := if k.isLine then lineCheckByte k.body else blankingCheckByte k.body

/-- The status slot byte a record in place 481 supplies (R199). -/
def RowRecord.status (k : RowRecord) : Byte := if k.isLine then lineStatusByte k.body else blankingStatusByte k.body

/-- R2: the 1600 bytes written for a record in a line place: those it supplies, then 128. -/
def RowRecord.pixels (k : RowRecord) : List Byte :=
  let p := if k.isLine then linePixels k.body else []
  p ++ List.replicate (1600 - p.length) 128

/-- R2: a sequence fault of a record in the line place of a row. -/
def RowRecord.faulty (k : RowRecord) (row : Nat) : Bool := k.row != row || !k.isLine || lineShort k.body

/-- A group marked with a sequence fault for this frame. -/
def Fill.fault (f : Fill) (g : Nat) : Fill := { f with faulted := g :: f.faulted }

/-- R14: the group passes: the computed value equals the check byte and the group carries no sequence-fault mark. -/
def State.groupPasses (s : State) (c : Camera) (f : Fill) (g : Nat) (check : Byte) : Bool :=
  !(f.faulted.contains g) && crc8 (((s.pict c).slot f.slot).group g) == check

/-- R18 in CHECKED mode: a failing group is FAILED, counted in the running error window (R12), and a copy is asked for. -/
def State.failGroup (s : State) (c : Camera) (f : Fill) (g : Nat) : State :=
  let r := s.recv c
  (s.setPict c ((s.pict c).startCopy g f.slot)).setRecv c
    { r with failures := r.failures + 1, fill := some { f with failed := f.failed + 1 } }

/-- R15, R18: the verdict on group g. -/
def State.judgeGroup (s : State) (c : Camera) (f : Fill) (g : Nat) (check : Byte) : State :=
  match (s.recv c).mode with
  | .trial => if s.groupPasses c f g check then s.setRecv c { s.recv c with mode := .checked } else s
  | .checked => if s.groupPasses c f g check then s else s.failGroup c f g
  | .unchecked => s

/-- R2: a record in the line place of a row, its row written and its sequence fault noted. -/
def State.writeRow (s : State) (c : Camera) (f : Fill) (row : Nat) (k : RowRecord) : State :=
  let p := s.pict c
  let f1 := if k.faulty row then f.fault (row / 8) else f
  (s.setPict c (p.setSlot f.slot ((p.slot f.slot).writeRow row k.pixels))).setRecv c { s.recv c with fill := some f1 }

/-- The receiver's open fill marked judged: the verdict of group 59 has been given (R19). -/
def State.markJudged (s : State) (c : Camera) : State :=
  s.setRecv c { s.recv c with fill := (s.recv c).fill.map fun f => { f with judged := true } }

/-- R19: a fill whose verdict of group 59 has been given ends when no copy is in flight. -/
def State.endIfDone (s : State) (c : Camera) : State :=
  match (s.recv c).fill, (s.pict c).copy with
  | some f, none => s.endFill c f
  | _, _ => s

/-- A record in the line place of a row while a fill is open: a copy still in flight when a verdict falls due has finished (R18;
log 7); the row is written (R2); the verdict on the group before is given when the row begins a group (R18). -/
def State.lineInFill (s : State) (c : Camera) (row : Nat) (k : RowRecord) : State :=
  let due := row % 8 == 0 && 8 ≤ row
  let s0 := if due then s.finishCopy c else s
  match (s0.recv c).fill with
  | none => s0
  | some f =>
    let s1 := s0.writeRow c f row k
    match due, (s1.recv c).fill with
    | true, some f1 => s1.judgeGroup c f1 (row / 8 - 1) k.check
    | _, _ => s1

/-- A record in place 481 while a fill is open (R3): fault mark, verdict on group 59, the end of the fill where no copy is asked
for, then the status slot byte (log 9). -/
def State.lastInFill (s : State) (c : Camera) (k : RowRecord) : State :=
  let s0 := s.finishCopy c
  match (s0.recv c).fill with
  | none => s0
  | some f =>
    let f1 := if k.isLine || k.row != 480 then f.fault 59 else f
    let s1 := s0.setRecv c { s0.recv c with fill := some f1 }
    let s2 := ((s1.judgeGroup c f1 59 k.check).markJudged c).endIfDone c
    s2.addStatusByte c f.cycle k.status

/-- A record takes a place of the frame while LOCKED with an anchor (R1 to R3). -/
def State.takePlace (s : State) (c : Camera) (place : Nat) (k : RowRecord) : State :=
  if (s.recv c).fill = none then s
  else if place ≤ 480 then s.lineInFill c (place - 1) k
  else if place = 481 then s.lastInFill c k
  else if place = 482 then s.finishCopy c
  else s

/-- A line or blanking record in a receiver that is not SILENT (R6, R7, R10). -/
def State.rowRecord (s : State) (c : Camera) (k : RowRecord) : State :=
  let r := s.recv c
  match r.lock with
  | .silent | .search => s
  | .confirm => if r.place = 484 then s.confirmFails c else s.setRecv c { r with place := r.place + 1 }
  | .locked =>
    if r.place = 484 then s.missingFrameStart c
    else
      let s1 := s.setRecv c { r with place := r.place + 1 }
      if r.anchor = none then s1 else State.noteCamera c s1 (s1.takePlace c (r.place + 1) k)

/-- R4, R5: a line or blanking record arrives; the first record of a SILENT receiver is discarded in SEARCH. -/
def State.rowArrives (s : State) (c : Camera) (k : RowRecord) : State := (s.wake c).rowRecord c k

/-! ## The commands -/

/-- Whether a frame-start of this cycle position opens a fill (R7, R8). -/
def Receiver.opensFill (r : Receiver) (cycle : Nat) : Bool :=
  (r.lock == .confirm || r.lock == .locked) && r.expects cycle

/-- R27 says that a camera has a FREE slot whenever a fill is opened; a state in which it has none is a fault (log 8). -/
def State.noSlotFor (s : State) (c : Camera) (cycle : Nat) : Bool :=
  (s.recv c).opensFill cycle && (s.recv c).fill.isNone && (s.pict c).lowestFree.isNone

/-- FRAME_START_RECORD (R8). A packet that is no frame-start record is not one (R1, R199). -/
def execFrameStartRecord (c : Camera) (packet : List Byte) (s : State) : Host.Outcome State Fault Refusal :=
  match classify packet with
  | .frameStart cycle =>
    if s.phase = .running ∧ s.noSlotFor c cycle then .fault .noFreeSlot
    else whileRunning s fun s => (s.wake c).frameStart c cycle
  | _ => .next s

/-- LINE_RECORD (R2). -/
def execLineRecord (c : Camera) (packet : List Byte) (s : State) : Host.Outcome State Fault Refusal :=
  match classify packet with
  | .line row body => whileRunning s fun s => s.rowArrives c { row := row, isLine := true, body := body }
  | _ => .next s

/-- BLANKING_RECORD (R3). -/
def execBlankingRecord (c : Camera) (packet : List Byte) (s : State) : Host.Outcome State Fault Refusal :=
  match classify packet with
  | .blanking row body => whileRunning s fun s => s.rowArrives c { row := row, isLine := false, body := body }
  | _ => .next s

/-- R4: entry to SILENT. -/
def Receiver.enterSilent (r : Receiver) : Receiver :=
  { r with
    lock := .silent, accepted := none, mismatches := 0, notFollowing := false, returnTimer := none, silenceTimer := none }

/-- R4: the silence timer expires. -/
def State.fallSilent (s : State) (c : Camera) : State :=
  if (s.recv c).silenceTimer = none then s
  else
    let s1 := s.leaveLocked c
    State.noteCamera c s ((s1.setRecv c (s1.recv c).enterSilent).workHeater c)

/-- SILENCE_TIMER_EXPIRY (R4). -/
def execSilenceTimerExpiry (c : Camera) (s : State) : Host.Outcome State Fault Refusal :=
  whileRunning s fun s => s.fallSilent c

/-- RETURN_TIMER_EXPIRY (R23). -/
def execReturnTimerExpiry (c : Camera) (s : State) : Host.Outcome State Fault Refusal :=
  whileRunning s fun s => if (s.recv c).returnTimer = none then s else s.sendWord c

/-- R13: an error window ends. -/
def State.windowEnd (s : State) (c : Camera) : State :=
  let r := s.recv c
  if r.errorWindow = none then s
  else if 1500 < r.failures then s.dropToSearch c
  else
    State.noteCamera c s
      (s.setRecv c { r with degraded := 60 < r.failures, failures := 0, errorWindow := some Config.errorWindowPeriod })

/-- ERROR_WINDOW_END (R13). -/
def execErrorWindowEnd (c : Camera) (s : State) : Host.Outcome State Fault Refusal :=
  whileRunning s fun s => s.windowEnd c

/-- CONCEALMENT_COPY_FINISH (R32). -/
def execConcealmentCopyFinish (c : Camera) (s : State) : Host.Outcome State Fault Refusal :=
  whileRunning s fun s => State.noteCamera c s (s.finishCopy c)

/-! ## Warm reset -/

/-- R25: at a warm reset a receiver takes the values of Table 1-7; the last return word stays on the record. -/
def Receiver.warmReset (r : Receiver) : Receiver := { Receiver.atReset with lastWord := r.lastWord }

end Sys2Proof.Machine
end

