-- ==== Sys2Proof/Machine/Objects.lean ====
section
/-! DEFINITION. The overlay object table (chapter 5): handles, object records, the object and strip requests, purges. -/

namespace Sys2Proof.Machine

/-! ## Slots and handles -/

/-- The sector of a slot: sector s holds slots 16s to 16s + 15 (5.1). -/
def sectorOf (i : ObjSlot) : Nat := i.val / 16

/-- R78: the slot a handle reaches through a sector map; none where the handle's half names no sector. -/
def Body.resolve (b : Body) (l : Link) (handle : Nat) : Option ObjSlot :=
  match b.sectorEntry l (handle / 16) with
  | some sector => some (Fin.ofNat 96 (16 * sector + handle % 16))
  | none => none

/-- R100: the owner's handle for a slot, through the owner's map. -/
def Body.handleOf (b : Body) (l : Link) (i : ObjSlot) : Option Nat :=
  if b.sectorEntry l 0 = some (sectorOf i) then some (i.val % 16)
  else if b.sectorEntry l 1 = some (sectorOf i) then some (16 + i.val % 16)
  else none

/-- R78: a link's map names a sector. -/
def Body.maps (b : Body) (l : Link) (sector : Nat) : Bool :=
  b.sectorEntry l 0 == some sector || b.sectorEntry l 1 == some sector

/-- A slot of the table. -/
def State.slot (s : State) (i : ObjSlot) : Option ObjRecord := s.table.slots[i]

/-- A slot of the table set. -/
def State.setSlot (s : State) (i : ObjSlot) (o : Option ObjRecord) : State :=
  { s with table := { s.table with slots := s.table.slots.set i o } }

/-- Whether a slot's object is a link's. -/
def ownedBy (l : Link) (o : Option ObjRecord) : Bool := o.any fun k => k.owner == l

/-! ## Clamping of the common fields and the geometry (R80, R81) -/

/-- R80: a thickness of 0 becomes 1, and one above 8 becomes 8. -/
def clampThickness (n : Nat) : Nat := max 1 (min n 8)

/-- R80: a text scale of 0 becomes 1, and one above 2 becomes 2. -/
def clampScale (n : Nat) : Nat := max 1 (min n 2)

/-- R81: a point clamped by its anchor: (column, row) for SCREEN, (x, y) for GROUND. -/
def clampPt (a : Anchor) (p : Pt) : Pt :=
  match a with
  | .screen => ⟨clamp 0 799 p.a, clamp 0 479 p.b⟩
  | .ground => ⟨clampX p.a, clampY p.b⟩

/-- R81: the depth of a DISTANCE_MARK. -/
def clampDepth (d : Int) : Int := clamp 0 2000 d

/-- R81: an across distance of a DISTANCE_MARK. -/
def clampAcross (a : Int) : Int := clamp (-2000) 2000 a

/-- R83: an OBJECT_PUT of a TEXT object sets length and cursor to 0. -/
def TextBody.empty : TextBody := { glyphs := Vector.replicate 16 0, length := 0, cursor := 0 }

/-- The kinds of Table 5-2. -/
inductive ObjKind where
  | segment | box | text | distanceMark
  deriving DecidableEq, Repr

/-- The kind a code stands for. -/
def ObjKind.ofCode : Nat → Option ObjKind
  | 0 => some .segment
  | 1 => some .box
  | 2 => some .text
  | 3 => some .distanceMark
  | _ => none

/-- The kind of a geometry. -/
def Shape.kind : Shape → ObjKind
  | .segment .. => .segment
  | .box .. => .box
  | .text .. => .text
  | .distanceMark .. => .distanceMark

/-- The least number of field bytes an OBJECT_PUT of a kind needs (Table 12-3). -/
def ObjKind.putLength : ObjKind → Nat
  | .segment | .box => 21
  | .text => 16
  | .distanceMark => 18

/-- A point in request fields. -/
def ptAt (f : List Byte) (i : Nat) : Pt := ⟨s16At f i, s16At f (i + 2)⟩

/-- The geometry an OBJECT_PUT gives from byte 11 on, clamped (R81, Table 12-3); a filled byte other than 0 is yes (log 41). -/
def shapeAt (k : ObjKind) (a : Anchor) (f : List Byte) : Shape :=
  match k with
  | .segment => .segment (clampPt a (ptAt f 11)) (clampPt a (ptAt f 15)) (clampThickness (u8At f 20))
  | .box => .box (clampPt a (ptAt f 11)) (clampPt a (ptAt f 15)) (u8At f 19 != 0) (clampThickness (u8At f 20))
  | .text => .text (clampPt a (ptAt f 11)) (clampScale (u8At f 15)) TextBody.empty
  | .distanceMark =>
    .distanceMark (clampDepth (s16At f 11)) (clampAcross (s16At f 13)) (clampAcross (s16At f 15)) (clampThickness (u8At f 17))

/-- R81: the anchor a kind takes from its code; a DISTANCE_MARK is GROUND whatever the code. -/
def ObjKind.anchorOf (k : ObjKind) (code : Nat) : Option Anchor :=
  match k with
  | .distanceMark => some .ground
  | _ => Anchor.ofCode code

/-- R85: the record an OBJECT_PUT gives, its values clamped, the frame mark clear; none where an enumerated value is not known
(R84 check 5). -/
def recordOf (l : Link) (k : ObjKind) (f : List Byte) : Option ObjRecord :=
  match k.anchorOf (u8At f 2), Blink.ofCode (u8At f 6) with
  | some a, some blink =>
    some
      { owner := l, anchor := a
        cameras := (byteAt f 3).extractLsb' 0 4, outputs := (byteAt f 3).extractLsb' 4 2
        layer := min (u8At f 4) 7, colour := min (u8At f 5) 15, blink := blink
        showConds := (w16At f 7).setWidth 9, lifetime := u16At f 9, marked := false, shape := shapeAt k a f }
  | _, _ => none

/-! ## The checks of the table (R84) -/

/-- R84 check 1 on the handle and check 2: the slot a handle reaches, or the refusal. -/
def State.reach (s : State) (l : Link) (handle : Nat) : Except ResultCode ObjSlot :=
  if 31 < handle then .error .malformed
  else match s.body.resolve l handle with
    | some i => .ok i
    | none => .error .notMapped

/-- R84 checks 1 to 3 of a request on an owned slot: the slot and its record, or the refusal. -/
def State.reachOwned (s : State) (l : Link) (handle : Nat) : Except ResultCode (ObjSlot × ObjRecord) :=
  match s.reach l handle with
  | .error e => .error e
  | .ok i =>
    match s.slot i with
    | some o => if o.owner = l then .ok (i, o) else .error .notOwner
    | none => .error .notOwner

/-! ## The requests -/

/-- R85 -/
def actObjectPut (l : Link) (r : Request) (s : State) : State × Answer :=
  let f := r.fields
  match ObjKind.ofCode (u8At f 1) with
  | none => (s, .refuse .malformed)
  | some k =>
    if f.length < k.putLength then (s, .refuse .malformed)
    else
      match s.reach l (u8At f 0) with
      | .error e => (s, .refuse e)
      | .ok i =>
        if (s.slot i).isSome && !ownedBy l (s.slot i) then (s, .refuse .notOwner)
        else
          match recordOf l k f with
          | none => (s, .refuse .malformed)
          | some o => (s.setSlot i (some o), .done)

/-- OBJECT_PUT (R85). -/
def execObjectPut (l : Link) (s : State) : Host.Outcome State Fault Refusal :=
  whileRunning s (answering .objectPut l (actObjectPut l))

/-- R87: the geometry an OBJECT_MOVE gives, by kind and anchor. -/
def Shape.move (a : Anchor) (f : List Byte) : Shape → Shape
  | .segment _ _ t => .segment (clampPt a (ptAt f 1)) (clampPt a (ptAt f 5)) t
  | .box _ _ filled t => .box (clampPt a (ptAt f 1)) (clampPt a (ptAt f 5)) filled t
  | .text _ scale body => .text (clampPt a (ptAt f 1)) scale body
  | .distanceMark _ _ _ t =>
    .distanceMark (clampDepth (s16At f 1)) (clampAcross (s16At f 3)) (clampAcross (s16At f 5)) t

/-- R87 -/
def actObjectMove (l : Link) (r : Request) (s : State) : State × Answer :=
  match s.reachOwned l (u8At r.fields 0) with
  | .error e => (s, .refuse e)
  | .ok (i, o) => (s.setSlot i (some { o with shape := o.shape.move o.anchor r.fields }), .done)

/-- OBJECT_MOVE (R87). -/
def execObjectMove (l : Link) (s : State) : Host.Outcome State Fault Refusal :=
  whileRunning s (answering .objectMove l (actObjectMove l))

/-- R88: colour, blink, layer, show conditions and output set replaced. -/
def ObjRecord.style (o : ObjRecord) (blink : Blink) (f : List Byte) : ObjRecord :=
  { o with
    colour := min (u8At f 1) 15, blink := blink, layer := min (u8At f 3) 7, showConds := (w16At f 4).setWidth 9
    outputs := (byteAt f 6).setWidth 2 }

/-- R88 -/
def actObjectStyle (l : Link) (r : Request) (s : State) : State × Answer :=
  match s.reachOwned l (u8At r.fields 0) with
  | .error e => (s, .refuse e)
  | .ok (i, o) =>
    match Blink.ofCode (u8At r.fields 2) with
    | none => (s, .refuse .malformed)
    | some blink => (s.setSlot i (some (o.style blink r.fields)), .done)

/-- OBJECT_STYLE (R88). -/
def execObjectStyle (l : Link) (s : State) : Host.Outcome State Fault Refusal :=
  whileRunning s (answering .objectStyle l (actObjectStyle l))

/-- R89 -/
def actTextSetCursor (l : Link) (r : Request) (s : State) : State × Answer :=
  let f := r.fields
  if u8At f 1 ≠ 0 then (s, .refuse .malformed)
  else
    match s.reachOwned l (u8At f 0) with
    | .error e => (s, .refuse e)
    | .ok (i, o) =>
      match o.shape with
      | .text origin scale body =>
        (s.setSlot i (some { o with shape := .text origin scale { body with cursor := min (u8At f 2) 16 } }), .done)
      | _ => (s, .refuse .wrongKind)

/-- OBJECT_TEXT in mode SET_CURSOR (R89). -/
def execObjectTextSetCursor (l : Link) (s : State) : Host.Outcome State Fault Refusal :=
  whileRunning s (answering .objectTextSetCursor l (actTextSetCursor l))

/-- R83: the glyph a character code is stored as. -/
def glyphCode (b : Byte) : Nat := if 95 < b.toNat then 0 else b.toNat

/-- R90: k characters written at the cursor. -/
def TextBody.append (t : TextBody) (chars : List Byte) : TextBody :=
  if chars = [] then t
  else
    let stop := min (t.cursor + chars.length) 16
    { glyphs := t.glyphs.mapIdx fun i g =>
        if t.cursor ≤ i && i < t.cursor + chars.length then glyphCode (byteAt chars (i - t.cursor))
        else if t.length ≤ i && i < t.cursor then 0
        else g
      length := max t.length stop
      cursor := stop }

/-- R90: whether an APPEND drops a character. -/
def TextBody.truncates (t : TextBody) (count : Nat) : Bool := 0 < count && 16 < t.cursor + count

/-- R90: a count greater than the characters carried fails check 1 of R84, a count above 16 fails check 5 (log 21). -/
def actTextAppend (l : Link) (r : Request) (s : State) : State × Answer :=
  let f := r.fields
  let count := u8At f 2
  if f.length < 3 + count then (s, .refuse .malformed)
  else
    match s.reachOwned l (u8At f 0) with
    | .error e => (s, .refuse e)
    | .ok (i, o) =>
      match o.shape with
      | .text origin scale body =>
        if 16 < count then (s, .refuse .malformed)
        else
          (s.setSlot i (some { o with shape := .text origin scale (body.append ((f.drop 3).take count)) }),
            ⟨.done, [yesNo (body.truncates count)]⟩)
      | _ => (s, .refuse .wrongKind)

/-- OBJECT_TEXT in mode APPEND (R90). -/
def execObjectTextAppend (l : Link) (s : State) : Host.Outcome State Fault Refusal :=
  whileRunning s (answering .objectTextAppend l (actTextAppend l))

/-- R91 -/
def actObjectRemove (l : Link) (r : Request) (s : State) : State × Answer :=
  match s.reachOwned l (u8At r.fields 0) with
  | .error e => (s, .refuse e)
  | .ok (i, _) => (s.setSlot i none, .done)

/-- OBJECT_REMOVE (R91). -/
def execObjectRemove (l : Link) (s : State) : Host.Outcome State Fault Refusal :=
  whileRunning s (answering .objectRemove l (actObjectRemove l))

/-- Every slot owned by a link emptied. -/
def ObjectTable.purgeSlots (t : ObjectTable) (l : Link) : ObjectTable :=
  { t with slots := t.slots.map fun o => if ownedBy l o then none else o }

/-- How many slots a link owns. -/
def ObjectTable.ownedCount (t : ObjectTable) (l : Link) : Nat := t.slots.toList.countP (ownedBy l)

/-- R92 -/
def actObjectRemoveAll (l : Link) (_ : Request) (s : State) : State × Answer :=
  ({ s with table := s.table.purgeSlots l }, ⟨.done, [byte (s.table.ownedCount l)]⟩)

/-- OBJECT_REMOVE_ALL (R92). -/
def execObjectRemoveAll (l : Link) (s : State) : Host.Outcome State Fault Refusal :=
  whileRunning s (answering .objectRemoveAll l (actObjectRemoveAll l))

/-- A link's strip sets replaced. -/
def ObjectTable.setStrip (t : ObjectTable) (l : Link) (lit blink : BitVec 32) : ObjectTable :=
  { t with lit := t.lit.set l.ix lit, blink := t.blink.set l.ix blink }

/-- R96 -/
def actStripSet (l : Link) (r : Request) (s : State) : State × Answer :=
  ({ s with table := s.table.setStrip l (w32At r.fields 0) (w32At r.fields 4) }, .done)

/-- STRIP_SET (R96). -/
def execStripSet (l : Link) (s : State) : Host.Outcome State Fault Refusal :=
  whileRunning s (answering .stripSet l (actStripSet l))

/-! ## Purges -/

/-- R97: whether a purge of the link finds something to empty. -/
def ObjectTable.hasOf (t : ObjectTable) (l : Link) : Bool :=
  t.ownedCount l != 0 || t.lit[l.ix] != 0 || t.blink[l.ix] != 0

/-- R97: the owner silence purge of a link. -/
def State.purge (s : State) (l : Link) : State :=
  let s1 := { s with table := (s.table.purgeSlots l).setStrip l 0 0 }
  if s.table.hasOf l then s1.setPurged l else s1

/-- R99: whether a slot's sector is named by neither entry of its owner's map. -/
def Body.drops (b : Body) (i : ObjSlot) (o : Option ObjRecord) : Bool := o.any fun k => !b.maps k.owner (sectorOf i)

/-- R99: a link loses a slot to the maps of a body. -/
def State.losesSlot (s : State) (b : Body) (l : Link) : Bool :=
  (List.finRange 96).any fun i => b.drops i (s.slot i) && ownedBy l (s.slot i)

/-- R99: the table at a commit: slots the new maps drop are emptied, the links that lost one have OBJECTS_PURGED set. -/
def State.commitTable (s : State) : State :=
  let s1 : State :=
    { s with
      table := { s.table with slots := s.table.slots.mapFinIdx fun i o h => if s.body.drops ⟨i, h⟩ o then none else o } }
  Link.all.foldl (fun t l => if s.losesSlot s.body l then t.setPurged l else t) s1

/-! ## Lifetimes -/

/-- R93: the frame mark of every OCCUPIED slot is set. -/
def ObjectTable.markAll (t : ObjectTable) : ObjectTable :=
  { t with slots := t.slots.map fun o => o.map fun k => { k with marked := true } }

/-- R94: a slot at a frame end counts down when it carries its mark and has a lifetime of 1 or more. -/
def ObjRecord.counts (o : ObjRecord) : Bool := o.marked && o.lifetime != 0

/-- R94: a slot expires at a frame end. -/
def expires (o : Option ObjRecord) : Bool := o.any fun k => k.counts && k.lifetime == 1

/-- R94: a slot after a frame end. -/
def countDown (o : Option ObjRecord) : Option ObjRecord :=
  if expires o then none else o.map fun k => if k.counts then { k with lifetime := k.lifetime - 1 } else k

/-- R100: an OBJECT notice to the owner of an expired slot, if its notice set includes OBJECT; its subject is the owner's handle,
its other fields the slot number and the reason EXPIRED, coded 0 (log 22). -/
def State.noteExpiry (s : State) (i : ObjSlot) (l : Link) : State :=
  if s.body.wantsNotice l.ix.val NoticeKind.object.index then
    s.setCtl l ((s.ctl l).pushNotice (noticeMsg .object ((s.body.handleOf l i).getD 255) [byte i.val, 0]))
  else s

/-- R94: one slot at a frame end. -/
def State.endSlot (s : State) (i : ObjSlot) : State :=
  let o := s.slot i
  let s1 := s.setSlot i (countDown o)
  match expires o, o with
  | true, some k => s1.noteExpiry i k.owner
  | _, _ => s1

/-- R94: the table at a frame end, its slots, and with them their OBJECT notices, in ascending order (log 34). -/
def State.countDownTable (s : State) : State := (List.finRange 96).foldl State.endSlot s

end Sys2Proof.Machine
end

