-- ==== Sys2Proof/Machine/Alert.lean ====
section
/-! DEFINITION. The alert output unit (chapter 7): the chime level, its pattern, the tone, and the hazard lines. -/

namespace Sys2Proof.Machine

/-- What the zone monitor hands the unit of a zone. -/
def ZoneRec.face (r : ZoneRec) : ZoneFace := ⟨r.state, r.held, r.acked⟩

/-- In WARNING, or in HOLD with held level WARNING (R134). -/
def ZoneFace.warns (f : ZoneFace) : Bool := f.state == .warning || (f.state == .hold && f.held == .warning)

/-- In CAUTION, or in HOLD with held level CAUTION (R131). -/
def ZoneFace.cautions (f : ZoneFace) : Bool := f.state == .caution || (f.state == .hold && f.held == .caution)

/-- In CAUTION, in WARNING or in HOLD (R135). -/
def ZoneFace.occupied (f : ZoneFace) : Bool := f.state == .caution || f.state == .warning || f.state == .hold

/-- The chime on caution flags of the zone records, bit z for zone z. -/
def Body.chimeFlags (b : Body) : BitVec 8 :=
  BitVec.ofBoolListLE ((List.finRange 8).map fun z => (b.zone z).chimeOnCaution)

/-- R131: the chime level from the unit's copy of the zones and the flags it has read. -/
def chimeLevelOf (flags : BitVec 8) (copies : Vector ZoneFace 8) : ChimeLevel :=
  if (List.finRange 8).any fun z => copies[z].warns && !copies[z].acked then .warning
  else if (List.finRange 8).any fun z => flags.getLsbD z.val && copies[z].cautions then .caution
  else .off

/-- R134: HZ_WARN from the unit's copy. -/
def hzWarnOf (copies : Vector ZoneFace 8) : Bool := (List.finRange 8).any fun z => copies[z].warns

/-- R135: HZ_CAUTION from the unit's copy. -/
def hzCautionOf (copies : Vector ZoneFace 8) : Bool := (List.finRange 8).any fun z => copies[z].occupied

/-- Table 7-3: the length of a segment in ms. -/
def Segment.length : Segment → Nat
  | .c1 => 150
  | .c2 => 1350
  | .w1 => 200
  | .w2 => 200

/-- Table 7-3: the next segment. -/
def Segment.next : Segment → Segment
  | .c1 => .c2
  | .c2 => .c1
  | .w1 => .w2
  | .w2 => .w1

/-- Table 7-3: the frequency of a segment in Hz; none for a silence. -/
def Segment.frequency : Segment → Option Nat
  | .c1 => some 1600
  | .c2 => none
  | .w1 => some 2500
  | .w2 => some 1600

/-- R132: the chime enters a segment; a tone segment takes the tone duty from the working copy (R133). -/
def Alert.enterSegment (b : Body) (a : Alert) (g : Segment) : Alert :=
  { a with
    segment := some g, segmentTimer := some g.length
    toneDuty := if g.frequency.isSome then b.chimeVolume else a.toneDuty }

/-- R132: the chime restarts from the beginning of the pattern of a level. -/
def Alert.restart (b : Body) (a : Alert) : ChimeLevel → Alert
  | .off => { a with level := .off, segment := none, segmentTimer := none }
  | .caution => { a with level := .caution }.enterSegment b .c1
  | .warning => { a with level := .warning }.enterSegment b .w1

/-- R130: level and lines worked out from the copy; the pattern restarts only on a change of level. -/
def Alert.follow (b : Body) (a : Alert) : Alert :=
  let a' := { a with hzWarn := hzWarnOf a.copies, hzCaution := hzCautionOf a.copies }
  if chimeLevelOf a.flags a.copies = a.level then a' else a'.restart b (chimeLevelOf a.flags a.copies)

/-- R130: a zone change reaches the unit, which takes it while started. -/
def State.alertZone (s : State) (z : Zone) (f : ZoneFace) : State :=
  { s with
    alert :=
      if s.alert.started then { s.alert with copies := s.alert.copies.set z f }.follow s.body else s.alert }

/-- R136: after a commit the unit reads the new flags and works out the level once more. -/
def State.alertCommit (s : State) : State :=
  { s with alert := { s.alert with flags := s.body.chimeFlags }.follow s.body }

/-- R132: the segment timer expires. -/
def Alert.segmentExpiry (b : Body) (a : Alert) : Alert :=
  match a.segmentTimer, a.segment with
  | some _, some g => a.enterSegment b g.next
  | _, _ => a

/-- R133: the tone that sounds, a frequency in Hz and a duty in per cent; none while the line rests low. -/
def Alert.tone (a : Alert) : Option (Nat × Nat) := (a.segment.bind Segment.frequency).map fun f => (f, a.toneDuty)

/-- R133: the period of a segment's square wave in ns, 400,000 at 2.5 kHz and 625,000 at 1.6 kHz; none for a silence. -/
def Segment.period (g : Segment) : Option Nat := g.frequency.map fun f => 1000000000 / f

/-- R133: the level of the CHIME line (true is high) a number of ns into a segment, at a tone duty in per cent: a period begins
high, is high for the duty share, and low for the rest; a silence is low. -/
def Segment.high (g : Segment) (duty ns : Nat) : Bool :=
  g.period.any fun p => decide (100 * (ns % p) < duty * p)

/-- R133: the level of the CHIME line a number of ns into the millisecond that runs. The periods count from the segment's beginning,
which its timer gives, so a segment begins its own first period and ends the last one of the segment before (logs 1, 28). -/
def Alert.line (a : Alert) (ns : Nat) : Bool :=
  a.segment.any fun g => g.high a.toneDuty (1000000 * (g.length - a.segmentTimer.getD 0) + ns)

/-- SEGMENT_TIMER_EXPIRY (R132). -/
def execSegmentTimerExpiry (s : State) : Host.Outcome State Fault Refusal :=
  whileRunning s fun s => { s with alert := s.alert.segmentExpiry s.body }

end Sys2Proof.Machine
end

