-- ==== Sys2Proof/Machine/Views.lean ====
section
/-! DEFINITION. The view arbiter (chapter 8): causes, masking, the choice, and the requests and timers that reach it. -/

namespace Sys2Proof.Machine

/-! ## Conditions and speed, as the arbiter reads them -/

/-- The condition set as bits, in the order of Table 6-1 (R198). -/
def Conditions.bits (c : Conditions) : BitVec 9 :=
  (if c.moving then 1 else 0) ||| (if c.reverse then 2 else 0) ||| (if c.nearsideIndicator then 4 else 0) |||
    (if c.doorOpen then 8 else 0) ||| (if c.liftActive then 16 else 0) ||| (if c.stepOccupied then 32 else 0) |||
    (if c.chassisUnknown then 64 else 0) ||| (if c.bodyUnknown then 128 else 0) ||| (if c.service then 256 else 0)

/-- Some condition of the set holds. -/
def Conditions.some (c : Conditions) (set : BitVec 9) : Bool := c.bits &&& set != 0

/-- R106: the speed in force. -/
def Vehicle.speed (v : Vehicle) : Nat :=
  if v.conds.chassisUnknown then Config.topSpeed else (v.raw.map RawChassis.speed).getD Config.topSpeed

/-- Whether a LEVEL cause's source condition holds (Table 8-2). -/
def CauseSource.holds (c : Conditions) : CauseSource → Bool
  | .reverse => c.reverse
  | .nearsideIndicator => c.nearsideIndicator
  | .liftActive => c.liftActive
  | .doorOpen => c.doorOpen
  | .stepOccupied => c.stepOccupied
  | .zoneWarning => false
  | .linkRequest => false

/-! ## Causes -/

/-- The runtime of a cause. -/
def State.causeRec (s : State) (i : Cause) : CauseRec := s.arbiter.causes[i]

/-- The runtime of a cause replaced. -/
def State.setCauseRec (s : State) (i : Cause) (r : CauseRec) : State :=
  { s with arbiter := { s.arbiter with causes := s.arbiter.causes.set i r } }

/-- Masked by links (8.3). -/
def State.linkMasked (s : State) (i : Cause) : Bool := (s.causeRec i).masks != 0

/-- Masked by speed: its maximum speed is not 0 and the speed in force exceeds it (8.3). -/
def State.speedMasked (s : State) (i : Cause) : Bool :=
  (s.body.cause i).maxSpeed != 0 && (s.body.cause i).maxSpeed < s.vehicle.speed

/-- Masked while its mask set is not empty, or by speed (8.3). -/
def State.masked (s : State) (i : Cause) : Bool := s.linkMasked i || s.speedMasked i

/-- Active (LEVEL), PENDING or IN_SERVICE (LATCHED) (R148). -/
def State.asking (s : State) (i : Cause) : Bool :=
  if (s.body.cause i).latched then (s.causeRec i).stage != .quiet else (s.body.cause i).source.holds s.vehicle.conds

/-- R148: an enabled, unmasked cause that asks. -/
def State.competes (s : State) (i : Cause) : Bool := (s.body.cause i).enabled && !s.masked i && s.asking i

/-- R148: of two causes, the one of higher priority, and of equal priority the first. -/
def better (b : Body) (best : Option Cause) (i : Cause) : Option Cause :=
  match best with
  | none => some i
  | some j => if (b.cause j).priority < (b.cause i).priority then some i else some j

/-- R148: the candidate. -/
def State.candidate (s : State) : Option Cause :=
  ((List.finRange 12).filter s.competes).foldl (better s.body) none

/-- R149: the shown cause stands while it is an unmasked LEVEL cause that is active or an unmasked LATCHED cause in service. -/
def State.shownStands (s : State) : Bool :=
  match s.arbiter.shownCause with
  | none => false
  | some i =>
    (s.body.cause i).enabled && !s.masked i &&
      (if (s.body.cause i).latched then (s.causeRec i).stage == .inService
       else (s.body.cause i).source.holds s.vehicle.conds)

/-- R149: a timer started with a time that may be 0, which leaves it expired. -/
def startTimer (ms : Nat) : Timer := if ms = 0 then none else some ms

/-- R149: a PENDING cause that is chosen enters service. -/
def State.serve (s : State) (i : Cause) : State :=
  if (s.causeRec i).stage = .pending then
    s.setCauseRec i { s.causeRec i with stage := .inService, timer := some (tenths (s.body.cause i).serveTime) }
  else s

/-- R149: a change of view. -/
def State.changeView (s : State) (view : Nat) (cause : Option Cause) : State :=
  { s with
    arbiter :=
      { s.arbiter with
        shownView := view, shownCause := cause, showTimer := startTimer (tenths s.body.minShowTime) } }

/-- R149: the shown cause alone changes. -/
def State.setShownCause (s : State) (cause : Option Cause) : State :=
  { s with arbiter := { s.arbiter with shownCause := cause } }

/-- R149: the five cases. -/
def State.decideView (s : State) : State :=
  match s.candidate with
  | some i =>
    if (s.body.cause i).view = s.arbiter.shownView then (s.setShownCause (some i)).serve i
    else if s.arbiter.showTimer = none ∨ (s.body.cause i).urgent = true then
      (s.changeView (s.body.cause i).view (some i)).serve i
    else s
  | none =>
    if s.arbiter.shownView = s.body.defaultView then s.setShownCause none
    else if s.shownStands then s
    else s.changeView s.body.defaultView none

/-- A value that may be none is 255 (R198). -/
def optByte (o : Option Nat) : Byte := byte (o.getD 255)

/-- R151: the fields of the VIEW notice after its subject. -/
def State.viewFields (s : State) : List Byte :=
  [byte s.arbiter.shownView, optByte (s.arbiter.shownCause.map Fin.val)]

/-- R151: a VIEW notice is raised when the shown view or the shown cause has changed. -/
def State.noteView (before s : State) : State :=
  if before.arbiter.shownView = s.arbiter.shownView ∧ before.arbiter.shownCause = s.arbiter.shownCause then s
  else s.raise .view 0 s.viewFields

/-- R148: the arbiter makes its choice. -/
def State.choose (s : State) : State := State.noteView s s.decideView

/-- R142: a LATCHED cause is raised. -/
def State.raiseCause (s : State) (i : Cause) : State :=
  let r := s.causeRec i
  let c := s.body.cause i
  match r.stage with
  | .quiet => s.setCauseRec i { r with stage := .pending, timer := some (tenths c.pendingLife) }
  | .pending => s.setCauseRec i { r with timer := some (tenths c.pendingLife) }
  | .inService => s.setCauseRec i { r with timer := some (tenths c.serveTime) }

/-- R142: the causes an onset of a zone with a preferred view raises. -/
def raisedBy (b : Body) (z : Zone) (view : Nat) (i : Cause) : Bool :=
  (b.cause i).enabled && (b.cause i).source == .zoneWarning && (b.cause i).zones.getLsbD z.val && (b.cause i).view == view

/-- R125, R142: a WARNING onset of a zone is handed to the arbiter, which then makes its choice. -/
def State.onset (s : State) (z : Zone) (view : Nat) : State :=
  (((List.finRange 12).filter (raisedBy s.body z view)).foldl State.raiseCause s).choose

/-- R146: LATCHED causes in service that are masked end at once. -/
def State.endMasked (s : State) : State :=
  { s with
    arbiter :=
      { s.arbiter with
        causes := s.arbiter.causes.mapFinIdx fun i r h =>
          if r.stage = .inService ∧ s.masked ⟨i, h⟩ then { r with stage := .quiet, timer := none } else r } }

/-- The mask sets of the causes changed. -/
def State.mapMasks (s : State) (f : Nat → BitVec 3 → BitVec 3) : State :=
  { s with
    arbiter := { s.arbiter with causes := s.arbiter.causes.mapIdx fun i r => { r with masks := f i r.masks } } }

/-- The one-link set of a link. -/
def linkBit (l : Link) : BitVec 3 := 1#3 <<< l.ix.val

/-- R147: the link is removed from the mask set of every cause, and the arbiter makes its choice. -/
def State.clearMasks (s : State) (l : Link) : State := (s.mapMasks fun _ m => m &&& ~~~(linkBit l)).choose

/-- R152: the arbiter takes a commit. -/
def State.arbiterCommit (s : State) : State :=
  State.choose { s with
    arbiter := { s.arbiter with causes := s.arbiter.causes.map fun r => { r with stage := .quiet, timer := none } } }

/-! ## Requests -/

/-- R143 -/
def actViewRequest (r : Request) (s : State) : State × Answer :=
  let n := u8At r.fields 0
  if h : n < 12 then
    let i : Cause := ⟨n, h⟩
    if (s.body.cause i).enabled && (s.body.cause i).source == .linkRequest then
      let s' := (s.raiseCause i).choose
      (s', ⟨.done, [byte (s'.causeRec i).stage.code]⟩)
    else (s, .refuse .notPermitted)
  else (s, .refuse .malformed)

/-- VIEW_REQUEST (R143). -/
def execViewRequest (l : Link) (s : State) : Host.Outcome State Fault Refusal :=
  whileRunning s (answering .viewRequest l actViewRequest)

/-- R145 with action SET: the link is added to the mask sets of the causes named, masked causes in service end, and the
arbiter makes its choice. -/
def State.maskCauses (s : State) (l : Link) (set : BitVec 16) : State :=
  (s.mapMasks fun i m => if set.getLsbD i then m ||| linkBit l else m).endMasked.choose

/-- R145 with action CLEAR. -/
def State.unmaskCauses (s : State) (l : Link) (set : BitVec 16) : State :=
  (s.mapMasks fun i m => if set.getLsbD i then m &&& ~~~(linkBit l) else m).choose

/-- R145, action SET; an unknown action is MALFORMED. -/
def actViewMaskSet (l : Link) (r : Request) (s : State) : State × Answer :=
  if u8At r.fields 2 = 0 then (s.maskCauses l (w16At r.fields 0), .done) else (s, .refuse .malformed)

/-- VIEW_MASK with action SET (R145). -/
def execViewMaskSet (l : Link) (s : State) : Host.Outcome State Fault Refusal :=
  whileRunning s (answering .viewMaskSet l (actViewMaskSet l))

/-- R145, action CLEAR. -/
def actViewMaskClear (l : Link) (r : Request) (s : State) : State × Answer :=
  (s.unmaskCauses l (w16At r.fields 0), .done)

/-- VIEW_MASK with action CLEAR (R145). -/
def execViewMaskClear (l : Link) (s : State) : Host.Outcome State Fault Refusal :=
  whileRunning s (answering .viewMaskClear l (actViewMaskClear l))

/-! ## Timers -/

/-- R144: a LATCHED cause's timer expires. -/
def State.causeExpiry (s : State) (i : Cause) : State :=
  if (s.causeRec i).timer = none then s
  else (s.setCauseRec i { s.causeRec i with stage := .quiet, timer := none }).choose

/-- CAUSE_TIMER_EXPIRY (R144). -/
def execCauseTimerExpiry (i : Cause) (s : State) : Host.Outcome State Fault Refusal :=
  whileRunning s fun s => s.causeExpiry i

/-- R149: the show timer expires and the arbiter makes its choice. -/
def State.showExpiry (s : State) : State :=
  if s.arbiter.showTimer = none then s
  else State.choose { s with arbiter := { s.arbiter with showTimer := none } }

/-- SHOW_TIMER_EXPIRY (R149). -/
def execShowTimerExpiry (s : State) : Host.Outcome State Fault Refusal := whileRunning s State.showExpiry

end Sys2Proof.Machine
end

