-- ==== Sys2Proof/Machine/Zones.lean ====
section
/-! DEFINITION. The zone monitor (6.3): occupancy, the evaluation of a zone, dwell, hold, acknowledgement, onset. -/

namespace Sys2Proof.Machine

/-! ## The pure rules of a zone -/

/-- R126: the fields of a ZONE notice after its zone number. -/
def ZoneRec.fields (r : ZoneRec) : List Byte :=
  [byte r.state.code, byte r.held.code, byte r.occupancy, yesNo r.acked] ++ be16 r.dwell

/-- R119: a zone is armed when its arm conditions set is empty, or some condition in it holds. -/
def ZoneSettings.armed (cfg : ZoneSettings) (c : Conditions) : Bool := cfg.arm == 0 || c.some cfg.arm

/-- R121: the level of an armed, occupied zone. -/
def ZoneSettings.level (cfg : ZoneSettings) (c : Conditions) (r : ZoneRec) : Level :=
  if c.some cfg.warnConds || r.warnMark || (cfg.dwellLimit != 0 && cfg.dwellLimit ≤ r.dwell) then .warning else .caution

/-- Entry to IDLE (Table 6-7, case 1). -/
def ZoneRec.toIdle (r : ZoneRec) : ZoneRec :=
  { r with state := .idle, dwell := 0, acked := false, dwellTimer := none, holdTimer := none }

/-- Entry to CLEAR (R119). -/
def ZoneRec.toClear (r : ZoneRec) : ZoneRec :=
  { r with state := .clear, dwell := 0, acked := false, dwellTimer := none, holdTimer := none }

/-- Entry to HOLD (R120); a hold time of 0 takes the zone straight to CLEAR, the held level as it was (log 25). -/
def ZoneRec.toHold (r : ZoneRec) (l : Level) (holdTime : Nat) : ZoneRec :=
  if holdTime = 0 then r.toClear
  else { r with state := .hold, held := l, dwellTimer := none, holdTimer := some (tenths holdTime) }

/-- The state of a level. -/
def Level.state : Level → ZoneState
  | .caution => .caution
  | .warning => .warning

/-- Whether the dwell timer runs in a state (R122). -/
def ZoneState.dwelling : ZoneState → Bool
  | .caution | .warning => true
  | _ => false

/-- Table 6-7, case 5: the state becomes the level; the dwell timer starts a fresh period on entry from IDLE, CLEAR or HOLD
(R122); a rise from CAUTION, or from HOLD with held CAUTION, to WARNING clears the acknowledgement (R124). -/
def ZoneRec.toLevel (r : ZoneRec) (l : Level) : ZoneRec :=
  { r with
    state := l.state, holdTimer := none
    dwellTimer := if r.state.dwelling then r.dwellTimer else some Config.dwellPeriod
    acked := if l = .warning ∧ (r.state = .caution ∨ (r.state = .hold ∧ r.held = .caution)) then false else r.acked }

/-- R119: the evaluation of an enabled zone. A zone in HOLD whose hold timer has expired goes to CLEAR (R120). -/
def ZoneRec.evaluate (cfg : ZoneSettings) (c : Conditions) (r : ZoneRec) : ZoneRec :=
  if !cfg.armed c then r.toIdle
  else if r.occupancy = 0 then
    match r.state with
    | .idle => r.toClear
    | .clear => r
    | .caution => r.toHold .caution cfg.holdTime
    | .warning => r.toHold .warning cfg.holdTime
    | .hold => if r.holdTimer = none then r.toClear else r
  else r.toLevel (cfg.level c r)

/-- R125: an entry into WARNING from any state other than HOLD with held level WARNING. -/
def isOnset (before after : ZoneRec) : Bool :=
  after.state == .warning && before.state != .warning && !(before.state == .hold && before.held == .warning)

/-- R118: a track counts for a zone. -/
def ZoneSettings.counts (cfg : ZoneSettings) (floor : Nat) (t : Track) : Bool :=
  cfg.classes.getLsbD t.cls.index && floor ≤ t.confidence && cfg.xMin ≤ t.x && t.x ≤ cfg.xMax && cfg.yMin ≤ t.y &&
    t.y ≤ cfg.yMax

/-- The tracks of the table, in order of place. -/
def Tracks.entries (t : Tracks) : List Track := t.places.toList.filterMap id

/-- The contacts as bits: rear step left, rear step right, lift light curtain (R198). -/
def Contacts.bits (c : Contacts) : BitVec 3 :=
  (if c.stepLeft then 1 else 0) ||| (if c.stepRight then 2 else 0) ||| (if c.curtain then 4 else 0)

/-- The number of members of a set of three. -/
def count3 (b : BitVec 3) : Nat := (b.getLsbD 0).toNat + (b.getLsbD 1).toNat + (b.getLsbD 2).toNat

/-- R118: occupancy and warn-class mark counted anew; a count change that raises the occupancy clears the acknowledgement
(R124). -/
def ZoneRec.recount (cfg : ZoneSettings) (floor : Nat) (t : Tracks) (r : ZoneRec) : ZoneRec :=
  let counted := t.entries.filter (cfg.counts floor)
  let n := counted.length + count3 (cfg.contacts &&& t.contacts.bits)
  { r with
    occupancy := n
    warnMark := counted.any fun k => cfg.warnClasses.getLsbD k.cls.index
    acked := if r.occupancy < n then false else r.acked }

/-! ## The zone monitor at work -/

/-- R126: a ZONE notice, and the hand-over to the alert output unit, for a zone whose state, held level or acknowledged has
changed. -/
def State.zoneChange (s : State) (z : Zone) (r : ZoneRec) : State :=
  (s.raise .zone z.val r.fields).alertZone z r.face

/-- A zone takes a new runtime record: notice and alert unit where it shows a change (R126), then its onset to the arbiter, which
makes its choice before the next zone is taken (R125; log 40). -/
def State.takeZone (s : State) (z : Zone) (r : ZoneRec) : State :=
  let old := s.zoneRec z
  let s1 := s.setZoneRec z r
  let s2 := if old.face = r.face then s1 else s1.zoneChange z r
  match isOnset old r, (s.body.zone z).preferredView with
  | true, some v => s2.onset z v
  | _, _ => s2

/-- R119: one zone is evaluated, if it is enabled. -/
def State.evaluateZone (s : State) (z : Zone) : State :=
  if (s.body.zone z).enabled then s.takeZone z ((s.zoneRec z).evaluate (s.body.zone z) s.vehicle.conds) else s

/-- R103: a condition change reaches the zone monitor: every enabled zone is evaluated once, in ascending order (log 34). -/
def State.evaluateZones (s : State) : State := (List.finRange 8).foldl State.evaluateZone s

/-- R118: one zone is recounted, if it is enabled, and evaluated on a count change. -/
def State.recountZone (s : State) (z : Zone) : State :=
  let cfg := s.body.zone z
  let old := s.zoneRec z
  let r := old.recount cfg s.body.countFloor s.tracks
  if cfg.enabled && (r.occupancy != old.occupancy || r.warnMark != old.warnMark) then
    s.takeZone z (r.evaluate cfg s.vehicle.conds)
  else s

/-- R118: the monitor recounts every enabled zone, in ascending order (log 34). -/
def State.recountZones (s : State) : State := (List.finRange 8).foldl State.recountZone s

/-- R127: one zone at a commit: recounted and evaluated; one made not enabled goes to IDLE. -/
def State.commitZone (s : State) (z : Zone) : State :=
  let cfg := s.body.zone z
  if cfg.enabled then
    s.takeZone z (((s.zoneRec z).recount cfg s.body.countFloor s.tracks).evaluate cfg s.vehicle.conds)
  else s.takeZone z { (s.zoneRec z).toIdle with occupancy := 0, warnMark := false }

/-- R127: the zones take a commit in ascending order (log 34). -/
def State.commitZones (s : State) : State := (List.finRange 8).foldl State.commitZone s

/-- R120: a zone's hold timer expires and the zone is evaluated. -/
def State.holdExpiry (s : State) (z : Zone) : State :=
  if (s.zoneRec z).holdTimer = none then s
  else
    if (s.body.zone z).enabled then
      s.takeZone z ({ s.zoneRec z with holdTimer := none }.evaluate (s.body.zone z) s.vehicle.conds)
    else s.setZoneRec z { s.zoneRec z with holdTimer := none }

/-- HOLD_TIMER_EXPIRY (R120). -/
def execHoldTimerExpiry (z : Zone) (s : State) : Host.Outcome State Fault Refusal :=
  whileRunning s fun s => s.holdExpiry z

/-- R122: the dwell after one more period, up to 999. -/
def ZoneRec.dwelled (r : ZoneRec) : ZoneRec :=
  { r with dwell := min (r.dwell + 1) 999, dwellTimer := some Config.dwellPeriod }

/-- R122: a dwell period ends; a dwell that rises to equal a non-zero dwell limit evaluates the zone. -/
def State.dwellEnd (s : State) (z : Zone) : State :=
  let r := s.zoneRec z
  if r.dwellTimer = none then s
  else
    let cfg := s.body.zone z
    if r.dwelled.dwell ≠ r.dwell ∧ cfg.dwellLimit ≠ 0 ∧ r.dwelled.dwell = cfg.dwellLimit ∧ cfg.enabled then
      s.takeZone z (r.dwelled.evaluate cfg s.vehicle.conds)
    else s.setZoneRec z r.dwelled

/-- DWELL_PERIOD_END (R122). -/
def execDwellPeriodEnd (z : Zone) (s : State) : Host.Outcome State Fault Refusal :=
  whileRunning s fun s => s.dwellEnd z

/-- R123 -/
def actZoneAck (l : Link) (r : Request) (s : State) : State × Answer :=
  let n := u8At r.fields 0
  if h : n < 8 then
    let z : Zone := ⟨n, h⟩
    if !(s.body.zone z).ackRights.getLsbD l.ix.val then (s, .refuse .notPermitted)
    else if !(s.zoneRec z).face.warns then (s, .refuse .notWarning)
    else (s.takeZone z { s.zoneRec z with acked := true }, .done)
  else (s, .refuse .malformed)

/-- ZONE_ACK (R123). -/
def execZoneAck (l : Link) (s : State) : Host.Outcome State Fault Refusal :=
  whileRunning s (answering .zoneAck l (actZoneAck l))

end Sys2Proof.Machine
end

