-- ==== Sys2Proof/Machine/Vehicle.lean ====
section
/-! DEFINITION. The vehicle state block (6.1): chassis and body reports, fallbacks, and what a change of conditions or speed
reaches; with it the end of service state, which a rise of MOVING brings (R191). -/

namespace Sys2Proof.Machine

/-! ## The settings notice and the end of service state (R189, R191) -/

/-- R189: the five fields of a SETTINGS notice; commit in flight as yes or no (log 22). -/
def SettingsBlock.fields (b : SettingsBlock) : List Byte :=
  [byte b.state.code, yesNo b.serviceIn, yesNo b.exitPending, yesNo b.commit.isSome, byte b.lastWrite.code]

/-- R189: whether one of the five has changed. -/
def SettingsBlock.sameFace (a b : SettingsBlock) : Bool :=
  a.state == b.state && a.serviceIn == b.serviceIn && a.exitPending == b.exitPending &&
    a.commit.isSome == b.commit.isSome && a.lastWrite == b.lastWrite

/-- R189: a SETTINGS notice is raised when one of the five has changed. -/
def State.noteSettings (before s : State) : State :=
  if before.settings.sameFace s.settings then s else s.raise .settings 0 s.settings.fields

/-- R191: service state ends: OUT, staging discarded, exit pending no. -/
def SettingsBlock.leaveService (b : SettingsBlock) : SettingsBlock :=
  { b with serviceIn := false, staging := none, exitPending := false }

/-- R111: the condition SERVICE set. -/
def State.setService (s : State) (on : Bool) : State :=
  { s with vehicle := { s.vehicle with conds := { s.vehicle.conds with service := on } } }

/-- R191: service state ends and SERVICE becomes false. -/
def State.endService (s : State) : State := (s.setSettings s.settings.leaveService).setService false

/-- R191: service state is to end: at once, or with exit pending while a commit is in flight. -/
def State.askServiceEnd (s : State) : State :=
  if s.settings.commit = none then s.endService
  else s.setSettings { s.settings with exitPending := true }

/-! ## Handing a change on (R103) -/

/-- R103, R146: what has changed since `before` is handed on: a condition change to the zone monitor, then a change of speed
and the condition change to the arbiter (log 18). -/
def State.handOn (before s : State) : State :=
  let changed := before.vehicle.conds ≠ s.vehicle.conds
  let s1 := if changed then s.evaluateZones else s
  let s2 := if before.vehicle.speed ≠ s.vehicle.speed then s1.endMasked.choose else s1
  if changed then s2.choose else s2

/-- R191: MOVING has become true in service state. -/
def State.movingEnds (before s : State) : State :=
  if !before.vehicle.conds.moving && s.vehicle.conds.moving && s.settings.serviceIn then s.askServiceEnd else s

/-- The vehicle state block takes new values: MOVING becoming true ends service state, and what changed is handed on as one
condition change (R103, R191; log 18). The SETTINGS notice enters before the notices of what is handed on (log 38). -/
def State.takeVehicle (s : State) (v : Vehicle) : State :=
  let s1 := State.movingEnds s { s with vehicle := v }
  State.handOn s (State.noteSettings s s1)

/-! ## Chassis reports -/

/-- R107: NEARSIDE_INDICATOR and the off-delay timer after a report. -/
def indicatorAfter (on cond : Bool) (timer : Timer) (delay : Nat) : Bool × Timer :=
  if on then (true, none)
  else if cond then
    match timer with
    | some t => (true, some t)
    | none => if delay = 0 then (false, none) else (true, some (tenths delay))
  else (false, timer)

/-- R105: the vehicle state after a VEHICLE_STATE taken. -/
def Vehicle.report (b : Body) (v : Vehicle) (raw : RawChassis) : Vehicle :=
  let i := indicatorAfter raw.nearside v.conds.nearsideIndicator v.offDelay b.offDelay
  { v with
    raw := some raw, chassisTimer := some b.chassisSilenceLimit, offDelay := i.2
    conds :=
      { v.conds with
        chassisUnknown := false, moving := b.movingThreshold ≤ raw.speed, reverse := raw.gear == .reverse
        doorOpen := raw.door, nearsideIndicator := i.1 } }

/-- R105 -/
def actVehicleState (l : Link) (r : Request) (s : State) : State × Answer :=
  if l ≠ .chassis then (s, .refuse .notPermitted)
  else
    match Gear.ofCode (u8At r.fields 2) with
    | none => (s, .refuse .malformed)
    | some gear =>
      let flags := byteAt r.fields 3
      let raw : RawChassis :=
        { speed := (clamp 0 1200 (s16At r.fields 0)).toNat, gear := gear, nearside := flags.getLsbD 0, door := flags.getLsbD 2 }
      (s.takeVehicle (s.vehicle.report s.body raw), .done)

/-- VEHICLE_STATE (R105). -/
def execVehicleState (l : Link) (s : State) : Host.Outcome State Fault Refusal :=
  whileRunning s (answering .vehicleState l (actVehicleState l))

/-- R107: the off-delay timer expires. -/
def Vehicle.offDelayExpiry (v : Vehicle) : Vehicle :=
  { v with offDelay := none, conds := { v.conds with nearsideIndicator := false } }

/-- INDICATOR_OFF_DELAY_EXPIRY (R107). -/
def execIndicatorOffDelayExpiry (s : State) : Host.Outcome State Fault Refusal :=
  whileRunning s fun s => if s.vehicle.offDelay = none then s else s.takeVehicle s.vehicle.offDelayExpiry

/-- R108: the chassis fallbacks. -/
def Vehicle.chassisFallback (v : Vehicle) : Vehicle :=
  { v with
    chassisTimer := none, offDelay := none
    conds :=
      { v.conds with
        moving := true, reverse := false, nearsideIndicator := false, doorOpen := false, chassisUnknown := true } }

/-- CHASSIS_SILENCE_TIMER_EXPIRY (R108). -/
def execChassisSilenceTimerExpiry (s : State) : Host.Outcome State Fault Refusal :=
  whileRunning s fun s => if s.vehicle.chassisTimer = none then s else s.takeVehicle s.vehicle.chassisFallback

/-! ## Body reports -/

/-- R109: the vehicle state after a BODY_STATE taken: whether the lift is CYCLING, and the contacts. -/
def Vehicle.bodyReport (b : Body) (v : Vehicle) (cycling : Bool) (c : Contacts) : Vehicle :=
  { v with
    bodyTimer := some b.bodySilenceLimit
    conds := { v.conds with bodyUnknown := false, liftActive := cycling, stepOccupied := c.stepLeft || c.stepRight } }

/-- R109: the contacts a byte reports. -/
def Contacts.ofByte (b : Byte) : Contacts := ⟨b.getLsbD 0, b.getLsbD 1, b.getLsbD 2⟩

/-- R109: a BODY_STATE taken: contacts to the track table, recount, conditions; a count change is evaluated under the conditions of
the same report (log 18). -/
def State.bodyReport (s : State) (cycling : Bool) (c : Contacts) : State :=
  let v := s.vehicle.bodyReport s.body cycling c
  let s1 := { s with vehicle := v, tracks := { s.tracks with contacts := c } }
  let s2 := if s.tracks.contacts = c then s1 else s1.recountZones
  State.handOn s s2

/-- R109 -/
def actBodyState (l : Link) (r : Request) (s : State) : State × Answer :=
  if l ≠ .body then (s, .refuse .notPermitted)
  else if 2 < u8At r.fields 0 ∨ 1 < u8At r.fields 2 then (s, .refuse .malformed)
  else (s.bodyReport (u8At r.fields 0 = 1) (Contacts.ofByte (byteAt r.fields 1)), .done)

/-- BODY_STATE (R109). -/
def execBodyState (l : Link) (s : State) : Host.Outcome State Fault Refusal :=
  whileRunning s (answering .bodyState l (actBodyState l))

/-- R110: the body fallbacks. -/
def Vehicle.bodyFallback (v : Vehicle) : Vehicle :=
  { v with bodyTimer := none, conds := { v.conds with liftActive := false, bodyUnknown := true } }

/-- BODY_SILENCE_TIMER_EXPIRY (R110). -/
def execBodySilenceTimerExpiry (s : State) : Host.Outcome State Fault Refusal :=
  whileRunning s fun s => if s.vehicle.bodyTimer = none then s else s.takeVehicle s.vehicle.bodyFallback

/-- R104: MOVING worked out again at a commit. -/
def Vehicle.commit (b : Body) (v : Vehicle) : Vehicle :=
  { v with conds := { v.conds with moving := b.movingThreshold ≤ v.speed } }

end Sys2Proof.Machine
end

