-- ==== Sys2Proof/Machine/Links.lean ====
section
/-! DEFINITION. The client link controllers (chapter 10): the CAN FD ports, the SPI port, owner silence, STATUS_QUERY. -/

namespace Sys2Proof.Machine

/-- A link's owner timeout in ms (R185). -/
def State.ownerTimeout (s : State) (l : Link) : Nat := 1000 * s.body.ownerTimeout l

/-- A link's controller changed. -/
def State.onCtl (s : State) (l : Link) (f : LinkCtl → LinkCtl) : State := s.setCtl l (f (s.ctl l))

/-! ## The CAN FD ports (10.2) -/

/-- The bytes of a message: kind, tag, length, fields (12.3). -/
def OutMsg.bytes (m : OutMsg) : List Byte := m.kind :: m.tag :: byte m.fields.length :: m.fields

/-- The payload lengths of a CAN FD frame, rising (the protocol's, log 39). -/
def canPayloadLengths : List Nat := [0, 1, 2, 3, 4, 5, 6, 7, 8, 12, 16, 20, 24, 32, 48, 64]

/-- R174, 12.3: the payload of the frame that carries a message: the message from byte 0, then zeros up to the least payload
length that holds it. -/
def OutMsg.canPayload (m : OutMsg) : List Byte :=
  let n := (canPayloadLengths.find? fun k => m.bytes.length ≤ k).getD m.bytes.length
  m.bytes ++ List.replicate (n - m.bytes.length) 0

/-- R174: the frame that a CAN port has on the bus: its identifier and its payload; none while it sends nothing. -/
def State.busFrame (s : State) (p : CanPort) : Option (Int × List Byte) :=
  (s.ctl p.link).transit.bind fun t => t.msg.map fun m => (t.ident, m.canPayload)

/-- R173: a frame received without error. Another identifier is disregarded; a payload too short for a header sets FRAMING; a
port in bus-off receives nothing (R175). -/
def State.canFrame (s : State) (l : Link) (ident : BitVec 11) (payload : List Byte) : State :=
  if (s.ctl l).busOff ∨ (ident.toNat : Int) ≠ s.body.canId l.ix.val 0 then s
  else
    match Request.ofBytes payload with
    | none => s.setFraming l
    | some r => s.onCtl l fun c => c.arrive (s.ownerTimeout l) r

/-- CAN_REQUEST_FRAME (R173). -/
def execCanRequestFrame (p : CanPort) (ident : BitVec 11) (payload : List Byte) (s : State) :
    Host.Outcome State Fault Refusal :=
  whileRunning s fun s => s.canFrame p.link ident payload

/-- CAN_FRAME_ACKNOWLEDGED (R174): the frame on the bus has been sent; the head leaves unless it was replaced or pushed out. -/
def execCanFrameAcknowledged (p : CanPort) (s : State) : Host.Outcome State Fault Refusal :=
  whileRunning s fun s => s.onCtl p.link LinkCtl.finishSending

/-- R174: the frame is not sent; the head stays and is put up again. -/
def LinkCtl.sendAgain (c : LinkCtl) : LinkCtl := { c with transit := none }

/-- CAN_ARBITRATION_LOSS (R174). -/
def execCanArbitrationLoss (p : CanPort) (s : State) : Host.Outcome State Fault Refusal :=
  whileRunning s fun s => s.onCtl p.link LinkCtl.sendAgain

/-- CAN_BUS_ERROR (R174). -/
def execCanBusError (p : CanPort) (s : State) : Host.Outcome State Fault Refusal :=
  whileRunning s fun s => s.onCtl p.link LinkCtl.sendAgain

/-- R175: entry to bus-off: the outbound queue is emptied, the frame that was being sent is lost, NOTICES_LOST is set. -/
def LinkCtl.enterBusOff (c : LinkCtl) : LinkCtl :=
  { c with outbound := [], transit := none, busOff := true, flags := { c.flags with noticesLost := true } }

/-- CAN_BUS_OFF (R175). A port that is in bus-off already does not enter it. -/
def execCanBusOff (p : CanPort) (s : State) : Host.Outcome State Fault Refusal :=
  whileRunning s fun s => s.onCtl p.link fun c => if c.busOff then c else c.enterBusOff

/-- CAN_BUS_OFF_RECOVERY (R175): the port rejoins the bus and sends its head. -/
def execCanBusOffRecovery (p : CanPort) (s : State) : Host.Outcome State Fault Refusal :=
  whileRunning s fun s => s.onCtl p.link fun c => { c with busOff := false }

/-! ## The SPI port (10.3) -/

/-- R176: an exchange begins: the KS-4's half takes the head of the queue, or an empty marker. -/
def LinkCtl.startExchange (c : LinkCtl) : LinkCtl :=
  if c.transit.isSome then c
  else
    { c with
      transit := some { msg := c.outbound.head?, ident := 0, removesHead := c.outbound.head?.isSome, disregard := false } }

/-- R187: an exchange that begins during the settings load is answered with an empty marker and disregarded. -/
def LinkCtl.startIdleExchange (c : LinkCtl) : LinkCtl :=
  if c.transit.isSome then c
  else { c with transit := some { msg := none, ident := 0, removesHead := false, disregard := true } }

/-- SPI_EXCHANGE_START (R176). -/
def execSpiExchangeStart (s : State) : Host.Outcome State Fault Refusal :=
  match s.phase with
  | .running => whileRunning s fun s => s.onCtl .detector LinkCtl.startExchange
  | .loading => .next (s.onCtl .detector LinkCtl.startIdleExchange)
  | .stopped => .next s

/-- What the master's half holds (12.3). -/
inductive MasterHalf where
  | empty
  | request (r : Request)
  | unreadable
  deriving DecidableEq, Repr

/-- The marker byte of a half and the request in its bytes 1 to 32 (12.3). -/
def masterHalf (half : List Byte) : MasterHalf :=
  match (byteAt half 0).toNat, Request.ofBytes ((half.drop 1).take 32) with
  | 0, _ => .empty
  | 1, some r => .request r
  | _, _ => .unreadable

/-- The exchange in progress is one whose master's half is disregarded (R187). -/
def LinkCtl.disregards (c : LinkCtl) : Bool := c.transit.any fun t => t.disregard

/-- R176: an exchange completes: its request goes to the inbound queue, its head leaves the outbound queue. Where no start was
reported, the exchange began at this moment (log 14). -/
def State.completeExchange (s : State) (half : List Byte) : State :=
  let c := (s.ctl .detector).startExchange
  let s1 := s.setCtl .detector c.finishSending
  if c.disregards then s1
  else
    match masterHalf half with
    | .empty => s1
    | .request r => s1.onCtl .detector fun d => d.arrive (s.ownerTimeout .detector) r
    | .unreadable => s1.setFraming .detector

/-- R177: an exchange is cut short: nothing is taken, the head stays, FRAMING is set, for an exchange that began during the
settings load too (log 14). -/
def State.cutExchange (s : State) : State :=
  let s1 := s.setFraming .detector
  s1.onCtl .detector fun c => { c with transit := none }

/-- SPI_EXCHANGE (R176): bytes after the 36th are disregarded; a half of fewer is one that was cut short (R177). During the load
the exchange is disregarded (R187). -/
def execSpiExchange (half : List Byte) (s : State) : Host.Outcome State Fault Refusal :=
  match s.phase with
  | .running => whileRunning s fun s => if half.length < 36 then s.cutExchange else s.completeExchange half
  | .loading => .next (s.onCtl .detector fun c => { c with transit := none })
  | .stopped => .next s

/-- SPI_EXCHANGE_CUT_SHORT (R177). During the load no flag is set (R187). -/
def execSpiExchangeCutShort (s : State) : Host.Outcome State Fault Refusal :=
  match s.phase with
  | .running => whileRunning s State.cutExchange
  | .loading => .next (s.onCtl .detector fun c => { c with transit := none })
  | .stopped => .next s

/-- R176: the attention line is asserted while the DETECTOR outbound queue is not empty; deasserted during the load and while
stopped (R187, R197). -/
def State.attention (s : State) : Bool := s.phase == .running && !(s.ctl .detector).outbound.isEmpty

/-- The KS-4's 36-byte half: marker 0x01 and the message, or an empty marker, with zeros after it (12.3). -/
def slaveHalf (m : Option OutMsg) : List Byte :=
  let front := match m with
    | some m => 1 :: m.bytes
    | none => [0]
  front ++ List.replicate (36 - front.length) 0

/-- R177: what the KS-4 sends in an exchange of n bytes: its half as far as the exchange runs, and after the 36th byte empty
markers (0x00, 12.3). -/
def slaveBytes (m : Option OutMsg) (n : Nat) : List Byte := (slaveHalf m).take n ++ List.replicate (n - 36) 0

/-! ## Owner silence (R185) -/

/-- R185: the timer expires: the table purges (R97) and the arbiter clears the link's masks (R147). -/
def State.ownerExpiry (s : State) (l : Link) : State :=
  if (s.ctl l).ownerTimer = none then s
  else ((s.onCtl l fun c => { c with ownerTimer := none }).purge l).clearMasks l

/-- OWNER_SILENCE_TIMER_EXPIRY (R185). -/
def execOwnerSilenceTimerExpiry (l : Link) (s : State) : Host.Outcome State Fault Refusal :=
  whileRunning s fun s => s.ownerExpiry l

/-! ## STATUS_QUERY (R184) -/

/-- R184, SUMMARY. -/
def State.summaryFields (s : State) : List Byte :=
  [byte s.supply.state.code, byte s.settings.state.code, yesNo s.settings.serviceIn, yesNo s.settings.commit.isSome,
    byte s.arbiter.shownView, optByte (s.arbiter.shownCause.map Fin.val), yesNo s.arbiter.showTimer.isSome] ++
  ((List.finRange 4).flatMap fun c =>
    [byte (s.recv c).lock.code, byte (s.pict c).freshness.code, byte (s.pict c).shownAge]) ++
  (List.finRange 8).map fun z => byte (s.zoneRec z).state.code

/-- R57: a regulator's values. The heater demand, on / off in Table 3-2, is carried as a yes/no byte, on 1 and off 0 (log 22,
DEDUCED). -/
def State.regulatorFields (s : State) (c : Camera) : List Byte :=
  let g := s.reg c
  [byte g.gain, byte (g.handedDuty s.supply.state), yesNo (g.handedHeater s.supply.state), yesNo g.stopTimer.isSome] ++
    match g.reading with
    | some m => [1, byte m.mean, yesNo m.glare]
    | none => [0, 0, 0]

/-- R61, R76: a camera's calibration state, CALIBRATED 0 or UNCALIBRATED 1 in the order R61 lists them. -/
def State.calibrationByte (s : State) (c : Camera) : Byte := if (s.body.calibration c).calibrated then 0 else 1

/-- R184, CAMERA n: the fields of the CAMERA notice, the regulator's values, the calibration state. -/
def State.cameraPart (s : State) (c : Camera) : List Byte :=
  byte c.val :: s.cameraFields c ++ s.regulatorFields c ++ [s.calibrationByte c]

/-- R184, ZONES: the four zones of a half. -/
def State.zonesPart (s : State) (half : Nat) : List Byte :=
  ((List.finRange 8).filter fun z => z.val / 4 == half).flatMap fun z => (s.zoneRec z).fields

/-- R151: whether a cause is active (LEVEL) or its stage (LATCHED), and whether it is masked by links (bit 0) and by speed
(bit 1) (log 22). -/
def State.causeBytes (s : State) (i : Cause) : List Byte :=
  let asked :=
    if (s.body.cause i).latched then byte (s.causeRec i).stage.code
    else yesNo ((s.body.cause i).enabled && (s.body.cause i).source.holds s.vehicle.conds)
  [asked, (if s.linkMasked i then 1 else 0) ||| (if s.speedMasked i then 2 else 0)]

/-- R184, CAUSES. -/
def State.causesPart (s : State) : List Byte := (List.finRange 12).flatMap s.causeBytes

/-- R184: the fields of the part a query names; none where the query is MALFORMED. -/
def State.queryPart (s : State) (f : List Byte) : Option (List Byte) :=
  match u8At f 0 with
  | 0 => some s.summaryFields
  | 1 => if h : 2 ≤ f.length ∧ u8At f 1 < 4 then some (s.cameraPart ⟨u8At f 1, h.2⟩) else none
  | 2 => if 2 ≤ f.length ∧ u8At f 1 < 2 then some (s.zonesPart (u8At f 1)) else none
  | 3 => some s.causesPart
  | _ => none

/-- R183, R184: the reply carries the link's flags, which are cleared, and the part. -/
def actStatusQuery (l : Link) (r : Request) (s : State) : State × Answer :=
  match s.queryPart r.fields with
  | none => (s, .refuse .malformed)
  | some part => (s.clearFlags l, ⟨.done, (s.ctl l).flags.byte :: part⟩)

/-- STATUS_QUERY (R184). -/
def execStatusQuery (l : Link) (s : State) : Host.Outcome State Fault Refusal :=
  whileRunning s (answering .statusQuery l (actStatusQuery l))

/-- R179 step 1: a request of an unknown kind is answered UNKNOWN_KIND, whatever its length. -/
def State.answerUnknown (l : Link) (s : State) : State :=
  match s.takeHead .unknownKind l with
  | none => s
  | some (r, s') => s'.reply l r (.refuse .unknownKind)

/-- UNKNOWN_KIND (R179). -/
def execUnknownKind (l : Link) (s : State) : Host.Outcome State Fault Refusal := whileRunning s (State.answerUnknown l)

end Sys2Proof.Machine
end

