-- ==== Sys2Proof/Machine/Geometry.lean ====
section
/-! DEFINITION. Ground geometry (chapter 4): projection of ground points into a camera's picture, mapping into a pane, and the
drawing decisions that rest on projection. Every division below is by a positive number, where Lean's `/` on `Int` is the floor
of 0.6. -/

namespace Sys2Proof.Machine

/-- A pixel of a camera picture or of an output frame, written (row, column). -/
structure Px where
  row : Int
  col : Int
  deriving DecidableEq, Repr

/-! ## Projection (4.3) -/

/-- R65: depth and across of a ground point (a is x, b is y). -/
def Calibration.depthAcross (k : Calibration) (p : Pt) : Int × Int :=
  if k.depthAlong then (k.depthSign * (p.a - k.x0), k.acrossSign * (p.b - k.y0))
  else (k.depthSign * (p.b - k.y0), k.acrossSign * (p.a - k.x0))

/-- Rung i of a ladder. -/
def Calibration.rung (k : Calibration) (i : Nat) : Rung := k.rungs.getD i ⟨0, 0, 0, 0⟩

/-- R67: floor((n + 128) / 256). -/
def round256 (n : Int) : Int := (n + 128) / 256

/-- R66: the rung and fraction of a depth; none where it lies outside the ladder. -/
def Calibration.locate (k : Calibration) (d : Int) : Option (Nat × Int) :=
  if d < (k.rung 0).depth ∨ (k.rung 8).depth < d then none
  else
    match [7, 6, 5, 4, 3, 2, 1, 0].find? fun i => (k.rung i).depth ≤ d with
    | some i => some (i, (d - (k.rung i).depth) * 256 / ((k.rung (i + 1)).depth - (k.rung i).depth))
    | none => none

/-- R67: one of a rung's values interpolated. -/
def Calibration.lerp (k : Calibration) (value : Rung → Int) (at_ : Nat × Int) : Int :=
  value (k.rung at_.1) + round256 ((value (k.rung (at_.1 + 1)) - value (k.rung at_.1)) * at_.2)

/-- R68: the column of an across distance at a place of the ladder. -/
def Calibration.column (k : Calibration) (at_ : Nat × Int) (across : Int) : Int :=
  k.lerp Rung.centre at_ + (across * k.lerp Rung.scale at_ + 50) / 100

/-- R65 to R68: the camera pixel of a ground point; none where it is not visible. -/
def Calibration.project (k : Calibration) (p : Pt) : Option Px :=
  match k.locate (k.depthAcross p).1 with
  | none => none
  | some at_ =>
    let col := k.column at_ (k.depthAcross p).2
    if 0 ≤ col ∧ col ≤ 799 then some ⟨k.lerp Rung.row at_, col⟩ else none

/-- R61: an UNCALIBRATED camera has no projection. -/
def Calibration.see (k : Calibration) (p : Pt) : Option Px := if k.calibrated then k.project p else none

/-- R73: the line of a DISTANCE_MARK in a camera's picture, from the lesser clamped column to the greater; none where the mark is
not drawn. -/
def Calibration.mark (k : Calibration) (depth a1 a2 : Int) : Option (Px × Px) :=
  if !k.calibrated then none
  else
    match k.locate depth with
    | none => none
    | some at_ =>
      let c1 := k.column at_ a1
      let c2 := k.column at_ a2
      if (c1 < 0 ∧ c2 < 0) ∨ (799 < c1 ∧ 799 < c2) then none
      else
        let e1 := max 0 (min 799 c1)
        let e2 := max 0 (min 799 c2)
        some (⟨k.lerp Rung.row at_, min e1 e2⟩, ⟨k.lerp Rung.row at_, max e1 e2⟩)

/-! ## Panes (4.4) -/

/-- R69: the output pixel a camera pixel maps to. -/
def Pane.map (p : Pane) (q : Px) : Px :=
  if p.half then ⟨p.py + (q.row - p.cy) / 2, p.px + (q.col - p.cx) / 2⟩
  else ⟨p.py + (q.row - p.cy), p.px + (q.col - p.cx)⟩

/-- R69: an output pixel is inside the pane. -/
def Pane.holds (p : Pane) (q : Px) : Bool := p.py ≤ q.row && q.row < p.py + p.h && p.px ≤ q.col && q.col < p.px + p.w

/-! ## Drawing decisions (4.5) -/

/-- R71, R74: the corners of a ground rectangle in their order. -/
def groundCorners (p1 p2 : Pt) : List Pt := [p1, ⟨p2.a, p1.b⟩, p2, ⟨p1.a, p2.b⟩]

/-- The edges of a closed figure, in the order of its corners; an edge whose corners are not both visible is left out (R70,
R71, R74). -/
def edges (corners : List (Option Px)) : List (Px × Px) :=
  (corners.zip (corners.rotateLeft 1)).filterMap fun e =>
    match e with
    | (some a, some b) => some (a, b)
    | _ => none

/-- R70: a GROUND segment; none where either point is not visible. -/
def Calibration.segment (k : Calibration) (p1 p2 : Pt) : Option (Px × Px) :=
  match k.see p1, k.see p2 with
  | some a, some b => some (a, b)
  | _, _ => none

/-- R71, R74: the edges of a ground rectangle in a camera's picture. -/
def Calibration.outline (k : Calibration) (p1 p2 : Pt) : List (Px × Px) := edges ((groundCorners p1 p2).map k.see)

end Sys2Proof.Machine
end

