-- ==== Sys2Proof/Machine/Compose.lean ====
section
/-! DEFINITION. Composition (chapter 9): what each pixel of the two outputs carries in the frame being drawn, worked out from the
frame's snapshot and the held slots (log 28); the packing into samples and the frame tag. -/

namespace Sys2Proof.Machine

/-! ## Blending (R164) and figures -/

/-- R164: one component blended. -/
def blend (alpha o b : Nat) : Nat := (alpha * o + (16 - alpha) * b + 8) / 16

/-- R164: a colour blended over the running value. -/
def Colour.over (o : Colour) (alpha : Nat) (b : Colour) : Colour :=
  ⟨blend alpha o.y b.y, blend alpha o.cb b.cb, blend alpha o.cr b.cr⟩

/-- A figure in output pixels. A pixel it covers more than once is blended once (R161). -/
structure Figure where
  covers : Px → Bool
  colour : Colour
  alpha : Nat

/-- A figure drawn over a running value. -/
def Figure.draw (q : Px) (b : Colour) (f : Figure) : Colour := if f.covers q then f.colour.over f.alpha b else b

/-- Figures drawn one over the other, each cut to the pane by the caller. -/
def drawAll (figures : List Figure) (q : Px) (b : Colour) : Colour := figures.foldl (Figure.draw q) b

/-- Black background (R157). -/
def black : Colour := ⟨16, 128, 128⟩

/-- No-signal grey (0.6). -/
def grey : Colour := ⟨128, 128, 128⟩

/-- The white of badge, camera text and STARTING text (R163, R170). -/
def white : Colour := ⟨235, 128, 128⟩

/-- A figure in a palette entry (R166). -/
def Body.inEntry (b : Body) (entry : Nat) (covers : Px → Bool) : Figure :=
  ⟨covers, b.paletteColour entry, b.paletteAlpha entry⟩

/-! ## Lines, boxes and text (R161) -/

/-- The offsets at which a line of thickness t is widened. -/
def inWidth (t : Nat) (d : Int) : Bool := -(((t - 1) / 2 : Nat) : Int) ≤ d && d ≤ ((t - 1 - (t - 1) / 2 : Nat) : Int)

/-- The line along its major axis, from major k1 and minor m1 to k2 and m2 with k1 < k2. -/
def onAxis (t : Nat) (k1 m1 k2 m2 k m : Int) : Bool :=
  k1 ≤ k && k ≤ k2 && inWidth t (m - (m1 + (2 * (k - k1) * (m2 - m1) + (k2 - k1)) / (2 * (k2 - k1))))

/-- R161: a line of thickness t between two mapped points. -/
def lineCovers (t : Nat) (a b q : Px) : Bool :=
  if a = b then inWidth t (q.row - a.row) && inWidth t (q.col - a.col)
  else if (b.row - a.row).natAbs ≤ (b.col - a.col).natAbs then
    if a.col < b.col then onAxis t a.col a.row b.col b.row q.col q.row
    else onAxis t b.col b.row a.col a.row q.col q.row
  else if a.row < b.row then onAxis t a.row a.col b.row b.col q.row q.col
  else onAxis t b.row b.col a.row a.col q.row q.col

/-- Lines of one figure. -/
def linesCover (t : Nat) (lines : List (Px × Px)) (q : Px) : Bool := lines.any fun l => lineCovers t l.1 l.2 q

/-- A rectangle of output pixels, both corners included. -/
def rectCovers (a b q : Px) : Bool :=
  min a.row b.row ≤ q.row && q.row ≤ max a.row b.row && min a.col b.col ≤ q.col && q.col ≤ max a.col b.col

/-- The four edges of a SCREEN box between two mapped corners. -/
def boxEdges (a b : Px) : List (Px × Px) :=
  [(a, ⟨a.row, b.col⟩), (⟨a.row, b.col⟩, b), (b, ⟨b.row, a.col⟩), (⟨b.row, a.col⟩, a)]

/-- The columns from lo to hi, both included. -/
def columns (lo hi : Int) : List Int := (List.range (hi - lo + 1).toNat).map fun i => lo + i

/-- R161: the filled figure bounded by edges: on an edge drawn at thickness 1, or between two such pixels of the same row. -/
def fillCovers (lines : List (Px × Px)) (q : Px) : Bool :=
  let cols := lines.flatMap fun l => [l.1.col, l.2.col]
  let lo := cols.foldl min q.col
  let hi := cols.foldl max q.col
  ((columns lo q.col).any fun c => linesCover 1 lines ⟨q.row, c⟩) && (columns q.col hi).any fun c => linesCover 1 lines ⟨q.row, c⟩

/-- Whether a pixel of a glyph's cell is foreground; glyph 0 is the blank (R83), the others are free values (log 17). -/
def glyphBit (glyph row col : Nat) : Bool := glyph != 0 && Config.glyphPixel glyph row col

/-- R161: text from a top-left corner, at a scale, place i in the cell 8 × scale × i columns to the right. -/
def textCovers (glyphs : List Nat) (scale : Nat) (at_ q : Px) : Bool :=
  let x := q.col - at_.col
  let y := q.row - at_.row
  if 0 ≤ x ∧ 0 ≤ y ∧ y < 12 * scale ∧ x < 8 * scale * glyphs.length then
    glyphBit (glyphs.getD (x.toNat / (8 * scale)) 0) (y.toNat / scale) (x.toNat / scale % 8)
  else false

/-- The glyphs of characters the KS-4 writes itself; a space is glyph 0 (log 17). -/
def glyphsOf (text : String) : List Nat := text.toList.map fun c => if c = ' ' then 0 else Config.glyphOf c

/-! ## The frame -/

/-- The two outputs. -/
inductive Output where
  | monitor | recorder
  deriving DecidableEq, Repr

/-- The bit of an output in an output set (Table 12-3). -/
def Output.bit : Output → Nat
  | .monitor => 0
  | .recorder => 1

/-- The slot the snapshot gives an output for a camera. -/
def CameraShot.slotOf (k : CameraShot) : Output → Option SlotIx
  | .monitor => k.monitorSlot
  | .recorder => k.recorderSlot

/-- Table 9-1. -/
def recorderPanes : List Pane :=
  [⟨0, true, 0, 0, 0, 0, 400, 240⟩, ⟨1, true, 0, 0, 400, 0, 400, 240⟩, ⟨2, true, 0, 0, 0, 240, 400, 240⟩,
    ⟨3, true, 0, 0, 400, 240, 400, 240⟩]

/-- R157: the panes of an output. -/
def Snapshot.panesOf (k : Snapshot) : Output → List Pane
  | .monitor => k.settings.panes k.shownView
  | .recorder => recorderPanes

/-- R156: whether a blink is on in a frame. -/
def Blink.on (b : Blink) (number : BitVec 32) : Bool :=
  match b with
  | .none => true
  | .slow => number.toNat % 32 < 16
  | .fast => number.toNat % 8 < 4

/-! ## The picture (R158) -/

/-- The Y, Cb and Cr of a camera pixel: its own Y, its pair's Cb and Cr; pairs are stored Cb, Y, Cr, Y (Table 12-1). -/
def cameraPixel (pixels : Memory) (row col : Nat) : Colour :=
  let a := 1600 * row + 4 * (col / 2)
  let get := fun i => (Memory.read Config.blankPixel pixels i).toNat
  ⟨get (a + 1 + 2 * (col % 2)), get a, get (a + 2)⟩

/-- The average of four values (R158). -/
def mean4 (a b c d : Nat) : Nat := (a + b + c + d + 2) / 4

/-- R158: the average of four camera pixels. -/
def Colour.mean (a b c d : Colour) : Colour := ⟨mean4 a.y b.y c.y d.y, mean4 a.cb b.cb c.cb d.cb, mean4 a.cr b.cr c.cr d.cr⟩

/-- R158: the picture at an output pixel of a pane. -/
def Pane.picture (p : Pane) (pixels : Memory) (q : Px) : Colour :=
  let i := q.row - p.py
  let j := q.col - p.px
  if p.half then
    let r := (p.cy + 2 * i).toNat
    let c := (p.cx + 2 * j).toNat
    Colour.mean (cameraPixel pixels r c) (cameraPixel pixels r (c + 1)) (cameraPixel pixels (r + 1) c)
      (cameraPixel pixels (r + 1) (c + 1))
  else cameraPixel pixels (p.cy + i).toNat (p.cx + j).toNat

/-! ## Zone outlines (R159) -/

/-- R159: the palette entry of a zone's outline; none for IDLE. -/
def ZoneSettings.outlineEntry (cfg : ZoneSettings) (r : ZoneRec) : Option Nat :=
  match r.state, r.held with
  | .idle, _ => none
  | .clear, _ => some cfg.colourClear
  | .caution, _ => some cfg.colourCaution
  | .warning, _ => some cfg.colourWarning
  | .hold, .caution => some cfg.colourCaution
  | .hold, .warning => some cfg.colourWarning

/-- Edges of a camera's picture mapped into a pane (R69). -/
def Pane.mapLines (p : Pane) (lines : List (Px × Px)) : List (Px × Px) := lines.map fun l => (p.map l.1, p.map l.2)

/-- R159: the outline of one zone in a pane: its visible edges as one figure, so that a pixel of two edges is blended once (log
37). -/
def Snapshot.zoneFigure (k : Snapshot) (p : Pane) (z : Zone) : Option Figure :=
  let cfg := k.settings.zone z
  match cfg.enabled, cfg.outlineEntry k.zones[z] with
  | true, some entry =>
    let lines := (k.settings.calibration p.camera).outline ⟨cfg.xMin, cfg.yMin⟩ ⟨cfg.xMax, cfg.yMax⟩
    some (k.settings.inEntry entry (linesCover (if p.half then 1 else 2) (p.mapLines lines)))
  | _, _ => none

/-! ## Objects (R160, R161) -/

/-- A SCREEN point as a camera pixel. -/
def Pt.px (p : Pt) : Px := ⟨p.b, p.a⟩

/-- R160: the thickness used in a pane. -/
def Pane.thickness (p : Pane) (t : Nat) : Nat := if p.half then (t + 1) / 2 else t

/-- R71: a GROUND box: filled when it is to be filled and all four corners are visible, else its visible edges. -/
def groundBox (k : Calibration) (p : Pane) (p1 p2 : Pt) (filled : Bool) (t : Nat) : Px → Bool :=
  let lines := p.mapLines (k.outline p1 p2)
  if filled && lines.length == 4 then fillCovers lines else linesCover t lines

/-- A SCREEN box (R161). -/
def screenBox (p : Pane) (p1 p2 : Pt) (filled : Bool) (t : Nat) : Px → Bool :=
  let a := p.map p1.px
  let b := p.map p2.px
  if filled then rectCovers a b else linesCover t (boxEdges a b)

/-- The text a record holds (R83). -/
def TextBody.text (t : TextBody) : List Nat := t.glyphs.toList.take t.length

/-- Where an object of a shape and anchor is drawn in a pane (R70 to R73, R160, R161). -/
def Shape.covers (s : Shape) (anchor : Anchor) (k : Calibration) (p : Pane) : Px → Bool :=
  match s, anchor with
  | .segment p1 p2 t, .screen => lineCovers (p.thickness t) (p.map p1.px) (p.map p2.px)
  | .segment p1 p2 t, .ground =>
    match k.segment p1 p2 with
    | some l => lineCovers (p.thickness t) (p.map l.1) (p.map l.2)
    | none => fun _ => false
  | .box p1 p2 filled t, .screen => screenBox p p1 p2 filled (p.thickness t)
  | .box p1 p2 filled t, .ground => groundBox k p p1 p2 filled (p.thickness t)
  | .text origin scale body, .screen => textCovers body.text scale (p.map origin.px)
  | .text origin scale body, .ground =>
    match k.see origin with
    | some q => textCovers body.text scale (p.map q)
    | none => fun _ => false
  | .distanceMark d a1 a2 t, _ =>
    match k.mark d a1 a2 with
    | some l => lineCovers (p.thickness t) (p.map l.1) (p.map l.2)
    | none => fun _ => false

/-- R82: the tests of an object that need no projection. -/
def ObjRecord.shownIn (o : ObjRecord) (out : Output) (camera : Camera) (c : Conditions) (number : BitVec 32) : Bool :=
  (o.showConds == 0 || c.some o.showConds) && o.outputs.getLsbD out.bit && o.cameras.getLsbD camera.val && o.blink.on number

/-- The objects of a layer, in ascending order of slot (R160). -/
def Snapshot.ofLayer (k : Snapshot) (layer : Nat) : List ObjRecord :=
  (k.objects.toList.filterMap id).filter fun o => o.layer == layer

/-- R160: the figures of the objects of layers, in ascending order of layer. -/
def Snapshot.objectFigures (k : Snapshot) (out : Output) (p : Pane) (number : BitVec 32) (layers : List Nat) : List Figure :=
  ((layers.flatMap k.ofLayer).filter fun o => o.shownIn out p.camera k.conds number).map fun o =>
    k.settings.inEntry o.colour (o.shape.covers o.anchor (k.settings.calibration p.camera) p)

/-! ## Track markers (R75, R162) -/

/-- The letter of a class (R162). -/
def TrackClass.letter : TrackClass → String
  | .pedestrian => "P"
  | .cyclist => "C"
  | .vehicle => "V"
  | .unknown => "U"

/-- R75, R162: a marker on its anchor: the outline of its rectangle, and the class letter above it. -/
def markerCovers (half : Bool) (cls : TrackClass) (anchor q : Px) : Bool :=
  let w : Int := if half then 12 else 24
  let h : Int := if half then 16 else 32
  let t : Int := if half then 1 else 2
  let top := anchor.row - (h - 1)
  let left := anchor.col - w / 2
  let inside := top ≤ q.row && q.row ≤ anchor.row && left ≤ q.col && q.col < left + w
  let inner := top + t ≤ q.row && q.row ≤ anchor.row - t && left + t ≤ q.col && q.col < left + w - t
  (inside && !inner) || textCovers (glyphsOf cls.letter) 1 ⟨top - 13, anchor.col - 4⟩ q

/-- R162: the markers of a pane, in ascending order of place. -/
def Snapshot.markerFigures (k : Snapshot) (p : Pane) : List Figure :=
  (k.tracks.toList.filterMap id).filterMap fun t =>
    if t.confidence < k.settings.countFloor then none
    else
      ((k.settings.calibration p.camera).see ⟨t.x, t.y⟩).map fun q =>
        k.settings.inEntry (k.settings.markerColour t.cls.index) (markerCovers p.half t.cls (p.map q))

/-! ## Border, badge, camera text (R163) -/

/-- Table 9-3. -/
def borderColour (c : CameraShot) : Colour :=
  if c.freshness = .lost then ⟨82, 90, 240⟩
  else if c.freshness = .stale ∨ c.degraded = true then ⟨170, 40, 170⟩
  else ⟨160, 128, 128⟩

/-- The outermost 2 rows and 2 columns of a pane. -/
def Pane.border (p : Pane) (q : Px) : Bool :=
  p.holds q && !(p.py + 2 ≤ q.row && q.row < p.py + p.h - 2 && p.px + 2 ≤ q.col && q.col < p.px + p.w - 2)

/-- R163: the figures of the sixth step. -/
def Pane.sixth (p : Pane) (c : CameraShot) : List Figure :=
  ⟨p.border, borderColour c, 16⟩ ::
    match c.freshness with
    | .fresh => []
    | .stale =>
      [⟨rectCovers ⟨p.py + 4, p.px + 4⟩ ⟨p.py + 19, p.px + 39⟩, black, 16⟩,
       ⟨textCovers (glyphsOf "HELD") 1 ⟨p.py + 6, p.px + 6⟩, white, 16⟩]
    | .lost =>
      [⟨textCovers (glyphsOf ("NO CAMERA " ++ toString p.camera.val)) 1 ⟨p.py + (p.h - 12) / 2, p.px + (p.w - 88) / 2⟩,
        white, 16⟩]

/-! ## A pane (9.4) -/

/-- The first step: the held slot's picture, or grey where there is none (R158). -/
def State.firstStep (s : State) (k : Snapshot) (out : Output) (p : Pane) (q : Px) : Colour :=
  let c := k.cameras[p.camera]
  match c.freshness, c.slotOf out with
  | .lost, _ => grey
  | _, none => grey
  | _, some i => p.picture ((s.pict p.camera).slot i).pixels q

/-- The figures of steps 2 to 6, in order (9.4). -/
def Snapshot.figures (k : Snapshot) (out : Output) (number : BitVec 32) (p : Pane) : List Figure :=
  (List.finRange 8).filterMap (k.zoneFigure p) ++ k.objectFigures out p number [0, 1, 2, 3, 4, 5] ++ k.markerFigures p ++
    k.objectFigures out p number [6, 7] ++ p.sixth k.cameras[p.camera]

/-- A pixel of a pane. -/
def State.panePixel (s : State) (k : Snapshot) (out : Output) (number : BitVec 32) (p : Pane) (q : Px) : Colour :=
  drawAll (k.figures out number p) q (s.firstStep k out p q)

/-! ## Status strip (9.7) -/

/-- R168: a link's set holds a position. -/
def litBy (set : Vector (BitVec 32) 3) (i : Fin 3) (p : Nat) : Bool := set[i].getLsbD p

/-- R168: a link icon is lit, and blinks. -/
def Snapshot.linkIcon (k : Snapshot) (p : Nat) : Bool × Bool :=
  ((List.finRange 3).any fun i => litBy k.lit i p, (List.finRange 3).any fun i => litBy k.lit i p && litBy k.blink i p)

/-- A member named, or any of n (255). -/
def ofTarget {n : Nat} (target : Nat) (test : Fin n → Bool) : Bool :=
  if target = 255 then (List.finRange n).any test else (List.finRange n).any fun i => i.val == target && test i

/-- R167, R168, Table 9-6: whether the icon of an assignment is lit and on in a frame. -/
def Snapshot.iconOn (k : Snapshot) (p : Nat) (a : StripAssignment) (number : BitVec 32) : Bool :=
  match a.kind with
  | 1 => (k.linkIcon p).1 && (!(k.linkIcon p).2 || Blink.slow.on number)
  | 2 => ofTarget a.target fun z : Zone => (k.zones[z]).face.occupied
  | 3 => ofTarget a.target fun z : Zone => (k.zones[z]).face.warns
  | 4 => ofTarget a.target fun c : Camera => (k.cameras[c]).freshness != .fresh
  | 5 => k.supply == .crank
  | 6 => k.settingsState != .valid
  | _ => false

/-- R167: a pixel of the strip. -/
def Snapshot.stripPixel (k : Snapshot) (number : BitVec 32) (q : Px) : Colour :=
  let p := (q.col / 40).toNat
  let a := k.settings.strip p
  let x := (q.col - 40 * p - 4).toNat
  if a.kind ≠ 0 ∧ 40 * (p : Int) + 4 ≤ q.col ∧ q.col < 40 * (p : Int) + 36 ∧ Config.iconPixel a.icon q.row.toNat x = true then
    (k.settings.paletteColour a.entry).over (if k.iconOn p a number then 16 else 4) black
  else black

/-! ## Output frames -/

/-- R157, R167: a pixel of a RUNNING frame. -/
def State.runningPixel (s : State) (k : Snapshot) (out : Output) (number : BitVec 32) (q : Px) : Colour :=
  if out = .monitor ∧ q.row < 32 then k.stripPixel number q
  else
    match (k.panesOf out).find? fun p => p.holds q with
    | some p => s.panePixel k out number p q
    | none => black

/-- R170: a pixel of a STARTING frame. -/
def startingPixel (out : Output) (q : Px) : Colour :=
  Figure.draw q black ⟨textCovers (glyphsOf "STARTING") 2 ⟨228, match out with | .monitor => 576 | .recorder => 336⟩, white, 16⟩

/-- The row from which an output is drawn black after a warm reset within the frame (R171). -/
def Frame.blackRow (f : Frame) (out : Output) : Option Nat :=
  f.blackFrom.map fun b => match out with
    | .monitor => b.1
    | .recorder => b.2

/-- The colour of an output pixel in the frame being drawn; none while no frame is (R157, R170, R171). -/
def State.outputPixel (s : State) (out : Output) (q : Px) : Option Colour :=
  s.frame.map fun f =>
    if (f.blackRow out).any fun n : Nat => decide ((n : Int) ≤ q.row) then black
    else
      match f.body with
      | .starting _ => startingPixel out q
      | .running k => s.runningPixel k out f.number q

/-- R165: a column pair packed: Y of the even column, Y of the odd column, Cb, Cr. -/
def packPair (even odd : Colour) : Nat × Nat × Nat × Nat := (even.y, odd.y, (even.cb + odd.cb + 1) / 2, (even.cr + odd.cr + 1) / 2)

/-- R165: the samples of column pair j of a row of an output. -/
def State.outputPair (s : State) (out : Output) (row j : Nat) : Option (Nat × Nat × Nat × Nat) :=
  match s.outputPixel out ⟨row, 2 * j⟩, s.outputPixel out ⟨row, 2 * j + 1⟩ with
  | some a, some b => some (packPair a b)
  | _, _ => none

/-! ## The frame tag (R169, R202) -/

/-- The two bytes of a camera: freshness in bits 1–0, lock state in bits 3–2, then age; bits 7–4 are 0 (log 42, DESIGN CHOICE). -/
def CameraShot.tag (k : CameraShot) : List Byte := [byte (k.freshness.code + 4 * k.lock.code), byte k.age]

/-- The three bytes of a zone: state in bits 2–0 and acknowledged in bit 7, then dwell; bits 6–3 are 0 (log 42, DESIGN
CHOICE). -/
def ZoneRec.tag (r : ZoneRec) : List Byte := byte (r.state.code + if r.acked then 128 else 0) :: be16 r.dwell

/-- The fields of a tag after phase, frame number and milliseconds. -/
def FrameBody.tag : FrameBody → List Byte
  | .running k =>
    k.cameras.toList.flatMap CameraShot.tag ++ k.zones.toList.flatMap ZoneRec.tag ++
      [byte k.chime.code, byte k.shownView, byte k.supply.code, byte k.settingsState.code]
  | .starting supply =>
    (List.replicate 4 [byte Freshness.lost.code, 255]).flatten ++ List.replicate 24 0 ++
      [0, 0, byte supply.code, byte SettingsState.defaulted.code]

/-- The phase byte: STARTING 0, RUNNING 1. -/
def FrameBody.phaseByte : FrameBody → Byte
  | .starting _ => 0
  | .running _ => 1

/-- Table 12-4: the 47 bytes of a frame's tag. -/
def Frame.tag (f : Frame) : List Byte :=
  let front := f.body.phaseByte :: be32 f.number ++ be32 f.millis ++ f.body.tag
  front ++ crc16Bytes front

/-- R202: the Y samples of the RECORDER's first blanking line. -/
def Frame.tagLine (f : Frame) : List Byte := f.tag ++ List.replicate (800 - f.tag.length) 16

/-- R165, R202: the samples of column pair j of the RECORDER's first blanking line, packed as `packPair` does: two Y samples of
the tag line, and 128 for Cb and Cr. -/
def Frame.tagLinePair (f : Frame) (j : Nat) : Nat × Nat × Nat × Nat :=
  (u8At f.tagLine (2 * j), u8At f.tagLine (2 * j + 1), 128, 128)

end Sys2Proof.Machine
end

