-- ==== Sys2Proof/Machine/Frames.lean ====
section
/-! DEFINITION. Output frames (R154, R155): the frame start with its judgements, hold moves and snapshot; the frame end. -/

namespace Sys2Proof.Machine

/-- R35: whether MONITOR uses a camera: a pane of the shown view names it. -/
def State.monitorUses (s : State) (c : Camera) : Bool := (s.body.panes s.arbiter.shownView).any fun p => p.camera == c

/-- R34, R36, R40: what a frame start does to one camera. -/
def State.openCamera (s : State) (c : Camera) : State :=
  State.noteCamera c s (s.setPict c ((s.pict c).frameStart (s.monitorUses c)))

/-- R34, R36 for the four cameras, whose CAMERA notices enter in ascending order (log 34). -/
def State.openCameras (s : State) : State := (List.finRange 4).foldl State.openCamera s

/-- R39, R155: what the snapshot holds of a camera. -/
def State.shotOf (s : State) (c : Camera) : CameraShot :=
  { monitorSlot := (s.pict c).heldBy .monitor, recorderSlot := (s.pict c).heldBy .recorder
    freshness := (s.pict c).freshness, age := (s.pict c).shownAge, lock := (s.recv c).lock, degraded := (s.recv c).degraded }

/-- R155 -/
def State.snapshot (s : State) : Snapshot :=
  { cameras := Vector.ofFn s.shotOf
    objects := s.table.slots, lit := s.table.lit, blink := s.table.blink, tracks := s.tracks.places, zones := s.zones
    conds := s.vehicle.conds, shownView := s.arbiter.shownView, chime := s.alert.level, supply := s.supply.state
    settingsState := s.settings.state, settings := s.body }

/-- A frame that starts now (R154, R169). -/
def State.newFrame (s : State) (body : FrameBody) : Frame :=
  { number := s.generator.counter, millis := s.generator.millis, body := body, blackFrom := none }

/-- R155: a RUNNING frame starts: freshness judged, holds moved, the snapshot taken, the frame marks set (R93). -/
def State.startFrame (s : State) : State :=
  let s1 := s.openCameras
  { s1 with frame := some (s1.newFrame (.running s1.snapshot)), table := s1.table.markAll }

/-- R170: a STARTING frame starts. -/
def State.startStarting (s : State) : State := { s with frame := some (s.newFrame (.starting s.supply.state)) }

/-- OUTPUT_FRAME_START (R155). -/
def execOutputFrameStart (s : State) : Host.Outcome State Fault Refusal :=
  match s.phase with
  | .running => whileRunning s State.startFrame
  | .loading => .next s.startStarting
  | .stopped => .next s

/-- R154: the frame has ended and the counter rises by one, wrapping. -/
def State.closeFrame (s : State) : State :=
  { s with frame := none, generator := { s.generator with counter := s.generator.counter + 1 } }

/-- OUTPUT_FRAME_END (R94, R154). -/
def execOutputFrameEnd (s : State) : Host.Outcome State Fault Refusal :=
  match s.phase with
  | .running => whileRunning s fun s => s.countDownTable.closeFrame
  | .loading => .next s.closeFrame
  | .stopped => .next s

end Sys2Proof.Machine
end

