-- ==== Sys2Proof/Machine/Validate.lean ====
section
/-! DEFINITION. The one test of a body of settings (R188): for each section its items in the order of their places, each with
whether it keeps its rules; a rule that relates two items is a rule of the later one (R204). -/

namespace Sys2Proof.Machine

/-- An item: its offset in the section (R204) and whether it keeps the rules. -/
abbrev Check := Nat × Bool

/-- Whether a number lies in a range, both ends included. -/
def within (lo x hi : Int) : Bool := lo ≤ x && x ≤ hi

/-- Whether a number lies in a range, both ends included. -/
def inRange (lo x hi : Nat) : Bool := lo ≤ x && x ≤ hi

/-- An entry of a sector map names 0 to 5 or none (R79). -/
def entryOk (e : Nat) : Bool := e < 6 || e == 255

/-- R186: one port's three identifiers, each in range and different. -/
def canIdChecks (b : Body) (o : Nat) : List Check :=
  let i0 := b.s16 1 o
  let i1 := b.s16 1 (o + 2)
  let i2 := b.s16 1 (o + 4)
  [(o, within 0 i0 0x7FF), (o + 2, within 0 i1 0x7FF && i1 != i0), (o + 4, within 0 i2 0x7FF && i2 != i0 && i2 != i1)]

/-- R79: one link's sector map. -/
def mapChecks (b : Body) (l : Nat) : List Check :=
  let e0 := b.u8 1 (22 + 2 * l)
  let e1 := b.u8 1 (23 + 2 * l)
  [(22 + 2 * l, entryOk e0), (23 + 2 * l, entryOk e1 && (e1 == 255 || e0 != e1))]

/-- R79, R104, R186: the Links section. -/
def linkChecks (b : Body) : List Check :=
  canIdChecks b 0 ++ canIdChecks b 6 ++ [(12, within 100 (b.s16 1 12) 5000), (14, within 100 (b.s16 1 14) 5000)] ++
    ((List.range 3).map fun i => (16 + i, inRange 1 (b.u8 1 (16 + i)) 30)) ++ (List.range 3).flatMap (mapChecks b)

/-- R43: one camera. -/
def cameraChecks (b : Body) (c : Camera) : List Check :=
  let o := 19 * c.val
  let rTop := b.s16 2 (o + 1)
  let rBot := b.s16 2 (o + 3)
  let floor := b.u8 2 (o + 9)
  let ceiling := b.u8 2 (o + 10)
  let initial := b.u8 2 (o + 11)
  let start := b.u8 2 (o + 13)
  let stop := b.u8 2 (o + 14)
  [(o, b.u8 2 o ≤ 1),
   (o + 1, within 0 rTop 472 && rTop % 8 == 0),
   (o + 3, within 7 rBot 479 && (rBot + 1) % 8 == 0 && rTop ≤ rBot),
   (o + 5, inRange 16 (b.u8 2 (o + 5)) 235),
   (o + 6, b.u8 2 (o + 6) ≤ 64),
   (o + 7, inRange 1 (b.u8 2 (o + 7)) 30),
   (o + 8, inRange 1 (b.u8 2 (o + 8)) 30),
   (o + 9, floor ≤ 63),
   (o + 10, ceiling ≤ 63 && floor ≤ ceiling),
   (o + 11, initial ≤ 63 && inRange floor initial ceiling),
   (o + 12, b.u8 2 (o + 12) ≤ 1),
   (o + 13, inRange 20 start 100),
   (o + 14, inRange 5 stop 100 && stop ≤ start),
   (o + 16, within (-40) (b.s16 2 (o + 16)) 3),
   (o + 18, inRange 8 (b.u8 2 (o + 18)) 85)]

/-- R62: one rung; its depth is above the one before. -/
def rungChecks (b : Body) (o k : Nat) : List Check :=
  let p := o + 8 + 8 * k
  [(p, within 0 (b.s16 3 p) 2000 && (k == 0 || b.s16 3 (p - 8) < b.s16 3 p)),
   (p + 2, within 0 (b.s16 3 (p + 2)) 479),
   (p + 4, within 0 (b.s16 3 (p + 4)) 799),
   (p + 6, within 0 (b.s16 3 (p + 6)) 1000)]

/-- R62: one camera's calibration; with Calibrated no it is not examined further. -/
def calibrationChecks (b : Body) (c : Camera) : List Check :=
  let o := 80 * c.val
  (o, decide (b.u8 3 o ≤ 1)) ::
    if b.u8 3 o = 1 then
      [(o + 1, decide (b.u8 3 (o + 1) ≤ 1)),
       (o + 2, within (-300) (b.s16 3 (o + 2)) 2000),
       (o + 4, within (-100) (b.s16 3 (o + 4)) 1000),
       (o + 6, decide (b.u8 3 (o + 6) ≤ 1)),
       (o + 7, decide (b.u8 3 (o + 7) ≤ 1))] ++ (List.range 9).flatMap (rungChecks b o)
    else []

/-- R117: one zone record; the names a set field gives that do not exist are disregarded. -/
def zoneChecks (b : Body) (z : Zone) : List Check :=
  let o := 25 * z.val
  let xMin := b.s16 4 (o + 1)
  let xMax := b.s16 4 (o + 3)
  let yMin := b.s16 4 (o + 5)
  let yMax := b.s16 4 (o + 7)
  let view := b.u8 4 (o + 21)
  [(o, b.u8 4 o ≤ 1),
   (o + 1, within (-300) xMin 2000),
   (o + 3, within (-300) xMax 2000 && xMin ≤ xMax),
   (o + 5, within (-100) yMin 1000),
   (o + 7, within (-100) yMax 1000 && yMin ≤ yMax),
   (o + 16, within 0 (b.s16 4 (o + 16)) 999),
   (o + 18, b.u8 4 (o + 18) ≤ 50),
   (o + 20, b.u8 4 (o + 20) ≤ 1),
   (o + 21, view ≤ 7 || view == 255),
   (o + 22, b.u8 4 (o + 22) ≤ 15),
   (o + 23, b.u8 4 (o + 23) ≤ 15),
   (o + 24, b.u8 4 (o + 24) ≤ 15)]

/-- Whether two panes share an output pixel (R139); a pane without width or height has none to share. -/
def panesOverlap (a c : Pane) : Bool :=
  max a.px c.px < min (a.px + a.w) (c.px + c.w) && max a.py c.py < min (a.py + a.h) (c.py + c.h)

/-- R139: pane k of view v. An overlap is a failure of the later pane, named at its first byte (log 23). -/
def paneChecks (b : Body) (v k : Nat) : List Check :=
  let o := 44 * v + 2 + 14 * k
  let p := b.pane v k
  let cols := if p.half then p.cx + 2 * p.w else p.cx + p.w
  let rows := if p.half then p.cy + 2 * p.h else p.cy + p.h
  [(o, b.u8 5 o ≤ 3 && ((List.range k).all fun j => !panesOverlap (b.pane v j) p)),
   (o + 1, b.u8 5 (o + 1) ≤ 1),
   (o + 2, within 0 p.cx 799),
   (o + 4, within 0 p.cy 479),
   (o + 6, within 0 p.px 1279),
   (o + 8, within 32 p.py 479),
   (o + 10, within 1 p.w 1280 && p.px + p.w ≤ 1280 && cols ≤ 800),
   (o + 12, within 1 p.h 448 && p.py + p.h ≤ 480 && rows ≤ 480)]

/-- R139: one view; with Defined no it is not examined further. -/
def viewChecks (b : Body) (v : Nat) : List Check :=
  let o := 44 * v
  (o, decide (b.u8 5 o ≤ 1)) ::
    if b.u8 5 o = 1 then
      (o + 1, inRange 1 (b.u8 5 (o + 1)) 3) :: (List.range (min 3 (b.u8 5 (o + 1)))).flatMap (paneChecks b v)
    else []

/-- Whether a source asks for class LATCHED (R140). -/
def CauseSource.isLatched : CauseSource → Bool
  | .zoneWarning | .linkRequest => true
  | _ => false

/-- R140: one cause; with Enabled no it is not examined further; serve time and pending life only for class LATCHED. -/
def causeChecks (b : Body) (i : Cause) : List Check :=
  let o := 13 * i.val
  let source := b.u8 6 (o + 1)
  let view := b.u8 6 (o + 3)
  let cls := b.u8 6 (o + 5)
  (o, decide (b.u8 6 o ≤ 1)) ::
    if b.u8 6 o = 1 then
      [(o + 1, decide (source ≤ 6)),
       (o + 3, decide (view ≤ 7) && b.viewDefined view),
       (o + 4, decide (b.u8 6 (o + 4) ≤ 15)),
       (o + 5, decide (cls ≤ 1) && (source > 6 || (CauseSource.ofCode source).isLatched == (cls == 1))),
       (o + 6, decide (b.u8 6 (o + 6) ≤ 1)),
       (o + 7, within 0 (b.s16 6 (o + 7)) 1200)] ++
      (if cls = 1 then
        [(o + 9, within 5 (b.s16 6 (o + 9)) 300), (o + 11, within 5 (b.s16 6 (o + 11)) 600)] else [])
    else []

/-- R140: the minimum show time and the default view. -/
def causeTailChecks (b : Body) : List Check :=
  [(156, b.minShowTime ≤ 100), (157, b.defaultView ≤ 7 && b.viewDefined b.defaultView)]

/-- R166, Table 9-6: one strip position. -/
def stripChecks (b : Body) (p : Nat) : List Check :=
  let a := b.strip p
  let o := 64 + 4 * p
  (o, decide (a.kind ≤ 6)) ::
    if a.kind = 0 then []
    else
      [(o + 1, decide (a.icon ≤ 63)), (o + 2, decide (a.entry ≤ 15)),
       (o + 3, if a.kind = 2 ∨ a.kind = 3 then a.target ≤ 7 || a.target == 255
               else if a.kind = 4 then a.target ≤ 3 || a.target == 255 else true)]

/-- R133, R166: the Appearance section. -/
def appearanceChecks (b : Body) : List Check :=
  ((List.range 16).map fun e => (4 * e + 3, decide (b.paletteAlpha e ≤ 16))) ++ (List.range 32).flatMap (stripChecks b) ++
    [(192, inRange 5 b.chimeVolume 50)] ++ (List.range 4).map fun i => (193 + i, decide (b.markerColour i ≤ 15))

/-- R104: the Conditions section. -/
def conditionChecks (b : Body) : List Check :=
  [(0, inRange 1 b.movingThreshold 200), (1, b.offDelay ≤ 50)]

/-- The items of section n in the order of their places (R188). -/
def sectionChecks (b : Body) (n : Nat) : List Check :=
  match n with
  | 1 => linkChecks b
  | 2 => (List.finRange 4).flatMap (cameraChecks b)
  | 3 => (List.finRange 4).flatMap (calibrationChecks b)
  | 4 => (List.finRange 8).flatMap (zoneChecks b) ++ [(200, decide (b.admissionFloor ≤ 100)), (201, decide (b.countFloor ≤ 100))]
  | 5 => (List.range 8).flatMap (viewChecks b)
  | 6 => (List.finRange 12).flatMap (causeChecks b) ++ causeTailChecks b
  | 7 => appearanceChecks b
  | 8 => conditionChecks b
  | _ => []

/-- The first failing item of section n. -/
def sectionFailure (b : Body) (n : Nat) : Option Nat := ((sectionChecks b n).find? fun c => !c.2).map Prod.fst

/-- The first failing section and item of a body, none where the body is valid (R188). -/
def Body.firstFailure (b : Body) : Option (Nat × Nat) :=
  [1, 2, 3, 4, 5, 6, 7, 8].findSome? fun n => (sectionFailure b n).map fun item => (n, item)

/-- R188: a body in which no item breaks a rule is valid. -/
def Body.valid (b : Body) : Bool := b.firstFailure.isNone

end Sys2Proof.Machine
end

