-- ==== Sys2Proof/Machine/SettingsBlock.lean ====
section
/-! DEFINITION. The settings block (11.4, 11.5): service state, the staging copy, the commit and its write. -/

namespace Sys2Proof.Machine

/-! ## Service state (R191) -/

/-- R191: the last reported gear is REVERSE. -/
def Vehicle.lastReverse (v : Vehicle) : Bool := v.raw.any fun k => k.gear == .reverse

/-- R191: service state is entered, the staging copy made equal to the working copy. -/
def State.beginService (s : State) : State :=
  (s.setSettings { s.settings with serviceIn := true, staging := some s.settings.working }).setService true

/-- R191: what a change of the settings block's state does further: the SETTINGS notice (R189), and then the change of SERVICE
handed on (R103), with its ZONE and VIEW notices (log 38). -/
def State.settingsStep (before s : State) : State := State.handOn before (State.noteSettings before s)

/-- R191: a SERVICE_ENTER that is taken. -/
def State.enterService (s : State) : State :=
  if s.settings.serviceIn then State.settingsStep s (s.setSettings { s.settings with exitPending := false })
  else State.settingsStep s s.beginService

/-- R191 -/
def actServiceEnter (l : Link) (_ : Request) (s : State) : State × Answer :=
  if l ≠ .chassis then (s, .refuse .notPermitted)
  else if s.vehicle.speed ≠ 0 ∨ s.vehicle.lastReverse then (s, .refuse .notInService)
  else (s.enterService, .done)

/-- SERVICE_ENTER (R191). -/
def execServiceEnter (l : Link) (s : State) : Host.Outcome State Fault Refusal :=
  whileRunning s (answering .serviceEnter l (actServiceEnter l))

/-- R191 -/
def actServiceExit (l : Link) (_ : Request) (s : State) : State × Answer :=
  if l ≠ .chassis then (s, .refuse .notPermitted)
  else if !s.settings.serviceIn then (s, .refuse .notInService)
  else (State.settingsStep s s.askServiceEnd, .done)

/-- SERVICE_EXIT (R191). -/
def execServiceExit (l : Link) (s : State) : Host.Outcome State Fault Refusal :=
  whileRunning s (answering .serviceExit l (actServiceExit l))

/-! ## Writing and reading (R192) -/

/-- R192, R193: the right and state that a write and a commit ask for; the code of the first refusal. -/
def State.serviceRefusal (s : State) (l : Link) : Option ResultCode :=
  if l ≠ .chassis then some .notPermitted
  else if !s.settings.serviceIn then some .notInService
  else if s.settings.commit.isSome then some .busy
  else none

/-- R192: a section number of 1 to 8, and a count of bytes that lie within the section. -/
def spanOk (n off count : Nat) : Bool := 1 ≤ n && n ≤ 8 && 1 ≤ count && count ≤ 24 && off + count ≤ sectionLength n

/-- R192: bytes of the staging copy replaced. -/
def State.writeStaging (s : State) (n off : Nat) (bytes : List Byte) : State :=
  s.setSettings { s.settings with staging := s.settings.staging.map fun b => b.write n off bytes }

/-- R192 -/
def actSettingsWrite (l : Link) (r : Request) (s : State) : State × Answer :=
  let f := r.fields
  match s.serviceRefusal l with
  | some code => (s, .refuse code)
  | none =>
    if spanOk (u8At f 0) (u16At f 1) (f.length - 3) then (s.writeStaging (u8At f 0) (u16At f 1) (f.drop 3), .done)
    else (s, .refuse .malformed)

/-- SETTINGS_WRITE (R192). -/
def execSettingsWrite (l : Link) (s : State) : Host.Outcome State Fault Refusal :=
  whileRunning s (answering .settingsWrite l (actSettingsWrite l))

/-- R192 -/
def actSettingsRead (r : Request) (s : State) : State × Answer :=
  let f := r.fields
  if spanOk (u8At f 0) (u16At f 1) (u8At f 3) then
    (s, ⟨.done, ((s.body.sec (u8At f 0)).drop (u16At f 1)).take (u8At f 3)⟩)
  else (s, .refuse .malformed)

/-- SETTINGS_READ (R192). -/
def execSettingsRead (l : Link) (s : State) : Host.Outcome State Fault Refusal :=
  whileRunning s (answering .settingsRead l actSettingsRead)

/-! ## Commit (R193) -/

/-- R193: a valid staging copy becomes the working copy and a write starts. -/
def SettingsBlock.putInForce (b : SettingsBlock) (new : Body) : SettingsBlock :=
  { b with working := new, state := .modified, commit := some Config.commitLimit }

/-- R51: every regulator takes a commit from the old settings to the working copy. -/
def State.commitRegulators (s : State) (old : Body) : State :=
  { s with
    regulators := s.regulators.mapFinIdx fun i g h =>
      g.commit (old.camera ⟨i, h⟩) (s.body.camera ⟨i, h⟩) (s.recv ⟨i, h⟩).accepted }

/-- R104: MOVING worked out again; where it becomes true it ends service state (R191). -/
def State.commitVehicle (s : State) : State := State.movingEnds s { s with vehicle := s.vehicle.commit s.body }

/-- R193: the new working copy in every block. The zone monitor recounts and evaluates once, under the new records and the new
MOVING (log 24); the arbiter takes its choice last. -/
def State.applyCommit (s : State) (new : Body) : State :=
  let s1 := s.setSettings (s.settings.putInForce new)
  let s2 := (s1.commitTable.commitRegulators s.body).commitVehicle
  (((State.noteSettings s s2).commitZones).alertCommit).arbiterCommit

/-- R193: a commit that is not refused: tested whole, then put in force. -/
def State.tryCommit (s : State) (staging : Body) : State × Answer :=
  match staging.firstFailure with
  | some (n, item) => (s, ⟨.invalid, byte n :: be16 item⟩)
  | none => (s.applyCommit staging, .done)

/-- R193 -/
def actSettingsCommit (l : Link) (_ : Request) (s : State) : State × Answer :=
  match s.serviceRefusal l, s.settings.staging with
  | some code, _ => (s, .refuse code)
  | none, some staging => s.tryCommit staging
  | none, none => (s, .refuse .notInService)

/-- SETTINGS_COMMIT (R193). -/
def execSettingsCommit (l : Link) (s : State) : Host.Outcome State Fault Refusal :=
  whileRunning s (answering .settingsCommit l (actSettingsCommit l))

/-! ## The write of a commit (R194) -/

/-- R194: the record of a body stands in the settings memory. -/
def SettingsMemory.write (m : SettingsMemory) (b : Body) : SettingsMemory :=
  { cells := Memory.store Config.blankSetting m.cells 0 b.record, spoiled := false }

/-- R194, R197: what the settings memory holds is no valid record any more. -/
def SettingsMemory.spoil (m : SettingsMemory) : SettingsMemory := { m with spoiled := true }

/-- R194: the commit completes. -/
def SettingsBlock.complete (b : SettingsBlock) : SettingsBlock :=
  { b with
    committed := some b.working, state := .valid, lastWrite := .done, commit := none
    memory := b.memory.write b.working }

/-- R194: the commit fails; the settings state stays. -/
def SettingsBlock.fail (b : SettingsBlock) : SettingsBlock :=
  { b with committed := none, lastWrite := .failed, commit := none, memory := b.memory.spoil }

/-- R194: the end of a commit in flight: the block's outcome, then the end of service state where exit pending is yes. -/
def State.endCommit (s : State) (f : SettingsBlock → SettingsBlock) : State :=
  if s.settings.commit = none then s
  else
    let s1 := s.setSettings (f s.settings)
    State.settingsStep s (if s.settings.exitPending then s1.endService else s1)

/-- COMMIT_WRITE_COMPLETE (R194). -/
def execCommitWriteComplete (s : State) : Host.Outcome State Fault Refusal :=
  whileRunning s fun s => s.endCommit SettingsBlock.complete

/-- COMMIT_WRITE_FAILED (R194). -/
def execCommitWriteFailed (s : State) : Host.Outcome State Fault Refusal :=
  whileRunning s fun s => s.endCommit SettingsBlock.fail

/-- COMMIT_LIMIT_EXPIRY (R194). -/
def execCommitLimitExpiry (s : State) : Host.Outcome State Fault Refusal :=
  whileRunning s fun s => s.endCommit SettingsBlock.fail

end Sys2Proof.Machine
end

