-- ==== Sys2Proof/Machine/Supply.lean ====
section
/-! DEFINITION. The supply monitor (R196): the dip and recovery timers, CRANK and NORMAL. It runs during the settings load too. -/

namespace Sys2Proof.Machine

/-- R196, R197: the monitor works in every phase but the stopped one; while the links run, what it raises is put up (log 12). -/
def whilePowered (s : State) (f : State → State) : Host.Outcome State Fault Refusal :=
  match s.phase with
  | .stopped => .next s
  | .loading => .next (f s)
  | .running => .next (f s).settle

/-- A change of the supply monitor. -/
def State.setSupply (s : State) (u : Supply) : State := { s with supply := u }

/-- R196: below 18.0 V, in NORMAL, the dip timer starts (log 31: one that runs already runs on). -/
def Supply.fallBelow18 (u : Supply) : Supply :=
  if u.state = .normal ∧ u.dip = none then { u with dip := some Config.dipPeriod } else u

/-- R196: at 18.0 V or above, in NORMAL, the dip timer stops. -/
def Supply.riseTo18 (u : Supply) : Supply := if u.state = .normal then { u with dip := none } else u

/-- R196: at 20.0 V or above, in CRANK, the recovery timer starts (log 31: one that runs already runs on). -/
def Supply.riseTo20 (u : Supply) : Supply :=
  if u.state = .crank ∧ u.recovery = none then { u with recovery := some Config.recoveryPeriod } else u

/-- R196: below 20.0 V, in CRANK, the recovery timer stops. -/
def Supply.fallBelow20 (u : Supply) : Supply := if u.state = .crank then { u with recovery := none } else u

/-- SUPPLY_FALL_BELOW_18V (R196). -/
def execSupplyFallBelow18V (s : State) : Host.Outcome State Fault Refusal :=
  whilePowered s fun s => s.setSupply s.supply.fallBelow18

/-- SUPPLY_RISE_TO_18V (R196). -/
def execSupplyRiseTo18V (s : State) : Host.Outcome State Fault Refusal :=
  whilePowered s fun s => s.setSupply s.supply.riseTo18

/-- SUPPLY_RISE_TO_20V (R196). -/
def execSupplyRiseTo20V (s : State) : Host.Outcome State Fault Refusal :=
  whilePowered s fun s => s.setSupply s.supply.riseTo20

/-- SUPPLY_FALL_BELOW_20V (R196). -/
def execSupplyFallBelow20V (s : State) : Host.Outcome State Fault Refusal :=
  whilePowered s fun s => s.setSupply s.supply.fallBelow20

/-- R196: the SUPPLY notice, which carries the new state; none is raised before the links have started. -/
def State.noteSupply (s : State) : State := s.raise .supply 0 [byte s.supply.state.code]

/-- R54: every regulator takes the entry to CRANK. -/
def State.crankRegulators (s : State) : State := { s with regulators := s.regulators.map Regulator.enterCrank }

/-- R196: the dip timer expires: CRANK, the recovery timer stopped, the regulators told (R54), the notice raised. -/
def State.dipExpiry (s : State) : State :=
  if s.supply.dip = none then s
  else ((s.setSupply { state := .crank, dip := none, recovery := none }).crankRegulators).noteSupply

/-- DIP_TIMER_EXPIRY (R196). -/
def execDipTimerExpiry (s : State) : Host.Outcome State Fault Refusal := whilePowered s State.dipExpiry

/-- R196: the recovery timer expires: NORMAL; the regulators keep their values (R56); the notice is raised. -/
def State.recoveryExpiry (s : State) : State :=
  if s.supply.recovery = none then s
  else (s.setSupply { s.supply with state := .normal, recovery := none }).noteSupply

/-- RECOVERY_TIMER_EXPIRY (R196). -/
def execRecoveryTimerExpiry (s : State) : Host.Outcome State Fault Refusal := whilePowered s State.recoveryExpiry

end Sys2Proof.Machine
end

