-- ==== Sys2Proof/Machine/Resets.lean ====
section
/-! DEFINITION. Cold reset, the settings load, warm reset and the supply stop (11.3, 11.6, 11.7). -/

namespace Sys2Proof.Machine

/-! ## Stop and cold reset (R190, R197) -/

/-- R194, R197: the settings memory when power is lost: a commit write in flight is cut off and leaves an invalid record. -/
def SettingsBlock.survivingMemory (b : SettingsBlock) : SettingsMemory :=
  if b.commit.isSome then b.memory.spoil else b.memory

/-- Every block's state as a cold reset makes it; what stands outside the KS-4 (the settings memory, the RESET_N line) and the
model's own fields stay (R190, R197). -/
def State.powerLoss (s : State) : State :=
  { State.reset with
    resetLineHigh := s.resetLineHigh, settings := SettingsBlock.atReset s.settings.survivingMemory, free := s.free
    pending := s.pending }

/-- R190, R196: a cold reset; a supply already below 18.0 V starts the dip timer (log 26). -/
def State.coldStart (s : State) (below18V : Bool) : State :=
  { s.powerLoss with supply := { state := .normal, dip := if below18V then some Config.dipPeriod else none, recovery := none } }

/-- COLD_RESET (R190). -/
def execColdReset (below18V : Bool) (s : State) : Host.Outcome State Fault Refusal := .next (s.coldStart below18V)

/-- R197: the KS-4 stops: every block's state is lost, no load runs. -/
def State.stop (s : State) : State :=
  { s.powerLoss with phase := .stopped, settings := { s.powerLoss.settings with load := none } }

/-- SUPPLY_STOP (R197). -/
def execSupplyStop (s : State) : Host.Outcome State Fault Refusal :=
  .next (if s.phase = .stopped then s else s.stop)

/-! ## The end of the settings load (R190) -/

/-- R188, R190: the body the settings memory's record gives, where the record is valid. -/
def SettingsMemory.validBody (m : SettingsMemory) : Option Body :=
  if m.spoiled then none
  else (Body.ofRecord (Memory.load Config.blankSetting m.cells 0 1341)).filter Body.valid

/-- R190: the settings block after a load that found a valid record, or none. -/
def SettingsBlock.loaded (b : SettingsBlock) (found : Option Body) : SettingsBlock :=
  { working := found.getD Body.builtIn, committed := found, staging := none
    state := if found.isSome then .valid else .defaulted, serviceIn := false, exitPending := false, commit := none
    lastWrite := .none, load := none, memory := b.memory }

/-- Table 3-5: the regulators take their starting values from the working copy (R58, R59). -/
def State.restartRegulators (s : State) : State :=
  { s with regulators := Vector.ofFn fun c => Regulator.atReset (s.body.camera c) }

/-- Tables 6-10 and 8-4, R101, R102: object table, vehicle state, tracks, zones and arbiter as a reset leaves them. -/
def State.restartTables (s : State) : State :=
  { s with
    table := ObjectTable.atReset, vehicle := Vehicle.atReset, tracks := Tracks.atReset
    zones := Vector.replicate 8 ZoneRec.atReset, arbiter := Arbiter.atReset s.body.defaultView }

/-- R187: a controller as the end of the load starts it; an exchange that began during the load runs on, disregarded, and
removes nothing. -/
def LinkCtl.start (c : LinkCtl) (timeout : Nat) : LinkCtl :=
  { LinkCtl.atReset with
    ownerTimer := some timeout
    transit := c.transit.map fun t => { t with removesHead := false, disregard := true } }

/-- Each link's controller changed, given its link's number and its owner timeout in ms (R79, R185). -/
def State.mapLinks (s : State) (f : Nat → LinkCtl → Nat → LinkCtl) : State :=
  { s with links := s.links.mapIdx fun i c => f i c (1000 * s.body.u8 1 (16 + i)) }

/-- R128, R153: the first evaluation of the zones and the first choice of the arbiter. -/
def State.firstLook (s : State) : State := s.evaluateZones.choose

/-- R25, R58, R101, R128, R137, R153, R187, R190: the blocks start from the working copy when the load ends, and the SETTINGS
notice is raised once (R189). -/
def State.endLoad (s : State) (found : Option Body) : State :=
  let s1 : State :=
    { s with
      phase := .running, settings := s.settings.loaded found, receivers := Vector.replicate 4 Receiver.atReset }
  let s2 := (s1.restartRegulators.restartTables).mapLinks fun _ => LinkCtl.start
  let s3 : State := { s2 with alert := Alert.atReset true s2.body.chimeFlags s2.body.chimeVolume }
  let s4 := s3.firstLook
  s4.raise .settings 0 s4.settings.fields

/-- The load of a cold reset ends; at any other time there is none to end (log 2). -/
def whileLoading (s : State) (found : Option Body) : Host.Outcome State Fault Refusal :=
  .next (if s.phase = .loading then (s.endLoad found).settle else s)

/-- SETTINGS_LOAD_END (R190): the record is read to its end and judged. -/
def execSettingsLoadEnd (s : State) : Host.Outcome State Fault Refusal := whileLoading s s.settings.memory.validBody

/-- SETTINGS_LOAD_LIMIT_EXPIRY (R190): the read fails. -/
def execSettingsLoadLimitExpiry (s : State) : Host.Outcome State Fault Refusal := whileLoading s none

/-- SETTINGS_LOAD_NOT_ACKNOWLEDGED (R190): the read fails. -/
def execSettingsLoadNotAcknowledged (s : State) : Host.Outcome State Fault Refusal := whileLoading s none

/-! ## Warm reset (R195) -/

/-- R171: what a warm reset does to the frame being drawn: its rows not yet drawn are black, from rows that are free values
(log 16). Rows that an earlier warm reset made black stay so. -/
def Frame.blacken (f : Frame) (free : Nat) : Frame :=
  { f with
    blackFrom :=
      match f.blackFrom with
      | some rows => some rows
      | none => some (Config.monitorRowsDrawn free % 481, Config.recorderRowsDrawn free % 481) }

/-- R171: the frame being drawn at a warm reset. -/
def State.blackenFrame (s : State) : State :=
  { s with frame := s.frame.map fun f => f.blacken s.free, free := s.free + 1 }

/-- R25, R42, R59, R102, R129, R137, R153, R171, R187, R195: every block takes its warm-reset values; service state ends at once.
The supply monitor, the generator and the rest of the settings block stay as they are, and so does the tone duty, to which R137
gives no value (log 36). -/
def State.warmBlocks (s : State) : State :=
  let s1 : State :=
    { s with
      receivers := s.receivers.map Receiver.warmReset, pictures := s.pictures.map Picture.warmReset
      settings := s.settings.leaveService, alert := Alert.atReset s.alert.started s.alert.flags s.alert.toneDuty }
  ((s1.blackenFrame.restartRegulators).restartTables).mapLinks LinkCtl.warmReset

/-- R195: a SETTINGS notice where service state was IN. -/
def State.noteServiceEnd (before s : State) : State :=
  if before.settings.serviceIn then s.raise .settings 0 s.settings.fields else s

/-- R195: a warm reset; `first` puts the reply of a RESET request into the emptied CHASSIS queue (R187). The notices of the zones'
evaluation enter before the SETTINGS notice (log 38). -/
def State.warmReset (s : State) (first : State → State) : State :=
  State.noteServiceEnd s ((first s.warmBlocks).firstLook)

/-- R195: the RESET_N line falls. -/
def State.lineFalls (s : State) : State :=
  if s.resetLineHigh then
    if s.phase = .running then (State.warmReset { s with resetLineHigh := false } id).settle
    else { s with resetLineHigh := false }
  else s

/-- RESET_N (R195). -/
def execResetN (s : State) : Host.Outcome State Fault Refusal := .next s.lineFalls

/-- RESET_N_RISE (R195): the line rises; nothing else follows. -/
def execResetNRise (s : State) : Host.Outcome State Fault Refusal := .next { s with resetLineHigh := true }

/-- R195: a RESET request: refused from another link than CHASSIS, else a warm reset whose reply is the first message of the
emptied queue. -/
def State.answerReset (l : Link) (s : State) : State :=
  match s.takeHead .reset l with
  | none => s
  | some (r, s') =>
    if r.tooShort then s'.reply l r (.refuse .malformed)
    else if l ≠ .chassis then s'.reply l r (.refuse .notPermitted)
    else s'.warmReset fun t => t.reply l r .done

/-- RESET (R195). -/
def execReset (l : Link) (s : State) : Host.Outcome State Fault Refusal := whileRunning s (State.answerReset l)

end Sys2Proof.Machine
end

