-- ==== Sys2Proof/Machine/TrackTable.lean ====
section
/-! DEFINITION. The track table (6.2): updates, admission, eviction, expiry, drop. -/

namespace Sys2Proof.Machine

/-- The place of the entry of a source link and id. -/
def Tracks.find (t : Tracks) (l : Link) (id : Nat) : Option Place :=
  (List.finRange 16).find? fun p => match t.places[p] with
    | some k => k.source == l && k.id == id
    | none => false

/-- The lowest-numbered empty place (R113). -/
def Tracks.emptyPlace (t : Tracks) : Option Place := (List.finRange 16).find? fun p => t.places[p].isNone

/-- R114: of two places, the one of lower confidence, then larger age, then the first. -/
def Tracks.weaker (t : Tracks) (best : Option (Place × Track)) (p : Place) : Option (Place × Track) :=
  match t.places[p], best with
  | none, _ => best
  | some k, none => some (p, k)
  | some k, some (q, m) =>
    if k.confidence < m.confidence ∨ (k.confidence = m.confidence ∧ m.age < k.age) then some (p, k) else some (q, m)

/-- R114: the entry an eviction looks for. -/
def Tracks.weakest (t : Tracks) : Option (Place × Track) := (List.finRange 16).foldl t.weaker none

/-- A place of the track table set, and the recount that follows each change of its contents (R118). An entry put in the place
of another, an eviction with its admission, is one change, recounted once (log 35). -/
def State.setPlace (s : State) (p : Place) (k : Option Track) : State :=
  State.recountZones { s with tracks := { s.tracks with places := s.tracks.places.set p k } }

/-- The fields of a TRACK_UPDATE reply: admitted, place, evicted source link and id, 255 for none (12.3, log 22). -/
def trackAnswer (admitted : Bool) (place : Option Place) (evicted : Option Track) : Answer :=
  ⟨.done, [yesNo admitted, optByte (place.map Fin.val), optByte (evicted.map fun k => k.source.ix.val),
    optByte (evicted.map Track.id)]⟩

/-- R112 step 3: the entry's class, position and confidence become those given, and its age restarts. -/
def Track.update (old new : Track) : Track :=
  { old with cls := new.cls, x := new.x, y := new.y, confidence := new.confidence, age := 0 }

/-- R113, R114: a track asks for admission. An eviction and the admission it makes room for are one change of the table (log
35). -/
def State.takeNew (s : State) (k : Track) : State × Answer :=
  if k.confidence < s.body.admissionFloor then (s, trackAnswer false none none)
  else
    match s.tracks.emptyPlace with
    | some p => (s.setPlace p (some k), trackAnswer true (some p) none)
    | none =>
      match s.tracks.weakest with
      | some (p, w) =>
        if w.confidence < k.confidence then (s.setPlace p (some k), trackAnswer true (some p) (some w))
        else (s, .refuse .tableFull)
      | none => (s, .refuse .tableFull)

/-- R112 -/
def actTrackUpdate (l : Link) (r : Request) (s : State) : State × Answer :=
  let f := r.fields
  match TrackClass.ofCode (u8At f 1) with
  | none => (s, .refuse .malformed)
  | some cls =>
    if u8At f 0 = 0 then (s, .refuse .malformed)
    else
      let k : Track :=
        { source := l, id := u8At f 0, cls := cls, x := clampX (s16At f 2), y := clampY (s16At f 4)
          confidence := min (u8At f 10) 100, age := 0 }
      match s.tracks.find l k.id with
      | some p => (s.setPlace p (s.tracks.places[p].map fun old => old.update k), trackAnswer false (some p) none)
      | none => s.takeNew k

/-- TRACK_UPDATE (R112). -/
def execTrackUpdate (l : Link) (s : State) : Host.Outcome State Fault Refusal :=
  whileRunning s (answering .trackUpdate l (actTrackUpdate l))

/-- R115: an entry has expired and is removed. -/
def State.trackExpiry (s : State) (p : Place) : State :=
  if s.tracks.places[p] = none then s else s.setPlace p none

/-- TRACK_EXPIRY (R115). -/
def execTrackExpiry (p : Place) (s : State) : Host.Outcome State Fault Refusal :=
  whileRunning s fun s => s.trackExpiry p

/-- R116 -/
def actTrackDrop (l : Link) (r : Request) (s : State) : State × Answer :=
  match s.tracks.find l (u8At r.fields 0) with
  | some p => (s.setPlace p none, .done)
  | none => (s, .refuse .unknownTrack)

/-- TRACK_DROP (R116). -/
def execTrackDrop (l : Link) (s : State) : Host.Outcome State Fault Refusal :=
  whileRunning s (answering .trackDrop l (actTrackDrop l))

end Sys2Proof.Machine
end

