-- ==== Sys2Proof/Machine/Dispatch.lean ====
section
/-! DEFINITION. One arm per command. -/

namespace Sys2Proof.Machine

def exec (i : Instr) (s : State) : Host.Outcome State Fault Refusal :=
  match i with
  | .frameStartRecord cam packet => Sys2Proof.Machine.execFrameStartRecord cam packet s
  | .lineRecord cam packet => Sys2Proof.Machine.execLineRecord cam packet s
  | .blankingRecord cam packet => Sys2Proof.Machine.execBlankingRecord cam packet s
  | .silenceTimerExpiry cam => Sys2Proof.Machine.execSilenceTimerExpiry cam s
  | .returnTimerExpiry cam => Sys2Proof.Machine.execReturnTimerExpiry cam s
  | .errorWindowEnd cam => Sys2Proof.Machine.execErrorWindowEnd cam s
  | .concealmentCopyFinish cam => Sys2Proof.Machine.execConcealmentCopyFinish cam s
  | .stopTimerExpiry cam => Sys2Proof.Machine.execStopTimerExpiry cam s
  | .outputFrameStart => Sys2Proof.Machine.execOutputFrameStart s
  | .outputFrameEnd => Sys2Proof.Machine.execOutputFrameEnd s
  | .objectPut link => Sys2Proof.Machine.execObjectPut link s
  | .objectMove link => Sys2Proof.Machine.execObjectMove link s
  | .objectStyle link => Sys2Proof.Machine.execObjectStyle link s
  | .objectTextSetCursor link => Sys2Proof.Machine.execObjectTextSetCursor link s
  | .objectTextAppend link => Sys2Proof.Machine.execObjectTextAppend link s
  | .objectRemove link => Sys2Proof.Machine.execObjectRemove link s
  | .objectRemoveAll link => Sys2Proof.Machine.execObjectRemoveAll link s
  | .stripSet link => Sys2Proof.Machine.execStripSet link s
  | .ownerSilenceTimerExpiry link => Sys2Proof.Machine.execOwnerSilenceTimerExpiry link s
  | .vehicleState link => Sys2Proof.Machine.execVehicleState link s
  | .bodyState link => Sys2Proof.Machine.execBodyState link s
  | .indicatorOffDelayExpiry => Sys2Proof.Machine.execIndicatorOffDelayExpiry s
  | .chassisSilenceTimerExpiry => Sys2Proof.Machine.execChassisSilenceTimerExpiry s
  | .bodySilenceTimerExpiry => Sys2Proof.Machine.execBodySilenceTimerExpiry s
  | .trackUpdate link => Sys2Proof.Machine.execTrackUpdate link s
  | .trackExpiry place => Sys2Proof.Machine.execTrackExpiry place s
  | .trackDrop link => Sys2Proof.Machine.execTrackDrop link s
  | .holdTimerExpiry zone => Sys2Proof.Machine.execHoldTimerExpiry zone s
  | .dwellPeriodEnd zone => Sys2Proof.Machine.execDwellPeriodEnd zone s
  | .zoneAck link => Sys2Proof.Machine.execZoneAck link s
  | .segmentTimerExpiry => Sys2Proof.Machine.execSegmentTimerExpiry s
  | .viewRequest link => Sys2Proof.Machine.execViewRequest link s
  | .viewMaskSet link => Sys2Proof.Machine.execViewMaskSet link s
  | .viewMaskClear link => Sys2Proof.Machine.execViewMaskClear link s
  | .causeTimerExpiry cause => Sys2Proof.Machine.execCauseTimerExpiry cause s
  | .showTimerExpiry => Sys2Proof.Machine.execShowTimerExpiry s
  | .canRequestFrame port ident payload => Sys2Proof.Machine.execCanRequestFrame port ident payload s
  | .spiExchangeStart => Sys2Proof.Machine.execSpiExchangeStart s
  | .spiExchange half => Sys2Proof.Machine.execSpiExchange half s
  | .spiExchangeCutShort => Sys2Proof.Machine.execSpiExchangeCutShort s
  | .canFrameAcknowledged port => Sys2Proof.Machine.execCanFrameAcknowledged port s
  | .canArbitrationLoss port => Sys2Proof.Machine.execCanArbitrationLoss port s
  | .canBusError port => Sys2Proof.Machine.execCanBusError port s
  | .canBusOff port => Sys2Proof.Machine.execCanBusOff port s
  | .canBusOffRecovery port => Sys2Proof.Machine.execCanBusOffRecovery port s
  | .unknownKind link => Sys2Proof.Machine.execUnknownKind link s
  | .statusQuery link => Sys2Proof.Machine.execStatusQuery link s
  | .serviceEnter link => Sys2Proof.Machine.execServiceEnter link s
  | .serviceExit link => Sys2Proof.Machine.execServiceExit link s
  | .settingsWrite link => Sys2Proof.Machine.execSettingsWrite link s
  | .settingsRead link => Sys2Proof.Machine.execSettingsRead link s
  | .settingsCommit link => Sys2Proof.Machine.execSettingsCommit link s
  | .commitWriteComplete => Sys2Proof.Machine.execCommitWriteComplete s
  | .commitWriteFailed => Sys2Proof.Machine.execCommitWriteFailed s
  | .commitLimitExpiry => Sys2Proof.Machine.execCommitLimitExpiry s
  | .coldReset below18V => Sys2Proof.Machine.execColdReset below18V s
  | .settingsLoadEnd => Sys2Proof.Machine.execSettingsLoadEnd s
  | .settingsLoadLimitExpiry => Sys2Proof.Machine.execSettingsLoadLimitExpiry s
  | .resetN => Sys2Proof.Machine.execResetN s
  | .reset link => Sys2Proof.Machine.execReset link s
  | .supplyFallBelow18V => Sys2Proof.Machine.execSupplyFallBelow18V s
  | .supplyRiseTo18V => Sys2Proof.Machine.execSupplyRiseTo18V s
  | .dipTimerExpiry => Sys2Proof.Machine.execDipTimerExpiry s
  | .supplyRiseTo20V => Sys2Proof.Machine.execSupplyRiseTo20V s
  | .supplyFallBelow20V => Sys2Proof.Machine.execSupplyFallBelow20V s
  | .recoveryTimerExpiry => Sys2Proof.Machine.execRecoveryTimerExpiry s
  | .supplyStop => Sys2Proof.Machine.execSupplyStop s
  | .resetNRise => Sys2Proof.Machine.execResetNRise s
  | .settingsLoadNotAcknowledged => Sys2Proof.Machine.execSettingsLoadNotAcknowledged s

end Sys2Proof.Machine
end

