-- ==== Sys2Proof/Machine/Ticks.lean ====
section
/-! DEFINITION. One millisecond (log 1): the counts that run with time whatever is commanded. What an expiry does is a command of
its own. -/

namespace Sys2Proof.Machine

/-- One millisecond of a timer; one that has run out stays due until its expiry is taken. -/
def Timer.tick (t : Timer) : Timer := t.map fun n => n - 1

/-- One millisecond of a receiver's timers. -/
def Receiver.tick (r : Receiver) : Receiver :=
  { r with
    errorWindow := Timer.tick r.errorWindow, returnTimer := Timer.tick r.returnTimer
    silenceTimer := Timer.tick r.silenceTimer }

/-- One millisecond of a regulator's stop timer. -/
def Regulator.tick (r : Regulator) : Regulator := { r with stopTimer := Timer.tick r.stopTimer }

/-- One millisecond of the vehicle state block's timers. -/
def Vehicle.tick (v : Vehicle) : Vehicle :=
  { v with
    chassisTimer := Timer.tick v.chassisTimer, bodyTimer := Timer.tick v.bodyTimer, offDelay := Timer.tick v.offDelay }

/-- One millisecond of a track's age (R115). -/
def Track.tick (t : Track) : Track := { t with age := min (t.age + 1) Config.trackLife }

/-- One millisecond of the track table. -/
def Tracks.tick (t : Tracks) : Tracks := { t with places := t.places.map fun k => k.map Track.tick }

/-- One millisecond of a zone's timers. -/
def ZoneRec.tick (r : ZoneRec) : ZoneRec :=
  { r with dwellTimer := Timer.tick r.dwellTimer, holdTimer := Timer.tick r.holdTimer }

/-- One millisecond of the alert output unit's segment timer. -/
def Alert.tick (a : Alert) : Alert := { a with segmentTimer := Timer.tick a.segmentTimer }

/-- One millisecond of a cause's timer. -/
def CauseRec.tick (r : CauseRec) : CauseRec := { r with timer := Timer.tick r.timer }

/-- One millisecond of the arbiter's timers. -/
def Arbiter.tick (a : Arbiter) : Arbiter :=
  { a with showTimer := Timer.tick a.showTimer, causes := a.causes.map CauseRec.tick }

/-- One millisecond of a link's owner silence timer. -/
def LinkCtl.tick (c : LinkCtl) : LinkCtl := { c with ownerTimer := Timer.tick c.ownerTimer }

/-- One millisecond of the settings block's limits. -/
def SettingsBlock.tick (b : SettingsBlock) : SettingsBlock :=
  { b with commit := Timer.tick b.commit, load := Timer.tick b.load }

/-- One millisecond of the supply monitor's timers. -/
def Supply.tick (u : Supply) : Supply := { u with dip := Timer.tick u.dip, recovery := Timer.tick u.recovery }

/-- One millisecond passes (log 1); the milliseconds since cold reset wrap (R169). -/
def State.millisecond (s : State) : State :=
  { s with
    receivers := s.receivers.map Receiver.tick, regulators := s.regulators.map Regulator.tick
    vehicle := s.vehicle.tick, tracks := s.tracks.tick, zones := s.zones.map ZoneRec.tick, alert := s.alert.tick
    arbiter := s.arbiter.tick, generator := { s.generator with millis := s.generator.millis + 1 }
    links := s.links.map LinkCtl.tick, settings := s.settings.tick, supply := s.supply.tick }

/-- A step on an empty queue: a stopped KS-4 keeps no time (R197). -/
def State.idle (s : State) : State := if s.phase = .stopped then s else s.millisecond

end Sys2Proof.Machine
end

