-- ==== Sys2Proof/Machine/Step.lean ====
section
/-! DEFINITION. A step: the command at the front of the queue, or one millisecond when none waits (log 1). -/

namespace Sys2Proof.Machine

/-- The queue of waiting commands replaced. -/
def State.withPending (s : State) (q : List Instr) : State := { s with pending := q }

/-- One step. -/
def step (s : State) : Host.Outcome State Fault Refusal :=
  match s.pending with
  | [] => .next s.idle
  | i :: rest => exec i (s.withPending rest)

/-- The command that a word spells by the table's bits, put at the front of the queue; the table gives no bits, so none does. -/
def State.withFetchWord (s : State) (nbits w : Nat) : State :=
  match decodeTableWord nbits w with
  | some i => s.withPending (i :: s.pending)
  | none => s

end Sys2Proof.Machine
end

