-- ==== Sys2Proof/Safety.lean ====
section
/-! DEFINITION. The invariants of the KS-4 that the statements name, and the parts of State that a step leaves alone. -/

namespace Sys2Proof.Machine

/-! ## What a step leaves alone: the state with the parts it may touch blanked -/

/-- Everything but the link controllers. -/
def State.besideLinks (s : State) : State := { s with links := State.reset.links }

/-- Everything but the link controllers and the overlay object table. -/
def State.besideTable (s : State) : State := { s with links := State.reset.links, table := State.reset.table }

/-- Everything but the link controllers and the settings block. -/
def State.besideSettings (s : State) : State := { s with links := State.reset.links, settings := State.reset.settings }

/-- Everything but the link controllers and the view arbiter. -/
def State.besideViews (s : State) : State := { s with links := State.reset.links, arbiter := State.reset.arbiter }

/-- Everything but the link controllers, the view arbiter, the zones and the alert output unit. -/
def State.besideZones (s : State) : State :=
  { s with
    links := State.reset.links, arbiter := State.reset.arbiter, zones := State.reset.zones, alert := State.reset.alert }

/-- Everything but the parts a vehicle report may reach: links, arbiter, zones, alert unit, vehicle state, settings block. -/
def State.besideVehicle (s : State) : State :=
  { s.besideZones with vehicle := State.reset.vehicle, settings := State.reset.settings }

/-- Everything but the parts a change of the tracks or contacts may reach: links, arbiter, zones, alert unit, tracks. -/
def State.besideTracks (s : State) : State := { s.besideZones with tracks := State.reset.tracks }

/-- Everything but the link controllers and the receivers, pictures and regulators. -/
def State.besideCameras (s : State) : State :=
  { s with
    links := State.reset.links, receivers := State.reset.receivers, pictures := State.reset.pictures
    regulators := State.reset.regulators }

/-! ## Link controllers (R174, R176, R178, R181, R182) -/

/-- The kinds and subjects of the queued notices. -/
def LinkCtl.subjects (c : LinkCtl) : List (NoticeKind × Nat) := c.outbound.filterMap OutMsg.notice

/-- Up to 16 requests, up to 12 messages, one notice per kind and subject; what a sending is to remove at its end is the message
that was sent. -/
structure LinkCtl.Ok (c : LinkCtl) : Prop where
  inbound : c.inbound.length ≤ Config.inboundLimit
  outbound : c.outbound.length ≤ Config.outboundLimit
  subjects : c.subjects.Nodup
  sending : ∀ t, c.transit = some t → t.removesHead = true → t.msg.isSome = true ∧ c.outbound.head? = t.msg

/-- Every link controller is in order. -/
def State.QueuesOk (s : State) : Prop := ∀ l, (s.ctl l).Ok

/-! ## Memory in its canonical form -/

/-- The pixel data of every slot and the settings memory are in the canonical form. -/
def State.MemoryOk (s : State) : Prop :=
  (∀ c i, Memory.wf Config.blankPixel ((s.pict c).slot i).pixels) ∧ Memory.wf Config.blankSetting s.settings.memory.cells

/-! ## Picture memory (R26, R27) -/

/-- R26 for one camera, given the slot of the receiver's open fill: one FILLING slot at most, the receiver's; one LATEST slot at
most, the one LATEST names; FREE and FILLING slots unheld; SUPERSEDED slots held; each holder on one slot at most; MONITOR only
where RECORDER is; the copy holder where a copy in flight reads; the copy's target the open fill's slot or none. -/
structure Picture.Ok (p : Picture) (fill : Option SlotIx) : Prop where
  filling : ∀ i, (p.slot i).state = .filling ↔ fill = some i
  latest : ∀ i, (p.slot i).state = .latest ↔ p.latest = some i
  unheld : ∀ i, (p.slot i).state = .free ∨ (p.slot i).state = .filling → (p.slot i).holders = Holders.none
  held : ∀ i, (p.slot i).state = .superseded → (p.slot i).holders ≠ Holders.none
  recorder : ∀ i j, (p.slot i).holders.recorder = true → (p.slot j).holders.recorder = true → i = j
  monitor : ∀ i, (p.slot i).holders.monitor = true → (p.slot i).holders.recorder = true
  copy : ∀ i, (p.slot i).holders.copy = true ↔ p.copy.bind Copy.source = some i
  target : ∀ k, p.copy = some k → k.target = none ∨ k.target = fill

/-- The slot of a receiver's open fill. -/
def Receiver.fillSlot (r : Receiver) : Option SlotIx := r.fill.map Fill.slot

/-- R7 to R11, R18, R19 for one camera: a fill is open only while LOCKED with an anchor, up to place 481; it is judged exactly at
place 481, and then waits for a copy in flight into its slot. -/
structure Receiver.FillOk (r : Receiver) (copy : Option Copy) (f : Fill) : Prop where
  locked : r.lock = .locked
  anchored : r.anchor.isSome = true
  place : r.place ≤ 481
  judged : f.judged = true ↔ r.place = 481
  waits : f.judged = true → ∃ k, copy = some k ∧ k.target = some f.slot

/-- R26 for every camera, and what an open fill says of its receiver; outside the running phase no fill is open. -/
structure State.PicturesOk (s : State) : Prop where
  slots : ∀ c, (s.pict c).Ok (s.recv c).fillSlot
  fills : ∀ c f, (s.recv c).fill = some f → (s.recv c).FillOk (s.pict c).copy f
  idle : s.phase ≠ .running → ∀ c, (s.recv c).fill = none

/-! ## The overlay object table (R78) -/

/-- Every OCCUPIED slot is mapped by its owner's sector map. -/
def State.SlotsMapped (s : State) : Prop :=
  ∀ i o, s.slot i = some o → s.body.maps o.owner (sectorOf i) = true

/-! ## Tracks (R112 to R115, Table 6-3) -/

/-- A track entry's fields lie in their ranges. -/
structure Track.Ok (t : Track) : Prop where
  id : 1 ≤ t.id ∧ t.id ≤ 255
  x : -300 ≤ t.x ∧ t.x ≤ 2000
  y : -100 ≤ t.y ∧ t.y ≤ 1000
  confidence : t.confidence ≤ 100
  age : t.age ≤ Config.trackLife

/-- One entry at most per source link and id, every entry in its ranges. -/
structure Tracks.Ok (t : Tracks) : Prop where
  one : ∀ (p q : Place) a b, t.places[p] = some a → t.places[q] = some b → a.source = b.source → a.id = b.id → p = q
  ranges : ∀ (p : Place) a, t.places[p] = some a → a.Ok

/-! ## Zones (Table 6-5, R118 to R122) -/

/-- A zone's runtime record: the hold timer belongs to HOLD, the dwell timer to CAUTION and WARNING; IDLE and CLEAR carry no dwell
and no acknowledgement; dwell and occupancy in their ranges. -/
structure ZoneRec.Ok (r : ZoneRec) : Prop where
  hold : r.holdTimer.isSome = true ↔ r.state = .hold
  dwelling : r.dwellTimer.isSome = true ↔ r.state = .caution ∨ r.state = .warning
  rest : r.state = .idle ∨ r.state = .clear → r.dwell = 0 ∧ r.acked = false
  dwell : r.dwell ≤ 999
  occupancy : r.occupancy ≤ 19

/-- Every zone's record is in order, and a zone that is not enabled is IDLE (R119, R127). -/
def State.ZonesOk (s : State) : Prop :=
  ∀ z, (s.zoneRec z).Ok ∧ ((s.body.zone z).enabled = false → (s.zoneRec z).state = .idle)

/-! ## The alert output unit (R130 to R135) -/

/-- The segments of a level (Table 7-3). -/
def ChimeLevel.hasSegment : ChimeLevel → Option Segment → Bool
  | .off, none => true
  | .caution, some .c1 | .caution, some .c2 => true
  | .warning, some .w1 | .warning, some .w2 => true
  | _, _ => false

/-- The unit's level and lines follow from its copy of the zones, and its segment from its level. -/
structure Alert.Ok (a : Alert) : Prop where
  level : a.level = chimeLevelOf a.flags a.copies
  hzWarn : a.hzWarn = hzWarnOf a.copies
  hzCaution : a.hzCaution = hzCautionOf a.copies
  segment : a.level.hasSegment a.segment = true
  timer : a.segmentTimer.isSome = a.segment.isSome

/-- While the KS-4 runs, the unit is started, its copy is that of the zones as they stand, and its flags are those in force. -/
def State.AlertOk (s : State) : Prop :=
  s.phase = .running →
    s.alert.Ok ∧ s.alert.started = true ∧ s.alert.flags = s.body.chimeFlags ∧ ∀ z : Zone, s.alert.copies[z] = (s.zoneRec z).face

/-! ## The settings block (Table 11-3, R191, R194) -/

/-- The settings block's copies and states as Table 11-3 relates them, with SERVICE following the service state (R111). -/
structure SettingsBlock.Ok (b : SettingsBlock) : Prop where
  valid : b.working.valid = true ∧ b.working.wf = true
  staging : b.serviceIn = b.staging.isSome
  stagingShape : ∀ x, b.staging = some x → x.wf = true
  isValid : b.state = .valid → b.committed = some b.working
  isDefaulted : b.state = .defaulted → b.committed = none ∧ b.working = Body.builtIn
  inFlight : b.commit.isSome = true → b.state = .modified
  exitPending : b.exitPending = true → b.serviceIn = true ∧ b.commit.isSome = true
  image : ∀ x, b.committed = some x → b.memory.validBody = some x

/-- The settings block is in order, and SERVICE is true exactly in service state. -/
def State.SettingsOk (s : State) : Prop := s.settings.Ok ∧ s.vehicle.conds.service = s.settings.serviceIn

/-! ## The exposure regulators (R44) -/

/-- R44 on what a regulator holds, under its camera's settings. -/
structure Regulator.Ok (cfg : CameraSettings) (r : Regulator) : Prop where
  gain : cfg.gainFloor ≤ r.gain ∧ r.gain ≤ cfg.gainCeiling
  duty : r.duty = 0 ∨ (cfg.stopDuty ≤ r.duty ∧ r.duty ≤ 100)
  fitted : cfg.fitted = false → r.duty = 0
  timer : r.stopTimer.isSome = true → r.duty = cfg.stopDuty

/-- R44 for every camera. -/
def State.RegulatorsOk (s : State) : Prop := ∀ c, (s.reg c).Ok (s.body.camera c)

/-! ## Requests (R179, R181) -/

/-- R179: a request of a row stands at the head of a link's inbound queue while the KS-4 runs, long enough for its kind, and the
outbound queue can take its reply. -/
structure State.Ready (s : State) (l : Link) (row : RequestRow) (r : Request) : Prop where
  running : s.phase = .running
  head : (s.ctl l).inbound.head? = some r
  row : r.row = row
  long : r.tooShort = false
  room : (s.ctl l).canReply = true

/-- From s to t a link's request left its inbound queue and its reply joined the tail of its outbound queue; no other inbound
queue changed. -/
structure State.Replied (s t : State) (l : Link) (r : Request) (a : Answer) : Prop where
  inbound : (t.ctl l).inbound = (s.ctl l).inbound.tail
  reply : (t.ctl l).outbound.getLast? = some (replyMsg r a)
  others : ∀ m, m ≠ l → (t.ctl m).inbound = (s.ctl m).inbound

/-- The same, and no message but the reply entered any queue: what R181 does to make room for it is all that happened to the
link's outbound queue and flags, and nothing to another link's. -/
structure State.OnlyReplied (s t : State) (l : Link) (r : Request) (a : Answer) : Prop where
  inbound : (t.ctl l).inbound = (s.ctl l).inbound.tail
  outbound : (t.ctl l).outbound = (s.ctl l).makeRoom.outbound ++ [replyMsg r a]
  flags : (t.ctl l).flags = (s.ctl l).makeRoom.flags
  others : ∀ m, m ≠ l →
    (t.ctl m).inbound = (s.ctl m).inbound ∧ (t.ctl m).outbound = (s.ctl m).outbound ∧ (t.ctl m).flags = (s.ctl m).flags
  timers : ∀ m, (t.ctl m).ownerTimer = (s.ctl m).ownerTimer ∧ (t.ctl m).busOff = (s.ctl m).busOff

/-- The command that takes a request of a row from a link. -/
def RequestRow.command (row : RequestRow) (l : Link) : Instr :=
  match row with
  | .objectPut => .objectPut l
  | .objectMove => .objectMove l
  | .objectStyle => .objectStyle l
  | .objectTextSetCursor => .objectTextSetCursor l
  | .objectTextAppend => .objectTextAppend l
  | .objectRemove => .objectRemove l
  | .objectRemoveAll => .objectRemoveAll l
  | .stripSet => .stripSet l
  | .vehicleState => .vehicleState l
  | .bodyState => .bodyState l
  | .trackUpdate => .trackUpdate l
  | .trackDrop => .trackDrop l
  | .zoneAck => .zoneAck l
  | .viewRequest => .viewRequest l
  | .viewMaskSet => .viewMaskSet l
  | .viewMaskClear => .viewMaskClear l
  | .statusQuery => .statusQuery l
  | .serviceEnter => .serviceEnter l
  | .serviceExit => .serviceExit l
  | .settingsWrite => .settingsWrite l
  | .settingsRead => .settingsRead l
  | .settingsCommit => .settingsCommit l
  | .reset => .reset l
  | .unknownKind => .unknownKind l

/-! ## Camera records -/

/-- The camera and the record of a command that brings a line or blanking record (R199). -/
def rowRecordOf : Instr → Option (Camera × RowRecord)
  | .lineRecord c packet =>
    match classify packet with
    | .line row body => some (c, { row := row, isLine := true, body := body })
    | _ => none
  | .blankingRecord c packet =>
    match classify packet with
    | .blanking row body => some (c, { row := row, isLine := false, body := body })
    | _ => none
  | _ => none

/-- The receivers, pictures and regulators of the other cameras are unchanged. -/
def State.OtherCameras (s t : State) (c : Camera) : Prop :=
  ∀ d, d ≠ c → t.recv d = s.recv d ∧ t.pict d = s.pict d ∧ t.reg d = s.reg d

/-- From s to t nothing changes but the camera's receiver and the link controllers. -/
structure State.OnlyReceiver (s t : State) (c : Camera) : Prop where
  pict : t.pict c = s.pict c
  reg : t.reg c = s.reg c
  cameras : s.OtherCameras t c
  rest : t.besideCameras = s.besideCameras

/-! ## The choice of a view (R148, R149) -/

/-- R148: the candidate: it competes, and every other competitor is of lower priority, or of the same and a higher index. -/
def State.Best (s : State) (i : Cause) : Prop :=
  s.competes i = true ∧
    ∀ j, s.competes j = true →
      (s.body.cause j).priority < (s.body.cause i).priority ∨
        ((s.body.cause j).priority = (s.body.cause i).priority ∧ i ≤ j)

/-- R149: the candidate takes the screen: its view is shown already, or the show timer has expired, or it is urgent. -/
def State.Taken (s : State) (i : Cause) : Prop :=
  s.Best i ∧ ((s.body.cause i).view = s.arbiter.shownView ∨ s.arbiter.showTimer = none ∨ (s.body.cause i).urgent = true)

/-- R149: t is s after the arbiter's choice, by the five cases. -/
structure State.ChoiceMade (s t : State) : Prop where
  stay : ∀ i, s.Best i → (s.body.cause i).view = s.arbiter.shownView →
    t.arbiter.shownView = s.arbiter.shownView ∧ t.arbiter.shownCause = some i ∧ t.arbiter.showTimer = s.arbiter.showTimer
  change : ∀ i, s.Taken i → (s.body.cause i).view ≠ s.arbiter.shownView →
    t.arbiter.shownView = (s.body.cause i).view ∧ t.arbiter.shownCause = some i ∧
      t.arbiter.showTimer = startTimer (100 * s.body.minShowTime)
  wait : ∀ i, s.Best i → ¬ s.Taken i →
    t.arbiter.shownView = s.arbiter.shownView ∧ t.arbiter.shownCause = s.arbiter.shownCause ∧
      t.arbiter.showTimer = s.arbiter.showTimer
  rest : (∀ i, s.competes i = false) → s.arbiter.shownView = s.body.defaultView →
    t.arbiter.shownView = s.arbiter.shownView ∧ t.arbiter.shownCause = none ∧ t.arbiter.showTimer = s.arbiter.showTimer
  back : (∀ i, s.competes i = false) → s.arbiter.shownView ≠ s.body.defaultView →
    t.arbiter.shownView = s.body.defaultView ∧ t.arbiter.shownCause = none ∧
      t.arbiter.showTimer = startTimer (100 * s.body.minShowTime)
  served : ∀ i, s.Taken i → (s.causeRec i).stage = .pending →
    t.causeRec i = { s.causeRec i with stage := .inService, timer := some (100 * (s.body.cause i).serveTime) }
  others : ∀ i, ¬ (s.Taken i ∧ (s.causeRec i).stage = .pending) → t.causeRec i = s.causeRec i

/-- The same state with other causes. -/
def State.withCauses (s : State) (f : Cause → CauseRec) : State :=
  { s with arbiter := { s.arbiter with causes := Vector.ofFn f } }

/-- The same state with another arbiter. -/
def State.withArbiter (s : State) (a : Arbiter) : State := { s with arbiter := a }

/-! ## Onsets (R125, R142) -/

/-- R125: an entry into WARNING from any state other than HOLD with held level WARNING. -/
def ZoneRec.Onset (before after : ZoneRec) : Prop :=
  after.state = .warning ∧ before.state ≠ .warning ∧ ¬ (before.state = .hold ∧ before.held = .warning)

/-- R142: a cause that an onset of zone z with preferred view v raises. -/
def CauseSettings.RaisedBy (c : CauseSettings) (z : Zone) (v : Nat) : Prop :=
  c.enabled = true ∧ c.source = .zoneWarning ∧ c.zones.getLsbD z.val = true ∧ c.view = v

/-- R142: what the raising does by the stage. -/
def CauseRec.raised (r : CauseRec) (c : CauseSettings) : CauseRec :=
  if r.stage = .inService then { r with timer := some (100 * c.serveTime) }
  else { r with stage := .pending, timer := some (100 * c.pendingLife) }

/-- R125, R142, R148: the zones' records pass from `before` to `after` and the arbiter from a to b, under the settings and vehicle
state of t. Zone by zone in ascending order (logs 34, 40), an onset of a zone with a preferred view raises exactly the causes of that
zone and view and a choice follows; a zone without one leaves the arbiter as it is. -/
def State.OnsetsTaken (t : State) (before after : Zone → ZoneRec) (a b : Arbiter) : Prop :=
  ∃ y : Nat → Arbiter, y 0 = a ∧ y 8 = b ∧ ∀ z : Zone,
    ((¬ (before z).Onset (after z) ∨ (t.body.zone z).preferredView = none) → y (z.val + 1) = y z.val) ∧
    ∀ v, (before z).Onset (after z) → (t.body.zone z).preferredView = some v →
      ∃ raised : Cause → CauseRec,
        (∀ i, (t.body.cause i).RaisedBy z v → raised i = (y z.val).causes[i].raised (t.body.cause i)) ∧
        (∀ i, ¬ (t.body.cause i).RaisedBy z v → raised i = (y z.val).causes[i]) ∧
        State.ChoiceMade ((t.withArbiter (y z.val)).withCauses raised) (t.withArbiter (y (z.val + 1)))

/-- R103, R146, R148: what the vehicle state block hands the arbiter between s and t: after the onsets of the zones, a change of speed
ends the causes in service that are masked then, and a choice follows on any change (log 18); with neither changed the arbiter is as
the onsets left it. -/
def State.ArbiterTold (s t : State) : Prop :=
  ∃ a, t.OnsetsTaken s.zoneRec t.zoneRec s.arbiter a ∧
    (t.vehicle.conds = s.vehicle.conds → t.vehicle.speed = s.vehicle.speed → t.arbiter = a) ∧
    (t.vehicle.conds ≠ s.vehicle.conds ∨ t.vehicle.speed ≠ s.vehicle.speed →
      ∃ causes : Cause → CauseRec,
        (∀ i, causes i =
          if t.vehicle.speed ≠ s.vehicle.speed ∧ a.causes[i].stage = .inService ∧
            (a.causes[i].masks ≠ 0 ∨ ((t.body.cause i).maxSpeed ≠ 0 ∧ (t.body.cause i).maxSpeed < t.vehicle.speed)) then
            { a.causes[i] with stage := .quiet, timer := none }
          else a.causes[i]) ∧
        State.ChoiceMade ((t.withArbiter a).withCauses causes) t)

/-- R103, R119: every enabled zone is evaluated once on a change of conditions, and none otherwise. -/
def State.ZonesTold (s t : State) : Prop :=
  ∀ z, t.zoneRec z =
    if t.vehicle.conds ≠ s.vehicle.conds ∧ (s.body.zone z).enabled = true then
      (s.zoneRec z).evaluate (s.body.zone z) t.vehicle.conds
    else s.zoneRec z

/-- R118, R119: from s to t the track table has changed and the zones were recounted: an enabled zone whose occupancy or warn-class
mark changed is evaluated under the conditions of t, every other zone's record stays, and the onsets reach the arbiter. -/
structure State.Recounted (s t : State) : Prop where
  zones : ∀ z,
    let r := (s.zoneRec z).recount (s.body.zone z) s.body.countFloor t.tracks
    t.zoneRec z =
      if (s.body.zone z).enabled = true ∧
        (r.occupancy ≠ (s.zoneRec z).occupancy ∨ r.warnMark ≠ (s.zoneRec z).warnMark) then
        r.evaluate (s.body.zone z) t.vehicle.conds
      else s.zoneRec z
  onsets : t.OnsetsTaken s.zoneRec t.zoneRec s.arbiter t.arbiter

/-! ## What a change of the vehicle state does (R103, R119, R146, R191) -/

/-- From s to t MOVING becomes true in service state. -/
def State.MovingEnds (s t : State) : Prop :=
  s.vehicle.conds.moving = false ∧ t.vehicle.conds.moving = true ∧ s.settings.serviceIn = true

/-- From s to t the vehicle state block has taken new values: MOVING becoming true ends service state or sets exit pending
(R191), a change of conditions evaluates every enabled zone once (R103, R119) and makes the arbiter choose (R148), and a change of
speed ends the causes in service that it masks (R146). -/
structure State.VehicleTaken (s t : State) : Prop where
  ends : s.MovingEnds t → s.settings.commit = none →
    t.settings = { s.settings with serviceIn := false, staging := none, exitPending := false } ∧ t.vehicle.conds.service = false
  waits : s.MovingEnds t → s.settings.commit ≠ none →
    t.settings = { s.settings with exitPending := true } ∧ t.vehicle.conds.service = s.vehicle.conds.service
  stays : ¬ s.MovingEnds t → t.settings = s.settings ∧ t.vehicle.conds.service = s.vehicle.conds.service
  zones : s.ZonesTold t
  arbiter : s.ArbiterTold t
  masked : t.vehicle.speed ≠ s.vehicle.speed → ∀ i, (s.causeRec i).stage = .inService → (s.body.cause i).maxSpeed ≠ 0 →
    (s.body.cause i).maxSpeed < t.vehicle.speed → (t.causeRec i).stage = .quiet ∧ (t.causeRec i).timer = none

/-! ## Commands that only the running KS-4 takes (R25, R187, R190, R197) -/

/-- Whether a command is one that finds no block to take it while the KS-4 loads its settings or is stopped. -/
def onlyRunning : Instr → Bool
  | .outputFrameStart | .outputFrameEnd | .spiExchangeStart | .spiExchange _ | .spiExchangeCutShort => false
  | .supplyFallBelow18V | .supplyRiseTo18V | .supplyFallBelow20V | .supplyRiseTo20V => false
  | .dipTimerExpiry | .recoveryTimerExpiry => false
  | .coldReset _ | .settingsLoadEnd | .settingsLoadLimitExpiry | .settingsLoadNotAcknowledged => false
  | .resetN | .resetNRise | .supplyStop => false
  | _ => true

/-! ## Requests that name a handle (R84) -/

/-- The rows that name a handle. -/
def RequestRow.namesHandle : RequestRow → Bool
  | .objectPut | .objectMove | .objectStyle | .objectTextSetCursor | .objectTextAppend | .objectRemove => true
  | _ => false

/-- R84 check 1 but for the handle: the kind and mode given are known, and the request is long enough for them. -/
def RequestRow.formKnown (row : RequestRow) (f : List Byte) : Bool :=
  match row with
  | .objectPut => (ObjKind.ofCode (u8At f 1)).any fun k => k.putLength ≤ f.length
  | .objectTextSetCursor => u8At f 1 == 0
  | .objectTextAppend => 3 + u8At f 2 ≤ f.length
  | _ => true

/-- R84 check 4: the row asks for a TEXT object. -/
def RequestRow.asksText : RequestRow → Bool
  | .objectTextSetCursor | .objectTextAppend => true
  | _ => false

/-- R84 check 5: the enumerated values given are known, and an APPEND's count is at most 16 (R80, R81, R90). -/
def RequestRow.valuesKnown (row : RequestRow) (f : List Byte) : Bool :=
  match row with
  | .objectPut => ((ObjKind.ofCode (u8At f 1)).bind fun k => k.anchorOf (u8At f 2)).isSome && (Blink.ofCode (u8At f 6)).isSome
  | .objectStyle => (Blink.ofCode (u8At f 2)).isSome
  | .objectTextAppend => u8At f 2 ≤ 16
  | _ => true

/-! ## The rules of a body of settings (R188) -/

/-- A yes/no byte (R204). -/
def Body.YesNo (b : Body) (n off : Nat) : Prop := b.u8 n off ≤ 1

/-- A one-byte number in its range. -/
def Body.Byte (b : Body) (n off lo hi : Nat) : Prop := lo ≤ b.u8 n off ∧ b.u8 n off ≤ hi

/-- A two-byte number in its range. -/
def Body.Word (b : Body) (n off : Nat) (lo hi : Int) : Prop := lo ≤ b.s16 n off ∧ b.s16 n off ≤ hi

/-- R79, R104, R186: the Links section. -/
structure Body.LinksKeep (b : Body) : Prop where
  idents : ∀ i j, i < 2 → j < 3 → 0 ≤ b.canId i j ∧ b.canId i j ≤ 0x7FF ∧ ∀ k, k < j → b.canId i k ≠ b.canId i j
  silence : b.Word 1 12 100 5000 ∧ b.Word 1 14 100 5000
  owners : ∀ l, 1 ≤ b.ownerTimeout l ∧ b.ownerTimeout l ≤ 30
  sectors : ∀ (l : Link) (h : Nat), h < 2 →
    b.u8 1 (22 + 2 * l.ix.val + h) < 6 ∨ b.u8 1 (22 + 2 * l.ix.val + h) = 255
  differ : ∀ (l : Link) s, b.sectorEntry l 0 = some s → b.sectorEntry l 1 ≠ some s

/-- R43: one camera of the Cameras section. -/
structure Body.CameraKeeps (b : Body) (c : Camera) : Prop where
  policy : b.YesNo 2 (19 * c.val)
  top : b.Word 2 (19 * c.val + 1) 0 472 ∧ b.s16 2 (19 * c.val + 1) % 8 = 0
  bottom : b.Word 2 (19 * c.val + 3) 7 479 ∧ (b.s16 2 (19 * c.val + 3) + 1) % 8 = 0 ∧
    b.s16 2 (19 * c.val + 1) ≤ b.s16 2 (19 * c.val + 3)
  target : b.Byte 2 (19 * c.val + 5) 16 235
  tolerance : b.Byte 2 (19 * c.val + 6) 0 64
  intervals : b.Byte 2 (19 * c.val + 7) 1 30 ∧ b.Byte 2 (19 * c.val + 8) 1 30
  gains : (b.camera c).gainFloor ≤ (b.camera c).initialGain ∧ (b.camera c).initialGain ≤ (b.camera c).gainCeiling ∧
    (b.camera c).gainCeiling ≤ 63
  fitted : b.YesNo 2 (19 * c.val + 12)
  duties : b.Byte 2 (19 * c.val + 13) 20 100 ∧ 5 ≤ (b.camera c).stopDuty ∧ (b.camera c).stopDuty ≤ (b.camera c).startDuty
  heater : b.Word 2 (19 * c.val + 16) (-40) 3 ∧ b.Byte 2 (19 * c.val + 18) 8 85

/-- R62: one camera of the Calibration section; only a calibrated one is examined further. -/
structure Body.CalibrationKeeps (b : Body) (c : Camera) : Prop where
  calibrated : b.YesNo 3 (80 * c.val)
  axis : b.u8 3 (80 * c.val) = 1 → b.YesNo 3 (80 * c.val + 1)
  origin : b.u8 3 (80 * c.val) = 1 → b.Word 3 (80 * c.val + 2) (-300) 2000 ∧ b.Word 3 (80 * c.val + 4) (-100) 1000
  signs : b.u8 3 (80 * c.val) = 1 → b.YesNo 3 (80 * c.val + 6) ∧ b.YesNo 3 (80 * c.val + 7)
  rungs : b.u8 3 (80 * c.val) = 1 → ∀ k, k < 9 →
    let g := (b.calibration c).rung k
    (0 ≤ g.depth ∧ g.depth ≤ 2000) ∧ (0 ≤ g.row ∧ g.row ≤ 479) ∧ (0 ≤ g.centre ∧ g.centre ≤ 799) ∧
      (0 ≤ g.scale ∧ g.scale ≤ 1000) ∧ (k ≠ 0 → ((b.calibration c).rung (k - 1)).depth < g.depth)

/-- R117: one zone of the Zones section. -/
structure Body.ZoneKeeps (b : Body) (z : Zone) : Prop where
  enabled : b.YesNo 4 (25 * z.val)
  columns : -300 ≤ (b.zone z).xMin ∧ (b.zone z).xMin ≤ (b.zone z).xMax ∧ (b.zone z).xMax ≤ 2000
  rows : -100 ≤ (b.zone z).yMin ∧ (b.zone z).yMin ≤ (b.zone z).yMax ∧ (b.zone z).yMax ≤ 1000
  dwell : b.Word 4 (25 * z.val + 16) 0 999
  hold : (b.zone z).holdTime ≤ 50
  chime : b.YesNo 4 (25 * z.val + 20)
  view : ∀ v, (b.zone z).preferredView = some v → v ≤ 7
  colours : (b.zone z).colourClear ≤ 15 ∧ (b.zone z).colourCaution ≤ 15 ∧ (b.zone z).colourWarning ≤ 15

/-- R139: pane k of a defined view v. -/
structure Body.PaneKeeps (b : Body) (v k : Nat) : Prop where
  camera : b.Byte 5 (44 * v + 2 + 14 * k) 0 3
  mode : b.YesNo 5 (44 * v + 3 + 14 * k)
  crop : let p := b.pane v k
    (0 ≤ p.cx ∧ p.cx ≤ 799) ∧ (0 ≤ p.cy ∧ p.cy ≤ 479)
  origin : let p := b.pane v k
    (0 ≤ p.px ∧ p.px ≤ 1279) ∧ (32 ≤ p.py ∧ p.py ≤ 479)
  size : let p := b.pane v k
    (1 ≤ p.w ∧ p.w ≤ 1280 ∧ p.px + p.w ≤ 1280) ∧ (1 ≤ p.h ∧ p.h ≤ 448 ∧ p.py + p.h ≤ 480)
  taken : let p := b.pane v k
    p.cx + (if p.half then 2 * p.w else p.w) ≤ 800 ∧ p.cy + (if p.half then 2 * p.h else p.h) ≤ 480
  alone : ∀ j, j < k → ∀ q : Px, ¬ ((b.pane v j).holds q = true ∧ (b.pane v k).holds q = true)

/-- R139: view v of the Views section; only a defined one is examined further. -/
structure Body.ViewKeeps (b : Body) (v : Nat) : Prop where
  isDefined : b.YesNo 5 (44 * v)
  count : b.viewDefined v = true → b.Byte 5 (44 * v + 1) 1 3
  panes : b.viewDefined v = true → ∀ k, k < b.u8 5 (44 * v + 1) → b.PaneKeeps v k

/-- R140: a view that a setting may name: one of the eight, and defined. -/
def Body.NamesView (b : Body) (v : Nat) : Prop := v ≤ 7 ∧ b.viewDefined v = true

/-- R140: one cause of the Causes section; only an enabled one is examined further, its serve time and pending life only in class
LATCHED, which is that of the sources ZONE_WARNING and LINK_REQUEST. -/
structure Body.CauseKeeps (b : Body) (i : Cause) : Prop where
  enabled : b.YesNo 6 (13 * i.val)
  source : (b.cause i).enabled = true → b.Byte 6 (13 * i.val + 1) 0 6
  view : (b.cause i).enabled = true → b.NamesView (b.cause i).view
  priority : (b.cause i).enabled = true → (b.cause i).priority ≤ 15
  cls : (b.cause i).enabled = true → b.YesNo 6 (13 * i.val + 5) ∧
    ((b.cause i).latched = true ↔ (b.cause i).source = .zoneWarning ∨ (b.cause i).source = .linkRequest)
  urgent : (b.cause i).enabled = true → b.YesNo 6 (13 * i.val + 6)
  speed : (b.cause i).enabled = true → b.Word 6 (13 * i.val + 7) 0 1200
  times : (b.cause i).enabled = true → (b.cause i).latched = true →
    b.Word 6 (13 * i.val + 9) 5 300 ∧ b.Word 6 (13 * i.val + 11) 5 600

/-- R166, Table 9-6: one strip position; one assigned to nothing is not examined further. -/
structure Body.StripKeeps (b : Body) (p : Nat) : Prop where
  kind : (b.strip p).kind ≤ 6
  icon : (b.strip p).kind ≠ 0 → (b.strip p).icon ≤ 63 ∧ (b.strip p).entry ≤ 15
  zone : (b.strip p).kind = 2 ∨ (b.strip p).kind = 3 → (b.strip p).target ≤ 7 ∨ (b.strip p).target = 255
  camera : (b.strip p).kind = 4 → (b.strip p).target ≤ 3 ∨ (b.strip p).target = 255

/-- The rules of section n (Table 12-5), each item's as its own chapter gives them. -/
def Body.SectionKeeps (b : Body) : Nat → Prop
  | 1 => b.LinksKeep
  | 2 => ∀ c, b.CameraKeeps c
  | 3 => ∀ c, b.CalibrationKeeps c
  | 4 => (∀ z, b.ZoneKeeps z) ∧ b.admissionFloor ≤ 100 ∧ b.countFloor ≤ 100
  | 5 => ∀ v, v < 8 → b.ViewKeeps v
  | 6 => (∀ i, b.CauseKeeps i) ∧ b.minShowTime ≤ 100 ∧ b.NamesView b.defaultView
  | 7 => (∀ e, e < 16 → b.paletteAlpha e ≤ 16) ∧ (∀ p, p < 32 → b.StripKeeps p) ∧ (5 ≤ b.chimeVolume ∧ b.chimeVolume ≤ 50) ∧
    ∀ i, i < 4 → b.markerColour i ≤ 15
  | 8 => (1 ≤ b.movingThreshold ∧ b.movingThreshold ≤ 200) ∧ b.offDelay ≤ 50
  | _ => True

/-! ## Calibration (R62) -/

/-- R62: a calibration record that the rules of the Calibration section let pass. -/
structure Calibration.Ok (k : Calibration) : Prop where
  rungs : k.rungs.length = 9
  row : ∀ i, i ≤ 8 → 0 ≤ (k.rung i).row ∧ (k.rung i).row ≤ 479
  centre : ∀ i, i ≤ 8 → 0 ≤ (k.rung i).centre ∧ (k.rung i).centre ≤ 799
  scale : ∀ i, i ≤ 8 → 0 ≤ (k.rung i).scale ∧ (k.rung i).scale ≤ 1000
  depth : ∀ i, i < 8 → (k.rung i).depth < (k.rung (i + 1)).depth

end Sys2Proof.Machine
end

