-- ==== Sys2Proof/Certificates/Slice0/Obligations.lean ====
section
/-! DEFINITION. The statements for the provers. A statement about a command ends in the next state that the rules give: which parts
it changes and to what, and that everything beside them is as before. -/

open Sys2Proof Sys2Proof.Machine

/-! ## The machine as a whole -/

/-- A step takes the command at the front of the queue and is `exec` of it on the state with the queue's rest; on an empty queue it
is one millisecond: the milliseconds since cold reset rise by one, every running timer falls by one and stands at 0 until its expiry
is taken, every track is one older up to 300, and nothing else changes; a stopped KS-4 keeps no time. The second part is the model's
choice (log 1, DESIGN CHOICE). -/
def Obligations.StepRunsFrontCommand : Prop :=
  (∀ (s : State) (c : Instr) (rest : List Instr), s.pending = c :: rest → step s = exec c (s.withPending rest)) ∧
  (∀ s : State, s.pending = [] → step s = .next s.idle) ∧
  (∀ s : State, s.pending = [] → s.phase = .stopped → step s = .next s) ∧
  ∀ s : State, s.pending = [] → s.phase ≠ .stopped →
    let down := fun x : Timer => x.map fun n => n - 1
    ∃ t, step s = .next t ∧ t.generator = { s.generator with millis := s.generator.millis + 1 } ∧
      (∀ c, t.recv c =
        { s.recv c with
          errorWindow := down (s.recv c).errorWindow, returnTimer := down (s.recv c).returnTimer
          silenceTimer := down (s.recv c).silenceTimer }) ∧
      (∀ c, t.reg c = { s.reg c with stopTimer := down (s.reg c).stopTimer }) ∧
      t.vehicle =
        { s.vehicle with
          chassisTimer := down s.vehicle.chassisTimer, bodyTimer := down s.vehicle.bodyTimer
          offDelay := down s.vehicle.offDelay } ∧
      (∀ p : Place, t.tracks.places[p] = (s.tracks.places[p]).map fun k => { k with age := min (k.age + 1) 300 }) ∧
      t.tracks.contacts = s.tracks.contacts ∧
      (∀ z, t.zoneRec z =
        { s.zoneRec z with dwellTimer := down (s.zoneRec z).dwellTimer, holdTimer := down (s.zoneRec z).holdTimer }) ∧
      t.alert = { s.alert with segmentTimer := down s.alert.segmentTimer } ∧
      (∀ i, t.causeRec i = { s.causeRec i with timer := down (s.causeRec i).timer }) ∧
      { t.arbiter with causes := s.arbiter.causes } = { s.arbiter with showTimer := down s.arbiter.showTimer } ∧
      (∀ l, t.ctl l = { s.ctl l with ownerTimer := down (s.ctl l).ownerTimer }) ∧
      t.settings = { s.settings with commit := down s.settings.commit, load := down s.settings.load } ∧
      t.supply = { s.supply with dip := down s.supply.dip, recovery := down s.supply.recovery } ∧
      { t with
        generator := s.generator, receivers := s.receivers, regulators := s.regulators, vehicle := s.vehicle, tracks := s.tracks
        zones := s.zones, alert := s.alert, arbiter := s.arbiter, links := s.links, settings := s.settings
        supply := s.supply } = s

/-- Every command answers a next state with the queue as it was, but a frame-start record that is to open a fill (R7, R8, R27) in a
camera without a FREE slot, which faults (log 8). -/
def Obligations.EveryCommandAnswersNext : Prop :=
  ∀ (i : Instr) (s : State),
    let Stuck := s.phase = .running ∧ ∃ (c : Camera) (packet : List Byte) (cycle a : Nat),
      i = .frameStartRecord c packet ∧ classify packet = .frameStart cycle ∧
      ((s.recv c).lock = .confirm ∨ (s.recv c).lock = .locked) ∧ (s.recv c).place = 484 ∧ (s.recv c).anchor = some a ∧
      cycle = (a + 1) % 16 ∧ (s.recv c).fill = none ∧ ∀ j, ((s.pict c).slot j).state ≠ .free
    (Stuck → exec i s = .fault .noFreeSlot) ∧ (¬ Stuck → ∃ t, exec i s = .next t ∧ t.pending = s.pending)

/-- While the settings load runs, and while the KS-4 is stopped, the commands of the blocks that have not started change nothing. The
rules say so of records, requests, ports and the stop (R25, R187, R190, R197); that expiries, reports and requests of blocks not
started change nothing is the model's choice (log 2, DESIGN CHOICE). -/
def Obligations.UnstartedBlocksTakeNothing : Prop :=
  ∀ (i : Instr) (s : State), s.phase ≠ .running → onlyRunning i = true → exec i s = .next s

/-- What the spec gives the machine right after a cold reset (R25, R41, R101, R137, R154, R187, R190, R196): values the log names
are not in it. -/
def Obligations.ResetLeavesSpecValues : Prop :=
  State.reset.phase = .loading ∧ State.reset.settings.load = some 150 ∧
  (∀ c, (State.reset.recv c).lock = .silent ∧ (State.reset.recv c).fill = none ∧ (State.reset.recv c).mode = .trial ∧
    (State.reset.recv c).trial = 0 ∧ (State.reset.recv c).anchor = none ∧ (State.reset.recv c).slips = 0 ∧
    (State.reset.recv c).errorWindow = none ∧ (State.reset.recv c).failures = 0 ∧ (State.reset.recv c).degraded = false ∧
    (State.reset.recv c).assembly = [] ∧ (State.reset.recv c).nextPos = 0 ∧ (State.reset.recv c).previous = none ∧
    (State.reset.recv c).accepted = none ∧ (State.reset.recv c).mismatches = 0 ∧ (State.reset.recv c).notFollowing = false ∧
    (State.reset.recv c).failedGroups = 0 ∧ (State.reset.recv c).returnTimer = none ∧ (State.reset.recv c).silenceTimer = none) ∧
  (∀ c i, ((State.reset.pict c).slot i).state = .free ∧ ((State.reset.pict c).slot i).holders = Holders.none) ∧
  (∀ c, (State.reset.pict c).latest = none ∧ (State.reset.pict c).age = 255 ∧ (State.reset.pict c).freshness = .lost) ∧
  (∀ i, State.reset.slot i = none) ∧
  (∀ l : Fin 3, State.reset.table.lit[l] = 0 ∧ State.reset.table.blink[l] = 0) ∧
  (State.reset.alert.started = false ∧ State.reset.alert.level = .off ∧ State.reset.alert.segment = none ∧
    State.reset.alert.hzWarn = false ∧ State.reset.alert.hzCaution = false) ∧
  (∀ l, (State.reset.ctl l).inbound = [] ∧ (State.reset.ctl l).outbound = []) ∧
  (State.reset.generator.counter = 0 ∧ State.reset.generator.millis = 0) ∧
  (State.reset.supply.state = .normal ∧ State.reset.supply.dip = none ∧ State.reset.supply.recovery = none)

/-- The invariants below hold right after a cold reset. -/
def Obligations.InvariantsHoldAtReset : Prop :=
  State.reset.QueuesOk ∧ State.reset.MemoryOk ∧ State.reset.PicturesOk ∧ State.reset.SlotsMapped ∧ State.reset.tracks.Ok ∧
    State.reset.ZonesOk ∧ State.reset.AlertOk ∧ State.reset.SettingsOk ∧ State.reset.RegulatorsOk

/-! ## Invariants that every step keeps -/

/-- R178, R181, R182: up to 16 requests, up to 12 messages, one notice per kind and subject, on every link. -/
def Obligations.QueuesStayBounded : Prop :=
  ∀ s t : State, s.QueuesOk → step s = .next t → t.QueuesOk

/-- Picture memory and settings memory keep their canonical form. -/
def Obligations.MemoryStaysCanonical : Prop :=
  ∀ s t : State, s.MemoryOk → step s = .next t → t.MemoryOk

/-- R26, R27: the slot states, holds and fills stay in order, and no step finds a camera without a FREE slot. -/
def Obligations.PictureSlotsStayInOrder : Prop :=
  ∀ s : State, s.PicturesOk → (∀ f, step s ≠ .fault f) ∧ ∀ t, step s = .next t → t.PicturesOk

/-- R78: every OCCUPIED slot stays mapped by its owner link's sector map. -/
def Obligations.OccupiedSlotsStayMapped : Prop :=
  ∀ s t : State, s.SlotsMapped → step s = .next t → t.SlotsMapped

/-- R112, Table 6-3: no two entries share a source link and track id, and every entry's fields lie in their ranges. -/
def Obligations.TracksStayDistinct : Prop :=
  ∀ s t : State, s.tracks.Ok → step s = .next t → t.tracks.Ok

/-- Tables 6-5, 6-6, 7-1: the zones' records stay in order, and the alert output unit's level and lines follow them. -/
def Obligations.ZonesAndAlertStayInOrder : Prop :=
  ∀ s t : State, s.ZonesOk → s.AlertOk → step s = .next t → t.ZonesOk ∧ t.AlertOk

/-- Table 11-3, R191, R194: the copies of the settings and the settings state stay as they are related. -/
def Obligations.SettingsStayInOrder : Prop :=
  ∀ s t : State, s.SettingsOk → s.MemoryOk → step s = .next t → t.SettingsOk

/-- R44: every gain stays within its floor and ceiling, every duty 0 or between its stop duty and 100 %, 0 where no illuminator is
fitted, and the stop timer runs only at the stop duty; and what is handed to the return word in CRANK is duty 0 and heater off. -/
def Obligations.RegulatorsStayWithinLimits : Prop :=
  (∀ s t : State, s.SettingsOk → s.RegulatorsOk → step s = .next t → t.RegulatorsOk) ∧
    ∀ g : Regulator, g.handedDuty .crank = 0 ∧ g.handedHeater .crank = false ∧ g.handedDuty .normal = g.duty ∧
      g.handedHeater .normal = g.heater

/-- R188, R203, R204: a body of settings survives its record: what the record of a body carries is that body, in 1341 bytes. A body is
valid exactly when every section keeps the rules its own chapter gives (R43, R62, R79, R104, R117, R133, R139, R140, R166, R186),
and a body that is not is answered with the first section that breaks one and, in it, the failing item of least offset; the spec's
own example is cause 4's view, item 55 of section 6. That an item is named by the order of offsets, and an overlap at the later
pane's first byte, is log 23 (DEDUCED). -/
def Obligations.SettingsRecordRoundTrip : Prop :=
  (∀ b : Body, b.wf = true → b.record.length = 1341 ∧ Body.ofRecord b.record = some b) ∧
  (∀ b : Body, b.firstFailure = none ↔ ∀ n, 1 ≤ n → n ≤ 8 → b.SectionKeeps n) ∧
  (∀ b : Body, b.valid = true ↔ ∀ n, 1 ≤ n → n ≤ 8 → b.SectionKeeps n) ∧
  (∀ (b : Body) (n item : Nat), b.firstFailure = some (n, item) →
    1 ≤ n ∧ n ≤ 8 ∧ item < sectionLength n ∧ (∀ m, 1 ≤ m → m < n → b.SectionKeeps m) ∧ ¬ b.SectionKeeps n ∧
    (item, false) ∈ sectionChecks b n ∧ ∀ k ∈ sectionChecks b n, k.2 = false → item ≤ k.1) ∧
  ∀ b : Body, (∀ n, 1 ≤ n → n ≤ 5 → b.SectionKeeps n) → (∀ i : Cause, i.val < 4 → b.CauseKeeps i) →
    (b.cause 4).enabled = true → b.u8 6 52 = 1 → b.u8 6 53 ≤ 6 → ¬ b.NamesView (b.cause 4).view →
    b.firstFailure = some (6, 55)

/-! ## Camera links, picture memory, exposure -/

/-- R8, with R27: a good frame-start in LOCKED. -/
def Obligations.GoodFrameStartOpensFill : Prop :=
  ∀ (s : State) (c : Camera) (packet : List Byte) (cycle a : Nat),
    s.phase = .running → s.PicturesOk → classify packet = .frameStart cycle → (s.recv c).lock = .locked →
    (s.recv c).anchor = some a → (s.recv c).place = 484 → cycle = (a + 1) % 16 →
    ∃ i t, exec (.frameStartRecord c packet) s = .next t ∧
      ((s.pict c).slot i).state = .free ∧ (∀ j < i, ((s.pict c).slot j).state ≠ .free) ∧
      (t.recv c).lock = .locked ∧ (t.recv c).anchor = some cycle ∧ (t.recv c).place = 0 ∧ (t.recv c).slips = 0 ∧
      (t.recv c).fill = some { slot := i, cycle := cycle, faulted := [], failed := 0, judged := false } ∧
      (t.pict c).slot i =
        { (s.pict c).slot i with
          state := .filling, groups := Vector.replicate 60 .good, figures := Vector.replicate 60 ⟨0, 0⟩ } ∧
      (∀ j, j ≠ i → (t.pict c).slot j = (s.pict c).slot j) ∧
      (t.pict c).latest = (s.pict c).latest ∧ (t.pict c).age = (s.pict c).age ∧
      (t.pict c).freshness = (s.pict c).freshness ∧ t.reg c = s.reg c ∧ s.OtherCameras t c ∧
      t.besideCameras = s.besideCameras

/-- R9 and R10: a slipped frame-start and a missing one, with what they leave of the fill that was open and of the status cycle that
was being assembled (R20). Then the frame lock outside LOCKED with an anchor: the first record in SILENT (R5, R23); what SEARCH
takes and discards (R6); what CONFIRM counts, its proving frame-start, one that does not prove, and place 485 (R7, R27); and what
LOCKED without an anchor counts, and its re-anchor (R10). -/
def Obligations.FrameSlipsAbandonTheFill : Prop :=
  ((∀ (s : State) (c : Camera) (packet : List Byte) (cycle a : Nat),
    s.phase = .running → s.PicturesOk → classify packet = .frameStart cycle → (s.recv c).lock = .locked →
    (s.recv c).anchor = some a → ((s.recv c).place ≠ 484 ∨ cycle ≠ (a + 1) % 16) →
    ∃ t, exec (.frameStartRecord c packet) s = .next t ∧ (t.recv c).fill = none ∧ (t.recv c).anchor = some cycle ∧
      (t.recv c).place = 0 ∧
      ((s.recv c).slips + 1 < 3 → (t.recv c).lock = .locked ∧ (t.recv c).slips = (s.recv c).slips + 1) ∧
      (3 ≤ (s.recv c).slips + 1 →
        (t.recv c).lock = .confirm ∧ (t.recv c).slips = 0 ∧ (t.recv c).mode = .trial ∧ (t.recv c).trial = 0) ∧
      (∀ f, (s.recv c).fill = some f → ((t.pict c).slot f.slot).state = .free) ∧
      (∀ j, (s.recv c).fillSlot ≠ some j → (t.pict c).slot j = (s.pict c).slot j) ∧
      (t.pict c).latest = (s.pict c).latest ∧ (t.pict c).age = (s.pict c).age ∧ t.reg c = s.reg c ∧ s.OtherCameras t c ∧
      t.besideCameras = s.besideCameras) ∧
  ∀ (s : State) (i : Instr) (c : Camera) (k : RowRecord),
    rowRecordOf i = some (c, k) → s.phase = .running → s.PicturesOk → (s.recv c).lock = .locked → (s.recv c).place = 484 →
    ∃ t, exec i s = .next t ∧ (t.recv c).fill = none ∧ (t.recv c).anchor = none ∧
      ((s.recv c).slips + 1 < 3 →
        (t.recv c).lock = .locked ∧ (t.recv c).slips = (s.recv c).slips + 1 ∧ (t.recv c).place = 1) ∧
      (3 ≤ (s.recv c).slips + 1 → (t.recv c).lock = .search ∧ (t.recv c).slips = 0 ∧ (t.recv c).mode = .trial) ∧
      (t.pict c).latest = (s.pict c).latest ∧ (t.pict c).age = (s.pict c).age ∧ t.reg c = s.reg c ∧ s.OtherCameras t c ∧
      t.besideCameras = s.besideCameras) ∧
  (∀ (s : State) (i : Instr) (c : Camera) (k : RowRecord), rowRecordOf i = some (c, k) → s.phase = .running →
    let r := s.recv c
    (r.lock = .silent →
      ∃ t w, exec i s = .next t ∧ s.OnlyReceiver t c ∧
        t.recv c =
          { r with
            lock := .search, place := 0, anchor := none, mode := .trial, trial := 0, silenceTimer := some 100
            returnTimer := some 33, lastWord := some w } ∧
        w.length = 5 ∧ (byteAt w 0).extractLsb' 0 2 = 1 ∧ (byteAt w 0).getLsbD 7 = true) ∧
    (r.lock = .search →
      ∃ t, exec i s = .next t ∧ s.OnlyReceiver t c ∧ t.recv c = { r with silenceTimer := some 100 }) ∧
    (r.lock = .confirm → r.place < 484 →
      ∃ t, exec i s = .next t ∧ s.OnlyReceiver t c ∧
        t.recv c = { r with place := r.place + 1, silenceTimer := some 100 }) ∧
    (r.lock = .confirm → r.place = 484 →
      ∃ t, exec i s = .next t ∧ s.OnlyReceiver t c ∧
        t.recv c =
          { r with lock := .search, place := 0, anchor := none, mode := .trial, trial := 0, silenceTimer := some 100 }) ∧
    (r.lock = .locked → r.anchor = none → r.place < 484 →
      ∃ t, exec i s = .next t ∧ s.OnlyReceiver t c ∧
        t.recv c = { r with place := r.place + 1, silenceTimer := some 100 })) ∧
  (∀ (s : State) (c : Camera) (packet : List Byte) (cycle : Nat), s.phase = .running →
    classify packet = .frameStart cycle →
    let r := s.recv c
    let proves := r.place = 484 ∧ ∃ a, r.anchor = some a ∧ cycle = (a + 1) % 16
    (r.lock = .silent →
      ∃ t w, exec (.frameStartRecord c packet) s = .next t ∧ s.OnlyReceiver t c ∧
        t.recv c =
          { r with
            lock := .confirm, place := 0, anchor := some cycle, mode := .trial, trial := 0, silenceTimer := some 100
            returnTimer := some 33, lastWord := some w }) ∧
    (r.lock = .search →
      ∃ t, exec (.frameStartRecord c packet) s = .next t ∧ s.OnlyReceiver t c ∧
        t.recv c = { r with lock := .confirm, place := 0, anchor := some cycle, silenceTimer := some 100 }) ∧
    (r.lock = .confirm → ¬ proves →
      ∃ t, exec (.frameStartRecord c packet) s = .next t ∧ s.OnlyReceiver t c ∧
        t.recv c =
          { r with place := 0, anchor := some cycle, mode := .trial, trial := 0, silenceTimer := some 100 }) ∧
    (r.lock = .confirm → proves → s.PicturesOk →
      ∃ i t, exec (.frameStartRecord c packet) s = .next t ∧
        ((s.pict c).slot i).state = .free ∧ (∀ j < i, ((s.pict c).slot j).state ≠ .free) ∧
        t.recv c =
          { (if cycle = r.nextPos then r else { r with assembly := [], nextPos := 0, previous := none }) with
            lock := .locked, place := 0, anchor := some cycle, slips := 0, errorWindow := some 1000, failures := 0
            silenceTimer := some 100
            fill := some { slot := i, cycle := cycle, faulted := [], failed := 0, judged := false } } ∧
        (t.pict c).slot i =
          { (s.pict c).slot i with
            state := .filling, groups := Vector.replicate 60 .good, figures := Vector.replicate 60 ⟨0, 0⟩ } ∧
        (∀ j, j ≠ i → (t.pict c).slot j = (s.pict c).slot j) ∧ (t.pict c).latest = (s.pict c).latest ∧
        (t.pict c).age = (s.pict c).age ∧ t.reg c = s.reg c ∧ s.OtherCameras t c ∧ t.besideCameras = s.besideCameras) ∧
    (r.lock = .locked → r.anchor = none →
      ∃ t, exec (.frameStartRecord c packet) s = .next t ∧ s.OnlyReceiver t c ∧
        t.recv c = { r with place := 0, anchor := some cycle, silenceTimer := some 100 })) ∧
  ∀ (s t : State) (i : Instr) (c : Camera), s.phase = .running → s.PicturesOk → (s.recv c).lock = .locked →
    ((∃ packet cycle a, i = .frameStartRecord c packet ∧ classify packet = .frameStart cycle ∧ (s.recv c).anchor = some a ∧
        ((s.recv c).place ≠ 484 ∨ cycle ≠ (a + 1) % 16)) ∨
      ∃ k, rowRecordOf i = some (c, k) ∧ (s.recv c).place = 484) →
    exec i s = .next t → (∃ f, (s.recv c).fill = some f ∧ f.judged = false) ∨ (s.recv c).assembly ≠ [] →
    (t.recv c).assembly = [] ∧ (t.recv c).nextPos = 0 ∧ (t.recv c).previous = none

/-- R2: a line or blanking record in the line place of row r. A concealment copy still in flight when a verdict falls due has
finished (R18; that the record's step finishes it is log 7, DESIGN CHOICE); at any other row the copy runs on. With a fill open, row r
of the filling slot becomes the bytes the record supplies and 128 for the rest, every other byte of every slot stays, a sequence fault
marks the row's group, the 800 Y samples of the row join its group's luma sum and glare count (R28), and in CHECKED mode the
trailer's check byte judges group r/8 − 1; with no fill open the record is counted and the pictures stay. -/
def Obligations.LinePlaceRecordWritesItsRow : Prop :=
  ∀ (s : State) (i : Instr) (c : Camera) (k : RowRecord) (r : Nat),
    rowRecordOf i = some (c, k) → s.phase = .running → s.PicturesOk → s.MemoryOk → (s.recv c).lock = .locked →
    (s.recv c).anchor.isSome = true → (s.recv c).place = r → r < 480 →
    let luma := fun j => (((if k.isLine then k.body.dropLast else []).getD (2 * j + 1) 128 : Byte)).toNat
    let p := if r % 8 = 0 ∧ 8 ≤ r then (s.pict c).finishCopy else s.pict c
    ∃ t, exec i s = .next t ∧ (t.recv c).place = r + 1 ∧ s.OtherCameras t c ∧ t.reg c = s.reg c ∧
      t.besideCameras = s.besideCameras ∧
      ((s.recv c).fill = none → (t.recv c).fill = none ∧ t.pict c = s.pict c) ∧
      ∀ f, (s.recv c).fill = some f →
        (∀ a, Memory.read Config.blankPixel ((t.pict c).slot f.slot).pixels a =
          if 1600 * r ≤ a ∧ a < 1600 * (r + 1) then
            (if k.isLine then k.body.dropLast else []).getD (a - 1600 * r) 128
          else Memory.read Config.blankPixel (p.slot f.slot).pixels a) ∧
        (∀ j, j ≠ f.slot → ((t.pict c).slot j).pixels = (p.slot j).pixels ∧
          ((t.pict c).slot j).state = (p.slot j).state) ∧
        (¬ (r % 8 = 0 ∧ 8 ≤ r) → (t.pict c).copy = (s.pict c).copy) ∧
        (∀ g : Fin 60, ((t.pict c).slot f.slot).figures[g] =
          if g.val = r / 8 then
            { luma := ((p.slot f.slot).figures[g]).luma + ((List.range 800).map luma).sum
              glare := ((p.slot f.slot).figures[g]).glare + (List.range 800).countP fun j => 248 ≤ luma j }
          else (p.slot f.slot).figures[g]) ∧
        ∃ f', (t.recv c).fill = some f' ∧ f'.slot = f.slot ∧
          f'.faulted = (if k.row ≠ r ∨ k.isLine = false ∨ k.body.length < 1601 then (r / 8) :: f.faulted else f.faulted) ∧
          ((s.recv c).mode = .checked →
            f'.failed =
              if r % 8 = 0 ∧ 8 ≤ r ∧
                (f.faulted.contains (r / 8 - 1) = true ∨ crc8 ((p.slot f.slot).group (r / 8 - 1)) ≠ k.check)
              then f.failed + 1 else f.failed)

/-- R14, R15, R18, R31: the verdict on group g with the record in place 8(g + 1) + 1; a copy still in flight has finished (R18; that
the record's step finishes it is log 7, DESIGN CHOICE). A failing group in CHECKED mode is counted, marked CONCEALED, and a copy starts
that holds LATEST; any other verdict leaves the group map as it was, and a passing group ends the trial. -/
def Obligations.VerdictJudgesTheGroup : Prop :=
  ∀ (s : State) (i : Instr) (c : Camera) (k : RowRecord) (g : Fin 59) (f : Fill),
    rowRecordOf i = some (c, k) → s.phase = .running → s.PicturesOk → s.MemoryOk → (s.recv c).lock = .locked →
    (s.recv c).anchor.isSome = true → (s.recv c).place = 8 * (g.val + 1) → (s.recv c).fill = some f →
    let p := (s.pict c).finishCopy
    let pass := !f.faulted.contains g.val && crc8 ((p.slot f.slot).group g.val) == k.check
    ∃ t, exec i s = .next t ∧ t.besideCameras = s.besideCameras ∧ s.OtherCameras t c ∧
      (pass = false → (s.recv c).mode = .checked →
        (t.recv c).mode = .checked ∧ (t.recv c).failures = (s.recv c).failures + 1 ∧
        ((t.pict c).slot f.slot).groups[g] = .concealed ∧
        (t.pict c).copy = some { group := g.val, source := (s.pict c).latest, target := some f.slot } ∧
        ∀ j, ((t.pict c).slot j).holders.copy = true ↔ (s.pict c).latest = some j) ∧
      (pass = true ∨ (s.recv c).mode ≠ .checked →
        (t.recv c).mode = (if pass = true ∧ (s.recv c).mode = .trial then .checked else (s.recv c).mode) ∧
        (t.recv c).failures = (s.recv c).failures ∧
        ((t.pict c).slot f.slot).groups = (p.slot f.slot).groups ∧ (t.pict c).copy = none)

/-- R19, R29, R45: the record in place 481; a copy still in flight has finished (R18; that the record's step finishes it is log 7,
DESIGN CHOICE). When the record's own verdict asks for no copy, the fill ends: abandoned
under REQUIRED still in TRIAL, or with all 60 groups FAILED; else completed, and the regulator meters the frame. R12, R18, R31: a
failing verdict on group 59 in CHECKED mode is counted, its copy starts, and the fill stays open, judged. R17, R20, R21, R22, R53:
the status slot byte of that record joins the assembly, or completes the cycle, whose record is accepted when it equals the one
before; the commanded gain it is compared with, and the mode it may set, are those after the fill's end (log 9, DESIGN CHOICE). -/
def Obligations.LastVerdictSettlesTheFill : Prop :=
  (∀ (s : State) (i : Instr) (c : Camera) (k : RowRecord) (f : Fill),
    rowRecordOf i = some (c, k) → s.phase = .running → s.PicturesOk → (s.recv c).lock = .locked →
    (s.recv c).anchor.isSome = true → (s.recv c).place = 480 → (s.recv c).fill = some f →
    let p := (s.pict c).finishCopy
    let fault := k.isLine = true ∨ k.row ≠ 480
    let pass := ¬ fault ∧ f.faulted.contains 59 = false ∧ crc8 ((p.slot f.slot).group 59) = k.check
    ((s.recv c).mode = .checked → pass) →
    ∃ t, exec i s = .next t ∧ (t.recv c).place = 481 ∧ (t.recv c).fill = none ∧ (t.recv c).failedGroups = f.failed ∧
      t.besideCameras = s.besideCameras ∧ s.OtherCameras t c ∧
      (((s.body.camera c).required = true ∧ (s.recv c).mode = .trial ∧ ¬ pass) ∨ f.failed = 60 →
        ((t.pict c).slot f.slot).state = .free ∧ (∀ j, j ≠ f.slot → (t.pict c).slot j = p.slot j) ∧
        (t.pict c).latest = (s.pict c).latest ∧ (t.pict c).age = (s.pict c).age ∧
        (t.pict c).freshness = (s.pict c).freshness ∧
        { t.reg c with heater := false } = { s.reg c with heater := false }) ∧
      (¬ (((s.body.camera c).required = true ∧ (s.recv c).mode = .trial ∧ ¬ pass) ∨ f.failed = 60) →
        (t.pict c).slot f.slot = { p.slot f.slot with state := .latest } ∧ (t.pict c).latest = some f.slot ∧
        (t.pict c).age = 0 ∧ (t.pict c).freshness = .fresh ∧
        (∀ j, (s.pict c).latest = some j →
          (t.pict c).slot j =
            { p.slot j with state := if (p.slot j).holders = Holders.none then .free else .superseded }) ∧
        (∀ j, j ≠ f.slot → (s.pict c).latest ≠ some j → (t.pict c).slot j = p.slot j) ∧
        { t.reg c with heater := false } =
          { (s.reg c).takeFrame (s.body.camera c) s.supply.state (p.slot f.slot).groups (p.slot f.slot).figures with
            heater := false })) ∧
  (∀ (s : State) (i : Instr) (c : Camera) (k : RowRecord) (f : Fill),
    rowRecordOf i = some (c, k) → s.phase = .running → s.PicturesOk → (s.recv c).lock = .locked →
    (s.recv c).anchor.isSome = true → (s.recv c).place = 480 → (s.recv c).fill = some f → (s.recv c).mode = .checked →
    let p := (s.pict c).finishCopy
    let fault := k.isLine = true ∨ k.row ≠ 480
    (fault ∨ f.faulted.contains 59 = true ∨ crc8 ((p.slot f.slot).group 59) ≠ k.check) →
    ∃ t f', exec i s = .next t ∧ (t.recv c).place = 481 ∧ (t.recv c).failures = (s.recv c).failures + 1 ∧
      (t.recv c).fill = some f' ∧ f'.slot = f.slot ∧ f'.cycle = f.cycle ∧ f'.judged = true ∧ f'.failed = f.failed + 1 ∧
      (t.recv c).failedGroups = (s.recv c).failedGroups ∧
      (t.pict c).copy = some { group := 59, source := (s.pict c).latest, target := some f.slot } ∧
      (∀ j, ((t.pict c).slot j).holders.copy = true ↔ (s.pict c).latest = some j) ∧
      ((t.pict c).slot f.slot).state = .filling ∧
      (∀ g : Fin 60, ((t.pict c).slot f.slot).groups[g] =
        if g = 59 then .concealed else (p.slot f.slot).groups[g]) ∧
      (∀ j, ((t.pict c).slot j).pixels = (p.slot j).pixels) ∧ (t.pict c).latest = (s.pict c).latest ∧
      (t.pict c).age = (s.pict c).age ∧ (t.pict c).freshness = (s.pict c).freshness ∧
      { t.reg c with heater := false } = { s.reg c with heater := false } ∧ t.besideCameras = s.besideCameras ∧
      s.OtherCameras t c) ∧
  ∀ (s : State) (i : Instr) (c : Camera) (k : RowRecord) (f : Fill),
    rowRecordOf i = some (c, k) → s.phase = .running → s.PicturesOk → (s.recv c).lock = .locked →
    (s.recv c).anchor.isSome = true → (s.recv c).place = 480 → (s.recv c).fill = some f →
    let r := s.recv c
    let bytes := r.assembly ++ [(if k.isLine then k.body.dropLast else k.body).getLastD 0]
    let Same := fun q : Receiver => q.accepted = r.accepted ∧ q.mismatches = r.mismatches ∧ q.notFollowing = r.notFollowing
    let outside := (byteAt bytes 2).toInt < -40 ∨ 85 < (byteAt bytes 2).toInt ∨ 63 < u8At bytes 3 ∨ 100 < u8At bytes 4
    let record : StatusRecord :=
      { kind := u8At bytes 0 % 16, checksSent := (byteAt bytes 1).getLsbD 0, temperature := (byteAt bytes 2).toInt
        misted := (byteAt bytes 1).getLsbD 1, heaterRunning := (byteAt bytes 1).getLsbD 2
        sensorFault := (byteAt bytes 1).getLsbD 3, gain := u8At bytes 3, duty := u8At bytes 4 }
    ∃ t q, exec i s = .next t ∧ t.recv c = q ∧
      (f.cycle ≠ r.nextPos →
        q.assembly = r.assembly ∧ q.nextPos = r.nextPos ∧ q.previous = r.previous ∧ Same q) ∧
      (f.cycle = r.nextPos → r.nextPos ≠ 15 →
        q.assembly = bytes ∧ q.nextPos = r.nextPos + 1 ∧ q.previous = r.previous ∧ Same q) ∧
      (f.cycle = r.nextPos → r.nextPos = 15 → outside →
        q.assembly = [] ∧ q.nextPos = 0 ∧ q.previous = none ∧ Same q) ∧
      (f.cycle = r.nextPos → r.nextPos = 15 → ¬ outside →
        q.assembly = [] ∧ q.nextPos = 0 ∧ q.previous = some bytes ∧
        (r.previous ≠ some bytes → Same q) ∧
        (r.previous = some bytes →
          q.accepted = some record ∧
          (record.checksSent = false → (s.body.camera c).required = false → q.mode = .unchecked) ∧
          (record.gain = (t.reg c).gain → q.mismatches = 0 ∧ q.notFollowing = false) ∧
          (record.gain ≠ (t.reg c).gain →
            q.mismatches = min (r.mismatches + 1) 3 ∧
            (q.notFollowing = true ↔ r.notFollowing = true ∨ 2 ≤ r.mismatches)) ∧
          (r.accepted ≠ some record →
            (t.reg c).heater =
              (record.misted || decide (record.temperature ≤ (s.body.camera c).heaterOn) ||
                (decide (record.temperature < (s.body.camera c).heaterOff) && (s.reg c).heater)))))

/-- R31 to R33: a concealment copy finishes. Its eight rows stand in its target as in its source, or grey where it has none; its
hold is gone, and a SUPERSEDED source that nothing else holds is FREE. R15, R16, R18, R19, R29, R30: the finish of the copy that a
judged fill waited for, reported or by the record in place 482, ends that fill. That the rows land at the finish is the model's
choice (log 7). -/
def Obligations.CopyFinishLandsItsRows : Prop :=
  (∀ (s : State) (c : Camera) (k : Copy),
    s.phase = .running → s.PicturesOk → s.MemoryOk → (s.pict c).copy = some k →
    ∃ t, exec (.concealmentCopyFinish c) s = .next t ∧ (t.pict c).copy = none ∧
      (∀ i a, Memory.read Config.blankPixel ((t.pict c).slot i).pixels a =
        if k.target = some i ∧ 12800 * k.group ≤ a ∧ a < 12800 * (k.group + 1) then
          match k.source with
          | some j => Memory.read Config.blankPixel ((s.pict c).slot j).pixels a
          | none => 128
        else Memory.read Config.blankPixel ((s.pict c).slot i).pixels a) ∧
      (∀ i, ((t.pict c).slot i).holders = { (s.pict c).slot i |>.holders with copy := false }) ∧
      (∀ j, k.source = some j → ((s.pict c).slot j).state = .superseded →
        ((s.pict c).slot j).holders = { monitor := false, recorder := false, copy := true } →
        ((t.pict c).slot j).state = .free) ∧
      t.besideCameras = s.besideCameras ∧ s.OtherCameras t c) ∧
  ∀ (s : State) (i : Instr) (c : Camera) (f : Fill),
    s.phase = .running → s.PicturesOk → (s.recv c).fill = some f → f.judged = true →
    (i = .concealmentCopyFinish c ∨ ∃ k, rowRecordOf i = some (c, k)) →
    let trial := (s.recv c).mode = .trial
    let required := (s.body.camera c).required
    ∃ t, exec i s = .next t ∧ (t.recv c).fill = none ∧ (t.recv c).failedGroups = f.failed ∧ (t.pict c).copy = none ∧
      (t.recv c).trial = (if trial then (s.recv c).trial + 1 else (s.recv c).trial) ∧
      (t.recv c).mode =
        (if trial ∧ (s.recv c).trial = 15 then (if required then .checked else .unchecked) else (s.recv c).mode) ∧
      t.besideCameras = s.besideCameras ∧ s.OtherCameras t c ∧
      ((required = true ∧ trial) ∨ f.failed = 60 →
        ((t.pict c).slot f.slot).state = .free ∧ (t.pict c).latest = (s.pict c).latest ∧
        (t.pict c).age = (s.pict c).age ∧ (t.pict c).freshness = (s.pict c).freshness ∧ t.reg c = s.reg c) ∧
      (¬ ((required = true ∧ trial) ∨ f.failed = 60) →
        ((t.pict c).slot f.slot).state = .latest ∧
        ((t.pict c).slot f.slot).groups = ((s.pict c).slot f.slot).groups ∧
        ((t.pict c).slot f.slot).figures = ((s.pict c).slot f.slot).figures ∧
        (t.pict c).latest = some f.slot ∧ (t.pict c).age = 0 ∧ (t.pict c).freshness = .fresh ∧
        (∀ j, (s.pict c).latest = some j →
          ((t.pict c).slot j).state =
            if ((s.pict c).slot j).holders.monitor = true ∨ ((s.pict c).slot j).holders.recorder = true then .superseded
            else .free) ∧
        t.reg c =
          (s.reg c).takeFrame (s.body.camera c) s.supply.state ((s.pict c).slot f.slot).groups
            ((s.pict c).slot f.slot).figures)

/-- R4, R11, R53: the silence timer expires. -/
def Obligations.SilenceExpiryEntersSilent : Prop :=
  ∀ (s : State) (c : Camera), s.phase = .running → (s.recv c).silenceTimer ≠ none →
    ∃ t, exec (.silenceTimerExpiry c) s = .next t ∧
      (t.recv c).lock = .silent ∧ (t.recv c).fill = none ∧ (t.recv c).accepted = none ∧ (t.recv c).mismatches = 0 ∧
      (t.recv c).notFollowing = false ∧ (t.recv c).returnTimer = none ∧ (t.recv c).silenceTimer = none ∧
      (t.recv c).errorWindow = none ∧ (t.recv c).failures = 0 ∧ (t.recv c).degraded = false ∧ (t.recv c).slips = 0 ∧
      (t.recv c).anchor = none ∧ (t.recv c).assembly = [] ∧ (t.recv c).nextPos = 0 ∧ (t.recv c).previous = none ∧
      (t.recv c).failedGroups = 0 ∧ t.reg c = { s.reg c with heater := false } ∧
      (∀ f, (s.recv c).fill = some f → ((t.pict c).slot f.slot).state = .free) ∧
      (∀ j, (s.recv c).fillSlot ≠ some j → (t.pict c).slot j = (s.pict c).slot j) ∧
      (t.pict c).latest = (s.pict c).latest ∧ (t.pict c).age = (s.pict c).age ∧
      (t.pict c).freshness = (s.pict c).freshness ∧ t.besideCameras = s.besideCameras ∧ s.OtherCameras t c

/-- R13, R11, R6: an error window ends. -/
def Obligations.ErrorWindowEndJudgesFailures : Prop :=
  ∀ (s : State) (c : Camera), s.phase = .running → (s.recv c).errorWindow ≠ none →
    ∃ t, exec (.errorWindowEnd c) s = .next t ∧ t.reg c = s.reg c ∧ t.besideCameras = s.besideCameras ∧ s.OtherCameras t c ∧
      ((s.recv c).failures ≤ 1500 →
        t.recv c =
          { s.recv c with degraded := decide (60 < (s.recv c).failures), failures := 0, errorWindow := some 1000 } ∧
        t.pict c = s.pict c) ∧
      (1500 < (s.recv c).failures →
        (t.recv c).lock = .search ∧ (t.recv c).fill = none ∧ (t.recv c).errorWindow = none ∧ (t.recv c).failures = 0 ∧
        (t.recv c).degraded = false ∧ (t.recv c).slips = 0 ∧ (t.recv c).anchor = none ∧ (t.recv c).assembly = [] ∧
        (t.recv c).nextPos = 0 ∧ (t.recv c).previous = none ∧ (t.recv c).failedGroups = 0 ∧ (t.recv c).mode = .trial ∧
        (t.recv c).trial = 0 ∧ (t.recv c).accepted = (s.recv c).accepted ∧
        (∀ f, (s.recv c).fill = some f → ((t.pict c).slot f.slot).state = .free) ∧
        (∀ j, (s.recv c).fillSlot ≠ some j → (t.pict c).slot j = (s.pict c).slot j) ∧
        (t.pict c).latest = (s.pict c).latest ∧ (t.pict c).age = (s.pict c).age)

/-- R23, R200 and R50: the return timer's expiry sends a word made up of the state as it stands; the stop timer's expiry makes the
duty 0 and leaves the streaks. R45 to R49, R55: a completed frame is metered over the GOOD groups of the window, which begins at a
multiple of 8 (R43), classified against the band, and the step that falls due is carried out; in CRANK it is read and no more. -/
def Obligations.ReturnAndStopTimersExpire : Prop :=
  ((∀ (s : State) (c : Camera), s.phase = .running → (s.recv c).returnTimer ≠ none →
    ∃ t b0, exec (.returnTimerExpiry c) s = .next t ∧
      (let front :=
        [b0, byte (s.recv c).failedGroups, byte (s.reg c).gain,
          byte (if s.supply.state = .crank then 0 else (s.reg c).duty)]
       t.recv c = { s.recv c with lastWord := some (front ++ [crc8 front]), returnTimer := some 33 }) ∧
      b0.extractLsb' 0 2 = BitVec.ofNat 2 (s.recv c).lock.code ∧ b0.extractLsb' 2 4 = 0 ∧
      b0.getLsbD 6 = (decide (s.supply.state = .normal) && (s.reg c).heater) ∧
      b0.getLsbD 7 = decide ((s.recv c).lock = .search ∨ (s.recv c).lock = .confirm) ∧
      t.pict c = s.pict c ∧ t.reg c = s.reg c ∧ t.besideCameras = s.besideCameras ∧ s.OtherCameras t c) ∧
  ∀ (s : State) (c : Camera), s.phase = .running → (s.reg c).stopTimer ≠ none →
    ∃ t, exec (.stopTimerExpiry c) s = .next t ∧ t.reg c = { s.reg c with duty := 0, stopTimer := none } ∧
      t.recv c = s.recv c ∧ t.pict c = s.pict c ∧ t.besideCameras = s.besideCameras ∧ s.OtherCameras t c) ∧
  ∀ (cfg : CameraSettings) (supply : SupplyState) (groups : Vector GroupMark 60) (figures : Vector Figures 60) (g : Regulator),
    cfg.rTop % 8 = 0 →
    let used := (List.finRange 60).filter fun i =>
      decide (cfg.rTop ≤ 8 * i.val ∧ 8 * i.val + 7 ≤ cfg.rBot ∧ groups[i] = .good)
    let n := 6400 * used.length
    let mean := ((used.map fun i => figures[i].luma).sum + n / 2) / n
    let glare := n / 16 < (used.map fun i => figures[i].glare).sum
    let u := g.takeFrame cfg supply groups figures
    let read : Regulator := { g with reading := some { mean := mean, glare := decide glare }, low := 0, high := 0 }
    let low := ¬ glare ∧ mean + cfg.tolerance < cfg.target
    let high := ¬ glare ∧ cfg.target + cfg.tolerance < mean
    let up := low ∧ cfg.upInterval ≤ g.low + 1
    let down := glare ∨ (high ∧ cfg.downInterval ≤ g.high + 1)
    (used = [] → u = g) ∧
    (used ≠ [] → supply = .crank → u = read) ∧
    (used ≠ [] → supply = .normal →
      (¬ glare → ¬ low → ¬ high → u = read) ∧
      (low → ¬ up → u = { read with low := g.low + 1 }) ∧
      (high → ¬ down → u = { read with high := g.high + 1 }) ∧
      (up →
        (g.gain < cfg.gainCeiling → u = { read with stopTimer := none, gain := g.gain + 1 }) ∧
        (cfg.gainCeiling ≤ g.gain → cfg.fitted = true → g.duty = 0 →
          u = { read with stopTimer := none, duty := cfg.startDuty }) ∧
        (cfg.gainCeiling ≤ g.gain → 1 ≤ g.duty → g.duty ≤ 99 →
          u = { read with stopTimer := none, duty := min (g.duty + 5) 100 }) ∧
        (cfg.gainCeiling ≤ g.gain → (cfg.fitted = false ∧ g.duty = 0) ∨ 100 ≤ g.duty → u = { read with stopTimer := none })) ∧
      (down → 5 ≤ cfg.stopDuty →
        (cfg.stopDuty < g.duty → u = { read with duty := max (g.duty - 5) cfg.stopDuty }) ∧
        (g.duty = cfg.stopDuty → g.stopTimer = none → cfg.stopTime ≠ 0 →
          u = { read with stopTimer := some (100 * cfg.stopTime) }) ∧
        (g.duty = cfg.stopDuty → g.stopTimer = none → cfg.stopTime = 0 → u = { read with duty := 0 }) ∧
        (g.duty ≤ cfg.stopDuty → g.stopTimer ≠ none → u = read) ∧
        (g.duty = 0 → g.stopTimer = none → cfg.gainFloor < g.gain → u = { read with gain := g.gain - 1 }) ∧
        (g.duty = 0 → g.stopTimer = none → g.gain ≤ cfg.gainFloor → u = read)))

/-- R34 to R37, R93, R155: an output frame starts in the running phase; R170: during the settings load it is a STARTING frame. -/
def Obligations.FrameStartJudgesAndSnapshots : Prop :=
  (∀ s : State, s.phase = .loading →
    exec .outputFrameStart s =
      .next
        { s with
          frame := some
            { number := s.generator.counter, millis := s.generator.millis, body := .starting s.supply.state
              blackFrom := none } }) ∧
  ∀ s : State, s.phase = .running → s.PicturesOk →
    ∃ t k, exec .outputFrameStart s = .next t ∧
      (∀ c, (t.pict c).freshness =
          (if (s.pict c).latest = none ∨ 60 ≤ (s.pict c).age then .lost else if (s.pict c).age ≤ 3 then .fresh else .stale) ∧
        (t.pict c).shownAge = (s.pict c).age ∧ (t.pict c).age = min ((s.pict c).age + 1) 255 ∧
        (t.pict c).latest = (if 60 ≤ (s.pict c).age then none else (s.pict c).latest) ∧
        (∀ i, ((t.pict c).slot i).holders.recorder = true ↔ (t.pict c).latest = some i) ∧
        (∀ i, ((t.pict c).slot i).holders.monitor = true ↔ s.monitorUses c = true ∧ (t.pict c).latest = some i) ∧
        (∀ i, ((t.pict c).slot i).pixels = ((s.pict c).slot i).pixels)) ∧
      (∀ i, t.slot i = (s.slot i).map fun o => { o with marked := true }) ∧ t.table.lit = s.table.lit ∧
      t.table.blink = s.table.blink ∧
      t.frame = some
        { number := s.generator.counter, millis := s.generator.millis, body := .running k, blackFrom := none } ∧
      (∀ c : Camera, k.cameras[c] =
        { monitorSlot := if s.monitorUses c then (t.pict c).latest else none, recorderSlot := (t.pict c).latest
          freshness := (t.pict c).freshness, age := (s.pict c).age, lock := (s.recv c).lock
          degraded := (s.recv c).degraded }) ∧
      k.objects = s.table.slots ∧ k.lit = s.table.lit ∧ k.blink = s.table.blink ∧ k.tracks = s.tracks.places ∧
      k.zones = s.zones ∧ k.conds = s.vehicle.conds ∧ k.shownView = s.arbiter.shownView ∧ k.chime = s.alert.level ∧
      k.supply = s.supply.state ∧ k.settingsState = s.settings.state ∧ k.settings = s.settings.working ∧
      { t with links := s.links, pictures := s.pictures, table := s.table, frame := s.frame } = s

/-- R94, R154: an output frame ends: marked slots with a lifetime count down, those that reach 0 are EMPTY, and the frame counter
rises by one; during the settings load the counter alone. -/
def Obligations.FrameEndCountsDown : Prop :=
  (∀ s : State, s.phase = .running →
    ∃ t, exec .outputFrameEnd s = .next t ∧
      (∀ i, t.slot i =
        match s.slot i with
        | none => none
        | some o =>
          if o.marked = true ∧ o.lifetime = 1 then none
          else if o.marked = true ∧ 1 < o.lifetime then some { o with lifetime := o.lifetime - 1 }
          else some o) ∧
      t.table.lit = s.table.lit ∧ t.table.blink = s.table.blink ∧ t.frame = none ∧
      t.generator = { s.generator with counter := s.generator.counter + 1 } ∧
      { t with links := s.links, table := s.table, frame := s.frame, generator := s.generator } = s) ∧
  ∀ s : State, s.phase = .loading →
    exec .outputFrameEnd s =
      .next { s with frame := none, generator := { s.generator with counter := s.generator.counter + 1 } }

/-! ## The overlay object table -/

/-- R85, R80, R81: an OBJECT_PUT that passes the checks of R84 sets the whole record of the slot its handle reaches: the common fields
clamped, and the geometry of its kind, each coordinate in the range its anchor gives; a TEXT is empty, its cursor 0. That a filled
byte of a BOX above 1 is taken, as yes, is log 41 (DESIGN CHOICE). -/
def Obligations.ObjectPutSetsTheRecord : Prop :=
  ∀ (s : State) (l : Link) (r : Request) (k : ObjKind) (a : Anchor) (b : Blink) (i : ObjSlot),
    s.Ready l .objectPut r → ObjKind.ofCode (u8At r.fields 1) = some k → k.putLength ≤ r.fields.length →
    u8At r.fields 0 ≤ 31 → s.body.resolve l (u8At r.fields 0) = some i → (∀ o, s.slot i = some o → o.owner = l) →
    k.anchorOf (u8At r.fields 2) = some a → Blink.ofCode (u8At r.fields 6) = some b →
    let point := fun at_ : Nat => match a with
      | .screen => (⟨clamp 0 799 (s16At r.fields at_), clamp 0 479 (s16At r.fields (at_ + 2))⟩ : Pt)
      | .ground => ⟨clamp (-300) 2000 (s16At r.fields at_), clamp (-100) 1000 (s16At r.fields (at_ + 2))⟩
    let thickness := fun at_ : Nat => max 1 (min (u8At r.fields at_) 8)
    ∃ t, exec (.objectPut l) s = .next t ∧
      t.slot i = some
        { owner := l, anchor := a
          cameras := (byteAt r.fields 3).extractLsb' 0 4, outputs := (byteAt r.fields 3).extractLsb' 4 2
          layer := min (u8At r.fields 4) 7, colour := min (u8At r.fields 5) 15, blink := b
          showConds := (w16At r.fields 7).setWidth 9, lifetime := u16At r.fields 9, marked := false
          shape :=
            match k with
            | .segment => .segment (point 11) (point 15) (thickness 20)
            | .box => .box (point 11) (point 15) (u8At r.fields 19 != 0) (thickness 20)
            | .text =>
              .text (point 11) (max 1 (min (u8At r.fields 15) 2)) { glyphs := Vector.replicate 16 0, length := 0, cursor := 0 }
            | .distanceMark =>
              .distanceMark (clamp 0 2000 (s16At r.fields 11)) (clamp (-2000) 2000 (s16At r.fields 13))
                (clamp (-2000) 2000 (s16At r.fields 15)) (thickness 17) } ∧
      (∀ j, j ≠ i → t.slot j = s.slot j) ∧ t.table.lit = s.table.lit ∧ t.table.blink = s.table.blink ∧
      s.OnlyReplied t l r .done ∧ t.besideTable = s.besideTable

/-- R87 and R88: OBJECT_MOVE replaces the geometry and OBJECT_STYLE the five style fields; each leaves the rest of the record. -/
def Obligations.ObjectMoveAndStyleReplaceTheirFields : Prop :=
  (∀ (s : State) (l : Link) (r : Request) (i : ObjSlot) (o : ObjRecord),
    s.Ready l .objectMove r → u8At r.fields 0 ≤ 31 → s.body.resolve l (u8At r.fields 0) = some i → s.slot i = some o →
    o.owner = l →
    ∃ t, exec (.objectMove l) s = .next t ∧
      t.slot i = some
        { o with
          shape :=
            match o.shape with
            | .segment _ _ w => .segment (clampPt o.anchor (ptAt r.fields 1)) (clampPt o.anchor (ptAt r.fields 5)) w
            | .box _ _ filled w => .box (clampPt o.anchor (ptAt r.fields 1)) (clampPt o.anchor (ptAt r.fields 5)) filled w
            | .text _ scale body => .text (clampPt o.anchor (ptAt r.fields 1)) scale body
            | .distanceMark _ _ _ w =>
              .distanceMark (clamp 0 2000 (s16At r.fields 1)) (clamp (-2000) 2000 (s16At r.fields 3))
                (clamp (-2000) 2000 (s16At r.fields 5)) w } ∧
      (∀ j, j ≠ i → t.slot j = s.slot j) ∧ t.table.lit = s.table.lit ∧ t.table.blink = s.table.blink ∧
      s.OnlyReplied t l r .done ∧ t.besideTable = s.besideTable) ∧
  ∀ (s : State) (l : Link) (r : Request) (i : ObjSlot) (o : ObjRecord) (b : Blink),
    s.Ready l .objectStyle r → u8At r.fields 0 ≤ 31 → s.body.resolve l (u8At r.fields 0) = some i → s.slot i = some o →
    o.owner = l → Blink.ofCode (u8At r.fields 2) = some b →
    ∃ t, exec (.objectStyle l) s = .next t ∧
      t.slot i = some
        { o with
          colour := min (u8At r.fields 1) 15, blink := b, layer := min (u8At r.fields 3) 7
          showConds := (w16At r.fields 4).setWidth 9, outputs := (byteAt r.fields 6).setWidth 2 } ∧
      (∀ j, j ≠ i → t.slot j = s.slot j) ∧ t.table.lit = s.table.lit ∧ t.table.blink = s.table.blink ∧
      s.OnlyReplied t l r .done ∧ t.besideTable = s.besideTable

/-- R89 and R90: OBJECT_TEXT on a TEXT object of the requester. -/
def Obligations.ObjectTextWritesAtTheCursor : Prop :=
  (∀ (s : State) (l : Link) (r : Request) (i : ObjSlot) (o : ObjRecord) (p : Pt) (scale : Nat) (b : TextBody),
    s.Ready l .objectTextSetCursor r → u8At r.fields 1 = 0 → u8At r.fields 0 ≤ 31 →
    s.body.resolve l (u8At r.fields 0) = some i → s.slot i = some o → o.owner = l → o.shape = .text p scale b →
    ∃ t, exec (.objectTextSetCursor l) s = .next t ∧
      t.slot i = some { o with shape := .text p scale { b with cursor := min (u8At r.fields 2) 16 } } ∧
      (∀ j, j ≠ i → t.slot j = s.slot j) ∧ t.table.lit = s.table.lit ∧ t.table.blink = s.table.blink ∧
      s.OnlyReplied t l r .done ∧ t.besideTable = s.besideTable) ∧
  ∀ (s : State) (l : Link) (r : Request) (i : ObjSlot) (o : ObjRecord) (p : Pt) (scale : Nat) (b : TextBody),
    s.Ready l .objectTextAppend r → 3 + u8At r.fields 2 ≤ r.fields.length → u8At r.fields 2 ≤ 16 → u8At r.fields 0 ≤ 31 →
    s.body.resolve l (u8At r.fields 0) = some i → s.slot i = some o → o.owner = l → o.shape = .text p scale b →
    ∃ t b', exec (.objectTextAppend l) s = .next t ∧ t.slot i = some { o with shape := .text p scale b' } ∧
      (u8At r.fields 2 = 0 → b' = b) ∧
      (0 < u8At r.fields 2 →
        b'.length = max b.length (min (b.cursor + u8At r.fields 2) 16) ∧ b'.cursor = min (b.cursor + u8At r.fields 2) 16 ∧
        ∀ q : Fin 16,
          b'.glyphs[q] =
            if b.cursor ≤ q.val ∧ q.val < b.cursor + u8At r.fields 2 then
              (if 95 < u8At r.fields (3 + (q.val - b.cursor)) then 0 else u8At r.fields (3 + (q.val - b.cursor)))
            else if b.length ≤ q.val ∧ q.val < b.cursor then 0
            else b.glyphs[q]) ∧
      (∀ j, j ≠ i → t.slot j = s.slot j) ∧ t.table.lit = s.table.lit ∧ t.table.blink = s.table.blink ∧
      s.OnlyReplied t l r ⟨.done, [yesNo (decide (0 < u8At r.fields 2 ∧ 16 < b.cursor + u8At r.fields 2))]⟩ ∧
      t.besideTable = s.besideTable

/-- R91 and R92: OBJECT_REMOVE empties the slot its handle reaches, OBJECT_REMOVE_ALL every slot of the requester, and counts them. -/
def Obligations.ObjectRemovalsEmptySlots : Prop :=
  (∀ (s : State) (l : Link) (r : Request) (i : ObjSlot) (o : ObjRecord),
    s.Ready l .objectRemove r → u8At r.fields 0 ≤ 31 → s.body.resolve l (u8At r.fields 0) = some i → s.slot i = some o →
    o.owner = l →
    ∃ t, exec (.objectRemove l) s = .next t ∧ t.slot i = none ∧ (∀ j, j ≠ i → t.slot j = s.slot j) ∧
      t.table.lit = s.table.lit ∧ t.table.blink = s.table.blink ∧ s.OnlyReplied t l r .done ∧
      t.besideTable = s.besideTable) ∧
  ∀ (s : State) (l : Link) (r : Request), s.Ready l .objectRemoveAll r →
    ∃ t, exec (.objectRemoveAll l) s = .next t ∧
      (∀ i, t.slot i = match s.slot i with
        | some o => if o.owner = l then none else some o
        | none => none) ∧
      t.table.lit = s.table.lit ∧ t.table.blink = s.table.blink ∧
      s.OnlyReplied t l r
        ⟨.done, [byte (((List.finRange 96).filter fun i => (s.slot i).any fun o => decide (o.owner = l)).length)]⟩ ∧
      t.besideTable = s.besideTable

/-- R96: STRIP_SET replaces the requester's lit set and blink set whole. -/
def Obligations.StripSetReplacesTheSets : Prop :=
  ∀ (s : State) (l : Link) (r : Request), s.Ready l .stripSet r →
    ∃ t, exec (.stripSet l) s = .next t ∧ t.table.lit[l.ix] = w32At r.fields 0 ∧ t.table.blink[l.ix] = w32At r.fields 4 ∧
      (∀ m : Link, m ≠ l → t.table.lit[m.ix] = s.table.lit[m.ix] ∧ t.table.blink[m.ix] = s.table.blink[m.ix]) ∧
      t.table.slots = s.table.slots ∧ s.OnlyReplied t l r .done ∧ t.besideTable = s.besideTable

/-- R84: a request that names a handle is refused with the code of the first check it fails, and nothing but its reply follows. That
an APPEND's count above what is carried fails check 1 and one above 16 check 5 is log 21 (DEDUCED); that an OBJECT_TEXT of an
unknown mode is of the SET_CURSOR row is log 3 (DESIGN CHOICE). -/
def Obligations.HandleChecksRefuseInOrder : Prop :=
  ∀ (s : State) (l : Link) (row : RequestRow) (r : Request), row.namesHandle = true → s.Ready l row r →
    let Refused := fun code =>
      ∃ t, exec (row.command l) s = .next t ∧ s.OnlyReplied t l r (.refuse code) ∧ t.besideLinks = s.besideLinks
    let first := row.formKnown r.fields = true ∧ u8At r.fields 0 ≤ 31
    (¬ first → Refused .malformed) ∧
    (first → s.body.resolve l (u8At r.fields 0) = none → Refused .notMapped) ∧
    ∀ i, first → s.body.resolve l (u8At r.fields 0) = some i →
      (row ≠ .objectPut → (∀ o, s.slot i = some o → o.owner ≠ l) → Refused .notOwner) ∧
      (row = .objectPut → ∀ o, s.slot i = some o → o.owner ≠ l → Refused .notOwner) ∧
      (∀ o, s.slot i = some o → o.owner = l → row.asksText = true → o.shape.kind ≠ .text → Refused .wrongKind) ∧
      ((∀ o, s.slot i = some o → o.owner = l) → (row ≠ .objectPut → (s.slot i).isSome = true) →
        (∀ o, s.slot i = some o → row.asksText = true → o.shape.kind = .text) → row.valuesKnown r.fields = false →
        Refused .malformed)

/-- R97, R147, R185: a link's owner silence timer expires; the arbiter makes its choice under the masks that are left (R148, R149). -/
def Obligations.OwnerSilencePurgesTheLink : Prop :=
  ∀ (s : State) (l : Link), s.phase = .running → (s.ctl l).ownerTimer ≠ none →
    ∃ t, exec (.ownerSilenceTimerExpiry l) s = .next t ∧
      (∀ i, t.slot i = match s.slot i with
        | some o => if o.owner = l then none else some o
        | none => none) ∧
      t.table.lit[l.ix] = 0 ∧ t.table.blink[l.ix] = 0 ∧
      (∀ m : Link, m ≠ l → t.table.lit[m.ix] = s.table.lit[m.ix] ∧ t.table.blink[m.ix] = s.table.blink[m.ix]) ∧
      (t.ctl l).ownerTimer = none ∧ (t.ctl l).inbound = (s.ctl l).inbound ∧
      ((t.ctl l).flags.objectsPurged = true ↔
        (s.ctl l).flags.objectsPurged = true ∨ (∃ i o, s.slot i = some o ∧ o.owner = l) ∨ s.table.lit[l.ix] ≠ 0 ∨
          s.table.blink[l.ix] ≠ 0) ∧
      (∀ i, (t.causeRec i).masks = (s.causeRec i).masks &&& ~~~(linkBit l)) ∧
      State.ChoiceMade
        (s.withCauses fun i => { s.causeRec i with masks := (s.causeRec i).masks &&& ~~~(linkBit l) }) t ∧
      { t with links := s.links, table := s.table, arbiter := s.arbiter } = s

/-! ## Vehicle state and tracks -/

/-- R105, R106, R107: a VEHICLE_STATE; with what follows of it: MOVING becoming true ends service state (R191), a change of conditions
evaluates the zones (R103, R119), a change of speed ends the causes it masks (R146), and either makes the arbiter choose (R141, R148,
R149), in the order of log 18 (DESIGN CHOICE), after the onsets of the zones (R125, R142; logs 34 and 40, DESIGN CHOICE). From another
link, or with an unknown gear, it is refused and changes nothing. That the reply comes after the notices of the same
request (`State.Replied`) is log 19 (DESIGN CHOICE). -/
def Obligations.VehicleStateSetsTheConditions : Prop :=
  (∀ (s : State) (r : Request) (g : Gear),
    s.Ready .chassis .vehicleState r → Gear.ofCode (u8At r.fields 2) = some g →
    let speed := (clamp 0 1200 (s16At r.fields 0)).toNat
    let on := (byteAt r.fields 3).getLsbD 0
    let was := s.vehicle.conds.nearsideIndicator
    ∃ t, exec (.vehicleState .chassis) s = .next t ∧
      t.vehicle.raw = some { speed := speed, gear := g, nearside := on, door := (byteAt r.fields 3).getLsbD 2 } ∧
      t.vehicle.speed = speed ∧ t.vehicle.chassisTimer = some s.body.chassisSilenceLimit ∧
      t.vehicle.conds.chassisUnknown = false ∧ t.vehicle.conds.moving = decide (s.body.movingThreshold ≤ speed) ∧
      t.vehicle.conds.reverse = decide (g = .reverse) ∧ t.vehicle.conds.doorOpen = (byteAt r.fields 3).getLsbD 2 ∧
      (on = true → t.vehicle.conds.nearsideIndicator = true ∧ t.vehicle.offDelay = none) ∧
      (on = false → was = true → s.vehicle.offDelay = none → s.body.offDelay ≠ 0 →
        t.vehicle.conds.nearsideIndicator = true ∧ t.vehicle.offDelay = some (100 * s.body.offDelay)) ∧
      (on = false → was = true → s.vehicle.offDelay = none → s.body.offDelay = 0 →
        t.vehicle.conds.nearsideIndicator = false ∧ t.vehicle.offDelay = none) ∧
      (on = false → was = true → s.vehicle.offDelay ≠ none →
        t.vehicle.conds.nearsideIndicator = true ∧ t.vehicle.offDelay = s.vehicle.offDelay) ∧
      (on = false → was = false → t.vehicle.conds.nearsideIndicator = false ∧ t.vehicle.offDelay = s.vehicle.offDelay) ∧
      t.vehicle.conds.liftActive = s.vehicle.conds.liftActive ∧
      t.vehicle.conds.stepOccupied = s.vehicle.conds.stepOccupied ∧
      t.vehicle.conds.bodyUnknown = s.vehicle.conds.bodyUnknown ∧ t.vehicle.bodyTimer = s.vehicle.bodyTimer ∧
      s.VehicleTaken t ∧ s.Replied t .chassis r .done ∧ t.besideVehicle = s.besideVehicle) ∧
  ∀ (s : State) (l : Link) (r : Request), s.Ready l .vehicleState r →
    (l ≠ .chassis → ∃ t, exec (.vehicleState l) s = .next t ∧ s.OnlyReplied t l r (.refuse .notPermitted) ∧
      t.besideLinks = s.besideLinks) ∧
    (l = .chassis → Gear.ofCode (u8At r.fields 2) = none →
      ∃ t, exec (.vehicleState l) s = .next t ∧ s.OnlyReplied t l r (.refuse .malformed) ∧ t.besideLinks = s.besideLinks)

/-- R109: a BODY_STATE, with the recount of a change of the contacts (R118), under the conditions of the same report, and the evaluation
of a change of conditions (R103, R119) after it, with the arbiter's choice last (R141, R148, R149), in the order of log 18 (DESIGN
CHOICE); the onsets of each reach the arbiter as they come (R125, R142; logs 34 and 40, DESIGN CHOICE). From another link, or with a
value not listed, it is refused and changes nothing.
That the reply comes after the notices of the same request (`State.Replied`) is log 19 (DESIGN CHOICE). -/
def Obligations.BodyStateSetsLiftAndContacts : Prop :=
  (∀ (s : State) (r : Request),
    s.Ready .body .bodyState r → u8At r.fields 0 ≤ 2 → u8At r.fields 2 ≤ 1 →
    ∃ t, exec (.bodyState .body) s = .next t ∧ t.vehicle.bodyTimer = some s.body.bodySilenceLimit ∧
      t.vehicle.conds =
        { s.vehicle.conds with
          bodyUnknown := false, liftActive := decide (u8At r.fields 0 = 1)
          stepOccupied := (byteAt r.fields 1).getLsbD 0 || (byteAt r.fields 1).getLsbD 1 } ∧
      t.tracks.contacts =
        { stepLeft := (byteAt r.fields 1).getLsbD 0, stepRight := (byteAt r.fields 1).getLsbD 1
          curtain := (byteAt r.fields 1).getLsbD 2 } ∧
      t.tracks.places = s.tracks.places ∧ t.vehicle.raw = s.vehicle.raw ∧
      t.vehicle.chassisTimer = s.vehicle.chassisTimer ∧ t.vehicle.offDelay = s.vehicle.offDelay ∧
      (∃ (first : Zone → ZoneRec) (a b : Arbiter),
        (∀ z,
          let r := (s.zoneRec z).recount (s.body.zone z) s.body.countFloor t.tracks
          first z =
            if t.tracks.contacts ≠ s.tracks.contacts ∧ (s.body.zone z).enabled = true ∧
              (r.occupancy ≠ (s.zoneRec z).occupancy ∨ r.warnMark ≠ (s.zoneRec z).warnMark) then
              r.evaluate (s.body.zone z) t.vehicle.conds
            else s.zoneRec z) ∧
        (∀ z, t.zoneRec z =
          if t.vehicle.conds ≠ s.vehicle.conds ∧ (s.body.zone z).enabled = true then
            (first z).evaluate (s.body.zone z) t.vehicle.conds
          else first z) ∧
        t.OnsetsTaken s.zoneRec first s.arbiter a ∧ t.OnsetsTaken first t.zoneRec a b ∧
        (t.vehicle.conds = s.vehicle.conds → t.arbiter = b) ∧
        (t.vehicle.conds ≠ s.vehicle.conds → State.ChoiceMade (t.withArbiter b) t)) ∧
      s.Replied t .body r .done ∧
      { t with
        links := s.links, arbiter := s.arbiter, zones := s.zones, alert := s.alert, vehicle := s.vehicle
        tracks := s.tracks } = s) ∧
  ∀ (s : State) (l : Link) (r : Request), s.Ready l .bodyState r →
    (l ≠ .body → ∃ t, exec (.bodyState l) s = .next t ∧ s.OnlyReplied t l r (.refuse .notPermitted) ∧
      t.besideLinks = s.besideLinks) ∧
    (l = .body → (2 < u8At r.fields 0 ∨ 1 < u8At r.fields 2) →
      ∃ t, exec (.bodyState l) s = .next t ∧ s.OnlyReplied t l r (.refuse .malformed) ∧ t.besideLinks = s.besideLinks)

/-- R103, R107, R108, R110: the off-delay, chassis silence and body silence timers expire; on a change of conditions every enabled
zone is evaluated once under the new ones and the arbiter chooses (R141, R148, R149). The chassis fallbacks may end service state, or
leave its exit pending (R191), and end the causes in service that a speed of 1200 masks (R106, R146). The order is log 18's, that of
the zones' onsets logs 34's and 40's (DESIGN CHOICE). -/
def Obligations.VehicleTimersFallBack : Prop :=
  ∀ (s : State), s.phase = .running →
    let Handed := fun t : State =>
      t.besideVehicle = s.besideVehicle ∧ t.vehicle.raw = s.vehicle.raw ∧ s.ZonesTold t ∧ s.ArbiterTold t
    (s.vehicle.offDelay ≠ none →
      ∃ t, exec .indicatorOffDelayExpiry s = .next t ∧ Handed t ∧ t.vehicle.offDelay = none ∧
        t.vehicle.conds = { s.vehicle.conds with nearsideIndicator := false } ∧
        t.vehicle.chassisTimer = s.vehicle.chassisTimer ∧ t.vehicle.bodyTimer = s.vehicle.bodyTimer) ∧
    (s.vehicle.chassisTimer ≠ none →
      ∃ t, exec .chassisSilenceTimerExpiry s = .next t ∧ Handed t ∧ t.vehicle.chassisTimer = none ∧
        t.vehicle.offDelay = none ∧ t.vehicle.bodyTimer = s.vehicle.bodyTimer ∧ t.vehicle.speed = 1200 ∧
        { t.vehicle.conds with service := s.vehicle.conds.service } =
          { s.vehicle.conds with
            moving := true, reverse := false, nearsideIndicator := false, doorOpen := false, chassisUnknown := true } ∧
        s.VehicleTaken t) ∧
    (s.vehicle.bodyTimer ≠ none →
      ∃ t, exec .bodySilenceTimerExpiry s = .next t ∧ Handed t ∧ t.vehicle.bodyTimer = none ∧
        t.vehicle.chassisTimer = s.vehicle.chassisTimer ∧ t.vehicle.offDelay = s.vehicle.offDelay ∧
        t.vehicle.conds = { s.vehicle.conds with liftActive := false, bodyUnknown := true })

/-- R112, R113, R114: a TRACK_UPDATE of a known track, one below the admission floor, one admitted to the lowest empty place, one
that evicts, one refused by a full table, and one of an unlisted class or of id 0. A change of the table is recounted, and a zone whose
count or mark changed is evaluated (R118, R119), its onset taken by the arbiter (R125, R142; logs 34 and 40, DESIGN CHOICE); an
eviction and its admission are recounted once (log 35, DESIGN CHOICE). That the reply comes after the notices of the same request
(`State.Replied`) is log 19 (DESIGN CHOICE); the place byte 255 of a track not admitted is log 22 (DEDUCED). -/
def Obligations.TrackUpdateKeepsAdmitsOrEvicts : Prop :=
  (∀ (s : State) (l : Link) (r : Request) (cls : TrackClass),
    s.Ready l .trackUpdate r → TrackClass.ofCode (u8At r.fields 1) = some cls → u8At r.fields 0 ≠ 0 →
    let k : Track :=
      { source := l, id := u8At r.fields 0, cls := cls, x := clamp (-300) 2000 (s16At r.fields 2)
        y := clamp (-100) 1000 (s16At r.fields 4), confidence := min (u8At r.fields 10) 100, age := 0 }
    let Same := fun (p : Place) => ∃ e, s.tracks.places[p] = some e ∧ e.source = l ∧ e.id = k.id
    let Done := fun (t : State) (code : ResultCode) (fields : List Byte) =>
      exec (.trackUpdate l) s = .next t ∧ s.Replied t l r ⟨code, fields⟩ ∧ t.tracks.contacts = s.tracks.contacts ∧
        t.besideTracks = s.besideTracks
    let Set := fun (t : State) (p : Place) =>
      t.tracks.places[p] = some k ∧ (∀ q : Place, q ≠ p → t.tracks.places[q] = s.tracks.places[q]) ∧ s.Recounted t
    (s.tracks.Ok → ∀ p, Same p → ∃ t, Done t .done [0, byte p.val, 255, 255] ∧ Set t p) ∧
    ((∀ p, ¬ Same p) → k.confidence < s.body.admissionFloor →
      ∃ t, Done t .done [0, 255, 255, 255] ∧ t.besideLinks = s.besideLinks) ∧
    ((∀ p, ¬ Same p) → s.body.admissionFloor ≤ k.confidence → ∀ p : Place, s.tracks.places[p] = none →
      (∀ q : Place, q < p → s.tracks.places[q] ≠ none) → ∃ t, Done t .done [1, byte p.val, 255, 255] ∧ Set t p) ∧
    ((∀ p, ¬ Same p) → s.body.admissionFloor ≤ k.confidence → ∀ (p : Place) (e : Track), s.tracks.places[p] = some e →
      (∀ q : Place, q ≠ p → ∃ f, s.tracks.places[q] = some f ∧
        (e.confidence < f.confidence ∨
          (e.confidence = f.confidence ∧ (f.age < e.age ∨ (f.age = e.age ∧ p < q))))) →
      (e.confidence < k.confidence →
        ∃ t, Done t .done [1, byte p.val, byte e.source.ix.val, byte e.id] ∧ Set t p) ∧
      (k.confidence ≤ e.confidence → ∃ t, Done t .tableFull [] ∧ t.besideLinks = s.besideLinks))) ∧
  ∀ (s : State) (l : Link) (r : Request), s.Ready l .trackUpdate r →
    (TrackClass.ofCode (u8At r.fields 1) = none ∨ u8At r.fields 0 = 0) →
    ∃ t, exec (.trackUpdate l) s = .next t ∧ s.OnlyReplied t l r (.refuse .malformed) ∧ t.besideLinks = s.besideLinks

/-- R115, R116: a track leaves its place by expiry, or by a TRACK_DROP of its source; a drop of an unknown track is refused. The zones
are recounted, and one whose count or mark changed is evaluated (R118, R119; logs 34 and 40, DESIGN CHOICE). That the reply comes after
the notices of the recount (`State.Replied`) is log 19 (DESIGN CHOICE). -/
def Obligations.TrackExpiryAndDropEmptyThePlace : Prop :=
  (∀ (s : State) (p : Place), s.phase = .running → s.tracks.places[p] ≠ none →
    ∃ t, exec (.trackExpiry p) s = .next t ∧ t.tracks.places[p] = none ∧
      (∀ q : Place, q ≠ p → t.tracks.places[q] = s.tracks.places[q]) ∧ t.tracks.contacts = s.tracks.contacts ∧
      s.Recounted t ∧ t.besideTracks = s.besideTracks) ∧
  ∀ (s : State) (l : Link) (r : Request), s.Ready l .trackDrop r →
    (s.tracks.Ok → ∀ (p : Place) e, s.tracks.places[p] = some e → e.source = l → e.id = u8At r.fields 0 →
      ∃ t, exec (.trackDrop l) s = .next t ∧ t.tracks.places[p] = none ∧
        (∀ q : Place, q ≠ p → t.tracks.places[q] = s.tracks.places[q]) ∧ t.tracks.contacts = s.tracks.contacts ∧
        s.Recounted t ∧ s.Replied t l r .done ∧ t.besideTracks = s.besideTracks) ∧
    ((∀ (p : Place) e, s.tracks.places[p] = some e → ¬ (e.source = l ∧ e.id = u8At r.fields 0)) →
      ∃ t, exec (.trackDrop l) s = .next t ∧ s.OnlyReplied t l r (.refuse .unknownTrack) ∧ t.besideLinks = s.besideLinks)

/-! ## Zones and the alert output unit -/

/-- R119, R120, R121, R124, Table 6-7: the evaluation of an enabled zone. -/
def Obligations.ZoneEvaluationFollowsTheTable : Prop :=
  ∀ (cfg : ZoneSettings) (c : Conditions) (r : ZoneRec),
    let armed := cfg.arm = 0 ∨ c.bits &&& cfg.arm ≠ 0
    let serious := c.bits &&& cfg.warnConds ≠ 0 ∨ r.warnMark = true ∨ (cfg.dwellLimit ≠ 0 ∧ cfg.dwellLimit ≤ r.dwell)
    let cleared := fun st => { r with state := st, dwell := 0, acked := false, dwellTimer := none, holdTimer := none }
    (¬ armed → r.evaluate cfg c = cleared .idle) ∧
    (armed → r.occupancy = 0 → r.state = .idle → r.evaluate cfg c = cleared .clear) ∧
    (armed → r.occupancy = 0 → r.state = .clear → r.evaluate cfg c = r) ∧
    (armed → r.occupancy = 0 → (r.state = .caution ∨ r.state = .warning) → cfg.holdTime = 0 →
      r.evaluate cfg c = cleared .clear) ∧
    (armed → r.occupancy = 0 → (r.state = .caution ∨ r.state = .warning) → cfg.holdTime ≠ 0 →
      r.evaluate cfg c =
        { r with
          state := .hold, held := if r.state = .warning then .warning else .caution, dwellTimer := none
          holdTimer := some (100 * cfg.holdTime) }) ∧
    (armed → r.occupancy = 0 → r.state = .hold → r.holdTimer ≠ none → r.evaluate cfg c = r) ∧
    (armed → r.occupancy = 0 → r.state = .hold → r.holdTimer = none → r.evaluate cfg c = cleared .clear) ∧
    (armed → r.occupancy ≠ 0 →
      (serious → (r.evaluate cfg c).state = .warning) ∧ (¬ serious → (r.evaluate cfg c).state = .caution) ∧
      (r.evaluate cfg c).holdTimer = none ∧ (r.evaluate cfg c).dwell = r.dwell ∧ (r.evaluate cfg c).held = r.held ∧
      (r.state = .caution ∨ r.state = .warning → (r.evaluate cfg c).dwellTimer = r.dwellTimer) ∧
      (r.state = .idle ∨ r.state = .clear ∨ r.state = .hold → (r.evaluate cfg c).dwellTimer = some 100) ∧
      ((serious ∧ (r.state = .caution ∨ (r.state = .hold ∧ r.held = .caution))) → (r.evaluate cfg c).acked = false) ∧
      (¬ (serious ∧ (r.state = .caution ∨ (r.state = .hold ∧ r.held = .caution))) →
        (r.evaluate cfg c).acked = r.acked))

/-- R118: after each change of the track table's contents or of the contact inputs, every enabled zone's occupancy is the number of
tracks that count plus the number of set mapped contacts, and its warn-class mark says whether one that counts has a warn class. A
recount sets those two, clears the acknowledgement where the occupancy rises (R124), and leaves the rest of the record. -/
def Obligations.OccupancyCountsTracksAndContacts : Prop :=
  (∀ (cfg : ZoneSettings) (floor : Nat) (tracks : Tracks) (r : ZoneRec),
    let counted := (tracks.places.toList.filterMap id).filter fun k =>
      cfg.classes.getLsbD k.cls.index && decide (floor ≤ k.confidence) &&
        decide (cfg.xMin ≤ k.x ∧ k.x ≤ cfg.xMax ∧ cfg.yMin ≤ k.y ∧ k.y ≤ cfg.yMax)
    let n := counted.length + (cfg.contacts.getLsbD 0 && tracks.contacts.stepLeft).toNat +
      (cfg.contacts.getLsbD 1 && tracks.contacts.stepRight).toNat + (cfg.contacts.getLsbD 2 && tracks.contacts.curtain).toNat
    r.recount cfg floor tracks =
      { r with
        occupancy := n, warnMark := counted.any fun k => cfg.warnClasses.getLsbD k.cls.index
        acked := if r.occupancy < n then false else r.acked }) ∧
  ∀ (i : Instr) (s t : State),
    (∃ l p, i = .trackUpdate l ∨ i = .trackDrop l ∨ i = .bodyState l ∨ i = .trackExpiry p) →
    exec i s = .next t → t.tracks ≠ s.tracks → ∀ z, (s.body.zone z).enabled = true →
    let cfg := s.body.zone z
    let counted := (t.tracks.places.toList.filterMap id).filter fun k =>
      cfg.classes.getLsbD k.cls.index && decide (s.body.countFloor ≤ k.confidence) &&
        decide (cfg.xMin ≤ k.x ∧ k.x ≤ cfg.xMax ∧ cfg.yMin ≤ k.y ∧ k.y ≤ cfg.yMax)
    (t.zoneRec z).occupancy =
        counted.length + (cfg.contacts.getLsbD 0 && t.tracks.contacts.stepLeft).toNat +
          (cfg.contacts.getLsbD 1 && t.tracks.contacts.stepRight).toNat +
          (cfg.contacts.getLsbD 2 && t.tracks.contacts.curtain).toNat ∧
      ((t.zoneRec z).warnMark = true ↔ ∃ k ∈ counted, cfg.warnClasses.getLsbD k.cls.index = true)

/-- R120, R122: an enabled zone's hold timer expires and it is evaluated; a dwell period ends, the dwell rises by one up to 999 and
the next period begins, and a dwell that rises to equal the dwell limit makes an armed, occupied zone WARNING. R125, R142, R148: an
entry into WARNING that is an onset, of a zone with a preferred view, raises exactly the enabled ZONE_WARNING causes of that zone and
view, and the arbiter chooses; without one the arbiter stays. -/
def Obligations.ZoneTimersExpire : Prop :=
  (∀ (s : State) (z : Zone), s.phase = .running → s.ZonesOk → (s.zoneRec z).holdTimer ≠ none →
    ∃ t, exec (.holdTimerExpiry z) s = .next t ∧
      t.zoneRec z =
        ({ s.zoneRec z with holdTimer := none } : ZoneRec).evaluate (s.body.zone z) s.vehicle.conds ∧
      ((s.body.zone z).armed s.vehicle.conds = true → (s.zoneRec z).occupancy = 0 →
        (t.zoneRec z).state = .clear ∧ (t.zoneRec z).dwell = 0 ∧ (t.zoneRec z).acked = false) ∧
      (∀ y, y ≠ z → t.zoneRec y = s.zoneRec y) ∧ t.OnsetsTaken s.zoneRec t.zoneRec s.arbiter t.arbiter ∧
      t.besideZones = s.besideZones) ∧
  ∀ (s : State) (z : Zone), s.phase = .running → s.ZonesOk → (s.zoneRec z).dwellTimer ≠ none →
    ∃ t, exec (.dwellPeriodEnd z) s = .next t ∧
      (t.zoneRec z =
        let r := { s.zoneRec z with dwell := min ((s.zoneRec z).dwell + 1) 999, dwellTimer := some 100 }
        if (s.zoneRec z).dwell < 999 ∧ (s.body.zone z).dwellLimit ≠ 0 ∧ r.dwell = (s.body.zone z).dwellLimit
        then r.evaluate (s.body.zone z) s.vehicle.conds else r) ∧
      ((s.body.zone z).armed s.vehicle.conds = true → (s.zoneRec z).occupancy ≠ 0 → (s.zoneRec z).dwell < 999 →
        (s.zoneRec z).dwell + 1 = (s.body.zone z).dwellLimit → (t.zoneRec z).state = .warning) ∧
      (∀ y, y ≠ z → t.zoneRec y = s.zoneRec y) ∧ t.OnsetsTaken s.zoneRec t.zoneRec s.arbiter t.arbiter ∧
      t.besideZones = s.besideZones

/-- R123: a ZONE_ACK is judged in the order given. That the reply comes after the ZONE notice of the same request (`State.Replied`) is
log 19 (DESIGN CHOICE). -/
def Obligations.ZoneAckIsJudgedInOrder : Prop :=
  (∀ (s : State) (l : Link) (r : Request), s.phase = .running → (s.ctl l).inbound.head? = some r →
    (s.ctl l).canReply = true → r.row = .zoneAck → r.tooShort = true →
    ∃ t, exec (.zoneAck l) s = .next t ∧ s.OnlyReplied t l r (.refuse .malformed) ∧ t.besideLinks = s.besideLinks) ∧
  ∀ (s : State) (l : Link) (r : Request), s.Ready l .zoneAck r →
    let Refused := fun code =>
      ∃ t, exec (.zoneAck l) s = .next t ∧ s.OnlyReplied t l r (.refuse code) ∧ t.besideLinks = s.besideLinks
    (7 < u8At r.fields 0 → Refused .malformed) ∧
    ∀ z : Zone, u8At r.fields 0 = z.val →
      let right := (s.body.zone z).ackRights.getLsbD l.ix.val
      let warns := (s.zoneRec z).state = .warning ∨ ((s.zoneRec z).state = .hold ∧ (s.zoneRec z).held = .warning)
      (right = false → Refused .notPermitted) ∧
      (right = true → ¬ warns → Refused .notWarning) ∧
      (right = true → warns →
        ∃ t, exec (.zoneAck l) s = .next t ∧ t.zoneRec z = { s.zoneRec z with acked := true } ∧
          (∀ y, y ≠ z → t.zoneRec y = s.zoneRec y) ∧ s.Replied t l r .done ∧
          { t with links := s.links, zones := s.zones, alert := s.alert } = s)

/-- R132, R133, Table 7-3: the segment timer expires and the chime enters the next segment; a tone segment takes the volume. R133: the
level of the CHIME line at a moment of a segment, ns after the millisecond's start: periods of 400 µs in W1 and of 625 µs in C1 and W2
run from the segment's beginning, each high for the duty share and then low; in C2 and without a segment the line is low. That a
segment begins with a millisecond is logs 1 and 28 (DESIGN CHOICE). -/
def Obligations.SegmentExpiryEntersTheNext : Prop :=
  (∀ (a : Alert) (g : Segment) (n ns : Nat), a.segment = some g → a.segmentTimer = some n →
    let length := match g with | .c1 => 150 | .c2 => 1350 | .w1 => 200 | .w2 => 200
    let period := match g with | .w1 => 400000 | .c1 | .c2 | .w2 => 625000
    a.line ns = true ↔ g ≠ .c2 ∧ 100 * ((1000000 * (length - n) + ns) % period) < a.toneDuty * period) ∧
  (∀ (a : Alert) (ns : Nat), a.segment = none → a.line ns = false) ∧
  ∀ (s : State) (g : Segment), s.phase = .running → s.alert.segmentTimer ≠ none → s.alert.segment = some g →
    ∃ t, exec .segmentTimerExpiry s = .next t ∧
      t.alert.segment = some (match g with | .c1 => .c2 | .c2 => .c1 | .w1 => .w2 | .w2 => .w1) ∧
      t.alert.segmentTimer = some (match g with | .c1 => 1350 | .c2 => 150 | .w1 => 200 | .w2 => 200) ∧
      t.alert.toneDuty = (if g = .c1 then s.alert.toneDuty else s.body.chimeVolume) ∧
      { t.alert with
        segment := s.alert.segment, segmentTimer := s.alert.segmentTimer, toneDuty := s.alert.toneDuty } = s.alert ∧
      { t with links := s.links, alert := s.alert } = s

/-- R131, R134, R135: in a running state in order, HZ_WARN, HZ_CAUTION and the chime level are what the zones make them. -/
def Obligations.LinesAndChimeFollowTheZones : Prop :=
  ∀ s : State, s.phase = .running → s.AlertOk →
    let Warns := fun z => (s.zoneRec z).state = .warning ∨ ((s.zoneRec z).state = .hold ∧ (s.zoneRec z).held = .warning)
    let Cautions := fun z => (s.zoneRec z).state = .caution ∨ ((s.zoneRec z).state = .hold ∧ (s.zoneRec z).held = .caution)
    (s.alert.hzWarn = true ↔ ∃ z, Warns z) ∧ (s.alert.hzCaution = true ↔ ∃ z, Warns z ∨ Cautions z) ∧
    (s.alert.level = .warning ↔ ∃ z, Warns z ∧ (s.zoneRec z).acked = false) ∧
    (s.alert.level = .caution ↔
      (¬ ∃ z, Warns z ∧ (s.zoneRec z).acked = false) ∧ ∃ z, (s.body.zone z).chimeOnCaution = true ∧ Cautions z)

/-! ## The view arbiter -/

/-- R144, R148, R149: the show timer and a cause's timer expire, each followed by the arbiter's choice. -/
def Obligations.ViewTimersLeadToAChoice : Prop :=
  (∀ s : State, s.phase = .running → s.arbiter.showTimer ≠ none →
    ∃ t, exec .showTimerExpiry s = .next t ∧
      State.ChoiceMade { s with arbiter := { s.arbiter with showTimer := none } } t ∧
      (∀ i, (t.causeRec i).masks = (s.causeRec i).masks) ∧ t.besideViews = s.besideViews) ∧
  ∀ (s : State) (i : Cause), s.phase = .running → (s.causeRec i).timer ≠ none →
    ∃ t, exec (.causeTimerExpiry i) s = .next t ∧ (t.causeRec i).stage = .quiet ∧ (t.causeRec i).timer = none ∧
      State.ChoiceMade
        { s with
          arbiter :=
            { s.arbiter with
              causes := s.arbiter.causes.set i { s.arbiter.causes[i] with stage := .quiet, timer := none } } } t ∧
      t.besideViews = s.besideViews

/-- R142, R143: a VIEW_REQUEST is judged in the order given; one that is taken raises its cause, the arbiter makes its choice, and
the reply carries the stage after it. That the reply comes after the VIEW notice of the same request (`State.Replied`) is log 19
(DESIGN CHOICE). -/
def Obligations.ViewRequestRaisesItsCause : Prop :=
  (∀ (s : State) (l : Link) (r : Request), s.phase = .running → (s.ctl l).inbound.head? = some r →
    (s.ctl l).canReply = true → r.row = .viewRequest → r.tooShort = true →
    ∃ t, exec (.viewRequest l) s = .next t ∧ s.OnlyReplied t l r (.refuse .malformed) ∧ t.besideLinks = s.besideLinks) ∧
  ∀ (s : State) (l : Link) (r : Request), s.Ready l .viewRequest r →
    let Refused := fun code =>
      ∃ t, exec (.viewRequest l) s = .next t ∧ s.OnlyReplied t l r (.refuse code) ∧ t.besideLinks = s.besideLinks
    (11 < u8At r.fields 0 → Refused .malformed) ∧
    ∀ i : Cause, u8At r.fields 0 = i.val →
      let c := s.body.cause i
      (c.enabled = false ∨ c.source ≠ .linkRequest → Refused .notPermitted) ∧
      (c.enabled = true → c.source = .linkRequest →
        ∃ t raised, exec (.viewRequest l) s = .next t ∧
          raised =
            (if (s.causeRec i).stage = .inService then { s.causeRec i with timer := some (100 * c.serveTime) }
             else { s.causeRec i with stage := .pending, timer := some (100 * c.pendingLife) }) ∧
          State.ChoiceMade { s with arbiter := { s.arbiter with causes := s.arbiter.causes.set i raised } } t ∧
          s.Replied t l r ⟨.done, [byte (t.causeRec i).stage.code]⟩ ∧ t.besideViews = s.besideViews)

/-- R145, R146, R148, R149: a VIEW_MASK adds the requester to the mask sets of the causes it names, or removes it; on SET a LATCHED
cause in service that is masked returns to QUIET; the arbiter then makes its choice. That a VIEW_MASK of an unknown action is of the
SET row is log 3, and that the reply comes after the VIEW notice of the same request (`State.Replied`) log 19 (both DESIGN CHOICE). -/
def Obligations.ViewMaskSetsAndClears : Prop :=
  (∀ (s : State) (l : Link) (r : Request), s.Ready l .viewMaskSet r → u8At r.fields 2 = 0 →
    ∃ t, exec (.viewMaskSet l) s = .next t ∧
      (∀ i : Cause, (t.causeRec i).masks =
        if (w16At r.fields 0).getLsbD i.val then (s.causeRec i).masks ||| linkBit l else (s.causeRec i).masks) ∧
      (∀ i, (s.causeRec i).stage = .inService → (t.causeRec i).masks ≠ 0 →
        (t.causeRec i).stage = .quiet ∧ (t.causeRec i).timer = none) ∧
      State.ChoiceMade
        (s.withCauses fun i =>
          let masks := if (w16At r.fields 0).getLsbD i.val then (s.causeRec i).masks ||| linkBit l else (s.causeRec i).masks
          if (s.causeRec i).stage = .inService ∧
            (masks ≠ 0 ∨ ((s.body.cause i).maxSpeed ≠ 0 ∧ (s.body.cause i).maxSpeed < s.vehicle.speed)) then
            { stage := .quiet, timer := none, masks := masks }
          else { s.causeRec i with masks := masks }) t ∧
      s.Replied t l r .done ∧ t.besideViews = s.besideViews) ∧
  (∀ (s : State) (l : Link) (r : Request), s.Ready l .viewMaskSet r → u8At r.fields 2 ≠ 0 →
    ∃ t, exec (.viewMaskSet l) s = .next t ∧ s.OnlyReplied t l r (.refuse .malformed) ∧ t.besideLinks = s.besideLinks) ∧
  ∀ (s : State) (l : Link) (r : Request), s.Ready l .viewMaskClear r →
    ∃ t, exec (.viewMaskClear l) s = .next t ∧
      (∀ i : Cause, (t.causeRec i).masks =
        if (w16At r.fields 0).getLsbD i.val then (s.causeRec i).masks &&& ~~~(linkBit l) else (s.causeRec i).masks) ∧
      State.ChoiceMade
        (s.withCauses fun i =>
          { s.causeRec i with
            masks :=
              if (w16At r.fields 0).getLsbD i.val then (s.causeRec i).masks &&& ~~~(linkBit l)
              else (s.causeRec i).masks }) t ∧
      s.Replied t l r .done ∧ t.besideViews = s.besideViews

/-! ## The client links -/

/-- R173, R175, R178: a CAN frame. On the request identifier, its request joins the inbound queue and restarts the owner silence
timer, or is discarded at a full queue; one too short to read sets FRAMING; any other frame, and any frame in bus-off, changes
nothing. -/
def Obligations.CanRequestJoinsTheQueue : Prop :=
  ∀ (s : State) (p : CanPort) (ident : BitVec 11) (payload : List Byte), s.phase = .running →
    ∃ t, exec (.canRequestFrame p ident payload) s = .next t ∧
      (let l := p.link
       let Kept := (t.ctl l).inbound = (s.ctl l).inbound ∧ (t.ctl l).ownerTimer = (s.ctl l).ownerTimer
       let here := (s.ctl l).busOff = false ∧ (ident.toNat : Int) = s.body.canId l.ix.val 0
       (¬ here → Kept ∧ (t.ctl l).flags = (s.ctl l).flags) ∧
       (here → payload.length < 3 → Kept ∧ (t.ctl l).flags = { (s.ctl l).flags with framing := true }) ∧
       (here → ∀ kind tag len carried, payload = kind :: tag :: len :: carried →
         ((s.ctl l).inbound.length < 16 →
           (t.ctl l).inbound = (s.ctl l).inbound ++ [{ kind := kind, tag := tag, len := len.toNat, carried := carried }] ∧
           (t.ctl l).ownerTimer = some (1000 * s.body.ownerTimeout l) ∧ (t.ctl l).flags = (s.ctl l).flags) ∧
         (16 ≤ (s.ctl l).inbound.length →
           Kept ∧ (t.ctl l).flags = { (s.ctl l).flags with inboundOverrun := true })) ∧
       (t.ctl l).outbound = (s.ctl l).outbound ∧
       ∀ m, m ≠ l → (t.ctl m).inbound = (s.ctl m).inbound ∧ (t.ctl m).outbound = (s.ctl m).outbound ∧
         (t.ctl m).flags = (s.ctl m).flags ∧ (t.ctl m).ownerTimer = (s.ctl m).ownerTimer) ∧
      t.besideLinks = s.besideLinks

/-- R174, R175: the five reports of a CAN port about its sending. What a port has on the bus is the message in a frame of the least
payload length that holds it, the bytes after it 0 (12.3); that the lengths are those of CAN FD is log 39 (PRESUMED), and that a port
puts its head up at the end of the step log 12 (DESIGN CHOICE). -/
def Obligations.CanPortSendsTheHead : Prop :=
  (∀ (s : State) (p : CanPort), s.phase = .running →
    let l := p.link
    let ident := fun m : OutMsg => s.body.canId l.ix.val (if m.notice.isSome then 2 else 1)
    let PutsUp := fun t : State =>
      (∀ m rest, (t.ctl l).outbound = m :: rest →
        (t.ctl l).transit = some { msg := some m, ident := ident m, removesHead := true, disregard := false }) ∧
      ((t.ctl l).outbound = [] → (t.ctl l).transit = none)
    let Kept := fun t : State =>
      t.besideLinks = s.besideLinks ∧ (∀ m, (t.ctl m).inbound = (s.ctl m).inbound ∧
        (t.ctl m).ownerTimer = (s.ctl m).ownerTimer) ∧
      ∀ m, m ≠ l → (t.ctl m).outbound = (s.ctl m).outbound ∧ (t.ctl m).flags = (s.ctl m).flags
    (∃ t, exec (.canFrameAcknowledged p) s = .next t ∧ Kept t ∧ (t.ctl l).flags = (s.ctl l).flags ∧
      (∀ f, (s.ctl l).transit = some f →
        (t.ctl l).outbound = (if f.removesHead then (s.ctl l).outbound.tail else (s.ctl l).outbound) ∧
        ((s.ctl l).busOff = false → PutsUp t)) ∧
      ((s.ctl l).transit = none → (t.ctl l).outbound = (s.ctl l).outbound)) ∧
    (∀ c, c = .canArbitrationLoss p ∨ c = .canBusError p →
      ∃ t, exec c s = .next t ∧ Kept t ∧ (t.ctl l).flags = (s.ctl l).flags ∧ (t.ctl l).outbound = (s.ctl l).outbound ∧
        ((s.ctl l).busOff = false → PutsUp t)) ∧
    ((s.ctl l).busOff = false →
      ∃ t, exec (.canBusOff p) s = .next t ∧ Kept t ∧ (t.ctl l).outbound = [] ∧ (t.ctl l).transit = none ∧
        (t.ctl l).busOff = true ∧ (t.ctl l).flags = { (s.ctl l).flags with noticesLost := true }) ∧
    ((s.ctl l).busOff = true → (s.ctl l).transit = none →
      ∃ t, exec (.canBusOffRecovery p) s = .next t ∧ Kept t ∧ (t.ctl l).busOff = false ∧ PutsUp t ∧
        (t.ctl l).outbound = (s.ctl l).outbound ∧ (t.ctl l).flags = (s.ctl l).flags)) ∧
  (∀ (s : State) (p : CanPort), ((s.ctl p.link).transit = none → s.busFrame p = none) ∧
    ∀ f m, (s.ctl p.link).transit = some f → f.msg = some m → s.busFrame p = some (f.ident, m.canPayload)) ∧
  ∀ m : OutMsg, m.bytes = m.kind :: m.tag :: byte m.fields.length :: m.fields ∧
    (m.bytes.length ≤ 64 →
      let sizes := [0, 1, 2, 3, 4, 5, 6, 7, 8, 12, 16, 20, 24, 32, 48, 64]
      m.canPayload.length ∈ sizes ∧ (∀ n ∈ sizes, m.bytes.length ≤ n → m.canPayload.length ≤ n) ∧
      m.bytes.length ≤ m.canPayload.length ∧ m.canPayload.take m.bytes.length = m.bytes ∧
      ∀ i, m.bytes.length ≤ i → byteAt m.canPayload i = 0)

/-- R176, R177: an SPI exchange begins, completes, and is cut short, in the running phase; R187: during the settings load an exchange
is answered with an empty marker and disregarded. A half of fewer than 36 bytes is one cut short (log 14, DESIGN CHOICE). What the
KS-4's half carries (12.3): marker and message, or an empty marker, zeros after them, and empty markers after the 36th byte. -/
def Obligations.SpiExchangesMoveMessages : Prop :=
  ((∀ s : State, s.phase = .loading →
    let c := s.ctl .detector
    (c.transit = none → ∃ t, exec .spiExchangeStart s = .next t ∧ t.besideLinks = s.besideLinks ∧
      t.ctl .detector =
        { c with transit := some { msg := none, ident := 0, removesHead := false, disregard := true } }) ∧
    ∀ i, i = .spiExchangeCutShort ∨ (∃ half, i = .spiExchange half) →
      ∃ t, exec i s = .next t ∧ t.besideLinks = s.besideLinks ∧ t.ctl .detector = { c with transit := none }) ∧
  ∀ s : State, s.phase = .running →
    let c := s.ctl .detector
    let Others := fun t : State => t.besideLinks = s.besideLinks ∧
      ∀ m, m ≠ .detector → (t.ctl m).inbound = (s.ctl m).inbound ∧ (t.ctl m).outbound = (s.ctl m).outbound ∧
        (t.ctl m).flags = (s.ctl m).flags
    (c.transit = none →
      ∃ t, exec .spiExchangeStart s = .next t ∧ Others t ∧
        t.ctl .detector =
          { c with
            transit := some
              { msg := c.outbound.head?, ident := 0, removesHead := c.outbound.head?.isSome, disregard := false } }) ∧
    (∀ (half : List Byte) (f : Transit), c.transit = some f → f.disregard = false → 36 ≤ half.length →
      ∃ t, exec (.spiExchange half) s = .next t ∧ Others t ∧ (t.ctl .detector).transit = none ∧
        (t.ctl .detector).outbound = (if f.removesHead then c.outbound.tail else c.outbound) ∧
        (byteAt half 0 = 0 → (t.ctl .detector).inbound = c.inbound ∧ (t.ctl .detector).flags = c.flags) ∧
        (byteAt half 0 = 1 → c.inbound.length < 16 →
          (t.ctl .detector).inbound = c.inbound ++
            [{ kind := byteAt half 1, tag := byteAt half 2, len := u8At half 3, carried := (half.drop 4).take 29 }] ∧
          (t.ctl .detector).ownerTimer = some (1000 * s.body.ownerTimeout .detector) ∧
          (t.ctl .detector).flags = c.flags) ∧
        (byteAt half 0 = 1 → 16 ≤ c.inbound.length →
          (t.ctl .detector).inbound = c.inbound ∧ (t.ctl .detector).flags = { c.flags with inboundOverrun := true }) ∧
        (1 < u8At half 0 →
          (t.ctl .detector).inbound = c.inbound ∧ (t.ctl .detector).flags = { c.flags with framing := true })) ∧
    (∀ i, i = .spiExchangeCutShort ∨ (∃ half, i = .spiExchange half ∧ half.length < 36) →
      ∃ t, exec i s = .next t ∧ Others t ∧
        t.ctl .detector = { c with transit := none, flags := { c.flags with framing := true } })) ∧
  ∀ (m : Option OutMsg) (n : Nat),
    (slaveHalf m).length = (match m with | some m => max 36 (m.bytes.length + 1) | none => 36) ∧
    slaveHalf none = List.replicate 36 0 ∧
    (∀ q, m = some q → byteAt (slaveHalf m) 0 = 1 ∧ ((slaveHalf m).drop 1).take q.bytes.length = q.bytes ∧
      ∀ i, q.bytes.length + 1 ≤ i → byteAt (slaveHalf m) i = 0) ∧
    ((∀ q, m = some q → q.bytes.length ≤ 32) →
      (slaveBytes m n).length = n ∧ ∀ i, i < n → byteAt (slaveBytes m n) i = if i < 36 then byteAt (slaveHalf m) i else 0)

/-- R181, R182: a notice replaces one of its kind and subject in place, joins the tail, or is dropped at a full queue; a reply joins
the tail, the oldest notice of a full queue making room for it; a head that is replaced or removed while it is being sent is not
removed by the sending's end. R24, R40, R126, R151, R189, R196, R201: a command of the running KS-4 that changes what a camera, a zone,
the arbiter, the settings block or the supply monitor notifies leaves the notice of the new values queued on every link whose notice
set includes its kind, or NOTICES_LOST set there. R100: so does a slot whose lifetime runs out, on its owner's link alone (the reason
EXPIRED is coded 0: log 22, DEDUCED). -/
def Obligations.OutboundQueueOrder : Prop :=
  ((∀ (c : LinkCtl) (m : OutMsg), m.notice.isSome = true →
    let Same := fun i => (c.outbound[i]?).any fun q => q.notice == m.notice
    (∀ i, Same i = true → (∀ j < i, Same j = false) →
      (c.pushNotice m).outbound = c.outbound.set i m ∧ (c.pushNotice m).flags = c.flags ∧
      (i = 0 → ∀ t, (c.pushNotice m).transit = some t → t.removesHead = false)) ∧
    ((∀ i, Same i = false) → c.outbound.length < 12 →
      c.pushNotice m = { c with outbound := c.outbound ++ [m] }) ∧
    ((∀ i, Same i = false) → 12 ≤ c.outbound.length →
      c.pushNotice m = { c with flags := { c.flags with noticesLost := true } })) ∧
  ∀ (c : LinkCtl) (m : OutMsg), m.notice = none →
    (c.outbound.length < 12 → c.pushReply m = { c with outbound := c.outbound ++ [m] }) ∧
    ∀ i, 12 ≤ c.outbound.length → ((c.outbound[i]?).any fun q => q.notice.isSome) = true →
      (∀ j < i, ((c.outbound[j]?).any fun q => q.notice.isSome) = false) →
      (c.pushReply m).outbound = c.outbound.eraseIdx i ++ [m] ∧
      (c.pushReply m).flags = { c.flags with noticesLost := true } ∧
      (i = 0 → ∀ t, (c.pushReply m).transit = some t → t.removesHead = false)) ∧
  (∀ (s : State) (k : NoticeKind) (n : Nat) (fields : List Byte) (l : Link), s.phase = .running →
    (s.raise k n fields).ctl l =
      if s.body.wantsNotice l.ix.val k.index then (s.ctl l).pushNotice (noticeMsg k n fields) else s.ctl l) ∧
  (∀ (i : Instr) (s t : State) (l : Link), s.phase = .running → t.phase = .running → exec i s = .next t → i ≠ .resetN →
    (∀ m, i ≠ .reset m) →
    let Told := fun (k : NoticeKind) (n : Nat) (fields : List Byte) =>
      t.body.wantsNotice l.ix.val k.index = true →
        noticeMsg k n fields ∈ (t.ctl l).outbound ∨ (t.ctl l).flags.noticesLost = true
    (∀ c, t.cameraFace c ≠ s.cameraFace c → Told .camera c.val (t.cameraFields c)) ∧
    (∀ z, (t.zoneRec z).face ≠ (s.zoneRec z).face → Told .zone z.val (t.zoneRec z).fields) ∧
    (t.arbiter.shownView ≠ s.arbiter.shownView ∨ t.arbiter.shownCause ≠ s.arbiter.shownCause →
      Told .view 0 [byte t.arbiter.shownView, byte ((t.arbiter.shownCause.map Fin.val).getD 255)]) ∧
    (t.supply.state ≠ s.supply.state → Told .supply 0 [byte t.supply.state.code]) ∧
    (s.settings.sameFace t.settings = false →
      Told .settings 0
        [byte t.settings.state.code, yesNo t.settings.serviceIn, yesNo t.settings.exitPending,
          yesNo t.settings.commit.isSome, byte t.settings.lastWrite.code])) ∧
  (∀ (s : State) (i : ObjSlot) (o : ObjRecord) (h : Nat), s.phase = .running → s.slot i = some o → o.marked = true →
    o.lifetime = 1 → s.body.wantsNotice o.owner.ix.val 5 = true → h ≤ 31 → s.body.resolve o.owner h = some i →
    (∀ k < h, s.body.resolve o.owner k ≠ some i) →
    ∃ t, exec .outputFrameEnd s = .next t ∧
      (noticeMsg .object h [byte i.val, 0] ∈ (t.ctl o.owner).outbound ∨ (t.ctl o.owner).flags.noticesLost = true)) ∧
  ∀ (k : NoticeKind) (n : Nat) (fields : List Byte),
    (noticeMsg k n fields).kind =
        (match k with | .zone => 0x81 | .camera => 0x82 | .view => 0x83 | .supply => 0x84 | .settings => 0x85 | .object => 0x86) ∧
      (noticeMsg k n fields).tag = 0 ∧ (noticeMsg k n fields).fields = byte n :: fields ∧
      (noticeMsg k n fields).notice = some (k, n)

/-- R179, R183, R184, R201: a STATUS_QUERY reports and clears the link's flags and carries the part it names, or is MALFORMED and
clears none; a request of an unknown kind, whatever its length, is answered UNKNOWN_KIND on kind 0x7F; one of a known kind that is
too short for it, or whose length field is above 29 or names more bytes than are carried, is answered MALFORMED. What each part
carries (Table 10-6, R24, R57, R76, R126, R151), and which queries are MALFORMED; the codes of a calibration state, of a LEVEL cause
and of a mask, and the parts' numbers, are log 22 (DEDUCED), the age log 11 (DEDUCED). -/
def Obligations.LinkControllersAnswerForThemselves : Prop :=
  ((∀ (s : State) (l : Link) (r : Request) (part : List Byte), s.Ready l .statusQuery r → s.queryPart r.fields = some part →
    ∃ t, exec (.statusQuery l) s = .next t ∧ s.Replied t l r ⟨.done, (s.ctl l).flags.byte :: part⟩ ∧
      (t.ctl l).flags =
        { inboundOverrun := false, noticesLost := decide (12 ≤ (s.ctl l).outbound.length), objectsPurged := false
          framing := false } ∧
      (∀ m, m ≠ l → (t.ctl m).flags = (s.ctl m).flags ∧ (t.ctl m).outbound = (s.ctl m).outbound) ∧
      t.besideLinks = s.besideLinks) ∧
  (∀ (s : State) (l : Link) (r : Request), s.phase = .running → (s.ctl l).inbound.head? = some r →
    (s.ctl l).canReply = true → r.row ≠ .unknownKind →
    (29 < r.len ∨ r.carried.length < r.len ∨ r.len < r.row.leastLength) →
    ∃ t, exec (r.row.command l) s = .next t ∧ s.OnlyReplied t l r (.refuse .malformed) ∧ t.besideLinks = s.besideLinks) ∧
  (∀ (s : State) (l : Link) (r : Request), s.Ready l .statusQuery r → s.queryPart r.fields = none →
    ∃ t, exec (.statusQuery l) s = .next t ∧ s.OnlyReplied t l r (.refuse .malformed) ∧ t.besideLinks = s.besideLinks) ∧
  ∀ (s : State) (l : Link) (r : Request), s.phase = .running → (s.ctl l).inbound.head? = some r → r.row = .unknownKind →
    (s.ctl l).canReply = true →
    ∃ t, exec (.unknownKind l) s = .next t ∧ s.OnlyReplied t l r (.refuse .unknownKind) ∧
      (replyMsg r (.refuse .unknownKind)).kind = 0x7F ∧ t.besideLinks = s.besideLinks) ∧
  ∀ (s : State) (l : Link) (r : Request), s.Ready l .statusQuery r →
    let f := r.fields
    let Answers := fun part : List Byte =>
      ∃ t, exec (.statusQuery l) s = .next t ∧ s.Replied t l r ⟨.done, (s.ctl l).flags.byte :: part⟩ ∧
        t.besideLinks = s.besideLinks
    (u8At f 0 = 0 → Answers
      ([byte s.supply.state.code, byte s.settings.state.code, yesNo s.settings.serviceIn, yesNo s.settings.commit.isSome,
          byte s.arbiter.shownView, byte ((s.arbiter.shownCause.map Fin.val).getD 255), yesNo s.arbiter.showTimer.isSome] ++
        ((List.finRange 4).flatMap fun c =>
          [byte (s.recv c).lock.code, byte (s.pict c).freshness.code, byte (s.pict c).shownAge]) ++
        (List.finRange 8).map fun z => byte (s.zoneRec z).state.code)) ∧
    (∀ c : Camera, u8At f 0 = 1 → 2 ≤ f.length → u8At f 1 = c.val → Answers
      ([byte c.val, byte (s.recv c).lock.code, byte (s.recv c).mode.code, yesNo (s.recv c).degraded,
          yesNo (s.recv c).notFollowing] ++
        (match (s.recv c).accepted with
          | none => List.replicate 10 0
          | some a =>
            [1, byte a.kind, yesNo a.checksSent] ++ be16 a.temperature ++
              [yesNo a.misted, yesNo a.heaterRunning, yesNo a.sensorFault, byte a.gain, byte a.duty]) ++
        [byte (s.pict c).freshness.code, byte (s.pict c).shownAge, byte (s.reg c).gain,
          byte (if s.supply.state = .crank then 0 else (s.reg c).duty),
          yesNo (decide (s.supply.state = .normal) && (s.reg c).heater), yesNo (s.reg c).stopTimer.isSome] ++
        (match (s.reg c).reading with
          | none => [0, 0, 0]
          | some m => [1, byte m.mean, yesNo m.glare]) ++
        [if (s.body.calibration c).calibrated then 0 else 1])) ∧
    (∀ half : Fin 2, u8At f 0 = 2 → 2 ≤ f.length → u8At f 1 = half.val → Answers
      ((List.finRange 4).flatMap fun j =>
        let z : Zone := ⟨4 * half.val + j.val, by omega⟩
        [byte (s.zoneRec z).state.code, byte (s.zoneRec z).held.code, byte (s.zoneRec z).occupancy,
          yesNo (s.zoneRec z).acked] ++ be16 (s.zoneRec z).dwell)) ∧
    (u8At f 0 = 3 → Answers
      ((List.finRange 12).flatMap fun i =>
        let c := s.body.cause i
        [if c.latched then byte (s.causeRec i).stage.code else yesNo (c.enabled && c.source.holds s.vehicle.conds),
          byte ((if (s.causeRec i).masks ≠ 0 then 1 else 0) +
            if c.maxSpeed ≠ 0 ∧ c.maxSpeed < s.vehicle.speed then 2 else 0)])) ∧
    (3 < u8At f 0 ∨ (u8At f 0 = 1 ∧ (f.length < 2 ∨ 3 < u8At f 1)) ∨ (u8At f 0 = 2 ∧ (f.length < 2 ∨ 1 < u8At f 1)) →
      ∃ t, exec (.statusQuery l) s = .next t ∧ s.OnlyReplied t l r (.refuse .malformed) ∧ t.besideLinks = s.besideLinks)

/-! ## Settings -/

/-- R191: SERVICE_ENTER and SERVICE_EXIT, and what refuses them. A change of SERVICE is a condition change (R103, R111): the zones are
evaluated and the arbiter chooses (R119, R141, R148, R149; the order is logs 18, 34 and 40, DESIGN CHOICE). That the reply comes after
the SETTINGS and other notices of the same
request (`State.Replied`) is log 19 (DESIGN CHOICE). -/
def Obligations.ServiceStateIsEnteredAndLeft : Prop :=
  ∀ (s : State) (l : Link) (r : Request),
    (s.Ready l .serviceEnter r →
      let Refused := fun code =>
        ∃ t, exec (.serviceEnter l) s = .next t ∧ s.OnlyReplied t l r (.refuse code) ∧ t.besideLinks = s.besideLinks
      let standing := s.vehicle.speed = 0 ∧ s.vehicle.raw.map RawChassis.gear ≠ some .reverse
      (l ≠ .chassis → Refused .notPermitted) ∧ (l = .chassis → ¬ standing → Refused .notInService) ∧
      (l = .chassis → standing →
        ∃ t, exec (.serviceEnter l) s = .next t ∧
          (s.settings.serviceIn = false →
            t.settings = { s.settings with serviceIn := true, staging := some s.settings.working } ∧
            t.vehicle = { s.vehicle with conds := { s.vehicle.conds with service := true } }) ∧
          (s.settings.serviceIn = true → t.settings = { s.settings with exitPending := false } ∧ t.vehicle = s.vehicle) ∧
          s.ZonesTold t ∧ s.ArbiterTold t ∧ s.Replied t l r .done ∧ t.besideVehicle = s.besideVehicle)) ∧
    (s.Ready l .serviceExit r →
      let Refused := fun code =>
        ∃ t, exec (.serviceExit l) s = .next t ∧ s.OnlyReplied t l r (.refuse code) ∧ t.besideLinks = s.besideLinks
      (l ≠ .chassis → Refused .notPermitted) ∧
      (l = .chassis → s.settings.serviceIn = false → Refused .notInService) ∧
      (l = .chassis → s.settings.serviceIn = true →
        ∃ t, exec (.serviceExit l) s = .next t ∧
          (s.settings.commit = none →
            t.settings = { s.settings with serviceIn := false, staging := none, exitPending := false } ∧
            t.vehicle = { s.vehicle with conds := { s.vehicle.conds with service := false } }) ∧
          (s.settings.commit ≠ none → t.settings = { s.settings with exitPending := true } ∧ t.vehicle = s.vehicle) ∧
          s.ZonesTold t ∧ s.ArbiterTold t ∧ s.Replied t l r .done ∧ t.besideVehicle = s.besideVehicle))

/-- R192: SETTINGS_WRITE replaces bytes of the staging copy and SETTINGS_READ answers bytes of the working copy, each after its
refusals in their order. -/
def Obligations.SettingsWriteAndRead : Prop :=
  (∀ (s : State) (l : Link) (r : Request), s.Ready l .settingsWrite r →
    let Refused := fun code =>
      ∃ t, exec (.settingsWrite l) s = .next t ∧ s.OnlyReplied t l r (.refuse code) ∧ t.besideLinks = s.besideLinks
    let n := u8At r.fields 0
    let off := u16At r.fields 1
    let count := r.fields.length - 3
    let fits := 1 ≤ n ∧ n ≤ 8 ∧ count ≤ 24 ∧ off + count ≤ sectionLength n
    (l ≠ .chassis → Refused .notPermitted) ∧
    (l = .chassis → s.settings.serviceIn = false → Refused .notInService) ∧
    (l = .chassis → s.settings.serviceIn = true → s.settings.commit ≠ none → Refused .busy) ∧
    (l = .chassis → s.settings.serviceIn = true → s.settings.commit = none → ¬ fits → Refused .malformed) ∧
    (l = .chassis → s.settings.serviceIn = true → s.settings.commit = none → fits →
      ∀ x, s.settings.staging = some x → x.wf = true →
        ∃ t y, exec (.settingsWrite l) s = .next t ∧ t.settings = { s.settings with staging := some y } ∧ y.wf = true ∧
          (∀ m i, 1 ≤ m → byteAt (y.sec m) i =
            if m = n ∧ off ≤ i ∧ i < off + count then byteAt r.fields (3 + (i - off)) else byteAt (x.sec m) i) ∧
          s.OnlyReplied t l r .done ∧ t.besideSettings = s.besideSettings)) ∧
  ∀ (s : State) (l : Link) (r : Request), s.Ready l .settingsRead r →
    let n := u8At r.fields 0
    let off := u16At r.fields 1
    let count := u8At r.fields 3
    let fits := 1 ≤ n ∧ n ≤ 8 ∧ 1 ≤ count ∧ count ≤ 24 ∧ off + count ≤ sectionLength n
    (¬ fits →
      ∃ t, exec (.settingsRead l) s = .next t ∧ s.OnlyReplied t l r (.refuse .malformed) ∧ t.besideLinks = s.besideLinks) ∧
    (fits →
      ∃ t, exec (.settingsRead l) s = .next t ∧
        s.OnlyReplied t l r ⟨.done, ((s.settings.working.sec n).drop off).take count⟩ ∧ t.besideLinks = s.besideLinks)

/-- R193, with R99, R51, R53, R104, R127, R136, R152: a SETTINGS_COMMIT is refused in the order given, answered INVALID with the first
failing section and item, or put in force at once. That every cause is QUIET after it, and that the zones' onsets come before the
arbiter's choice, holds because the arbiter is taken last (log 24, DESIGN CHOICE); that the reply comes after the notices of the same
request is log 19 (DESIGN CHOICE); which item is named is log 23 (DEDUCED). -/
def Obligations.CommitPutsTheStagingCopyInForce : Prop :=
  ∀ (s : State) (l : Link) (r : Request), s.Ready l .settingsCommit r →
    let Refused := fun a =>
      ∃ t, exec (.settingsCommit l) s = .next t ∧ s.OnlyReplied t l r a ∧ t.besideLinks = s.besideLinks
    (l ≠ .chassis → Refused (.refuse .notPermitted)) ∧
    (l = .chassis → s.settings.serviceIn = false → Refused (.refuse .notInService)) ∧
    (l = .chassis → s.settings.serviceIn = true → s.settings.commit ≠ none → Refused (.refuse .busy)) ∧
    (l = .chassis → s.settings.serviceIn = true → s.settings.commit = none → ∀ x, s.settings.staging = some x →
      (∀ n item, x.firstFailure = some (n, item) → Refused ⟨.invalid, byte n :: be16 item⟩) ∧
      (x.valid = true →
        ∃ t, exec (.settingsCommit l) s = .next t ∧ s.Replied t l r .done ∧ t.settings.working = x ∧
          t.settings.staging = some x ∧ t.settings.state = .modified ∧ t.settings.commit = some 400 ∧
          t.settings.committed = s.settings.committed ∧ t.settings.lastWrite = s.settings.lastWrite ∧
          t.settings.memory = s.settings.memory ∧
          (∀ i, t.slot i = match s.slot i with
            | some o => if x.maps o.owner (sectorOf i) then some o else none
            | none => none) ∧
          t.table.lit = s.table.lit ∧ t.table.blink = s.table.blink ∧
          (∀ c, (t.reg c).gain = min (max (s.reg c).gain (x.camera c).gainFloor) (x.camera c).gainCeiling ∧
            (t.reg c).low = 0 ∧ (t.reg c).high = 0 ∧ (t.reg c).reading = (s.reg c).reading) ∧
          (∀ c,
            let duty :=
              if (x.camera c).fitted = false then 0
              else if (s.reg c).duty ≠ 0 ∧ (s.reg c).duty < (x.camera c).stopDuty then (x.camera c).stopDuty
              else (s.reg c).duty
            (t.reg c).duty = duty ∧
            (t.reg c).stopTimer =
              (if duty ≠ (s.reg c).duty ∨ (s.body.camera c).stopDuty ≠ (x.camera c).stopDuty ∨ duty = 0 then none
               else (s.reg c).stopTimer) ∧
            ((s.recv c).accepted = none → (t.reg c).heater = false) ∧
            ∀ a, (s.recv c).accepted = some a → (t.reg c).heater =
              (a.misted || decide (a.temperature ≤ (x.camera c).heaterOn) ||
                (decide (a.temperature < (x.camera c).heaterOff) && (s.reg c).heater))) ∧
          (∀ m, (t.ctl m).flags.objectsPurged = true ↔
            (s.ctl m).flags.objectsPurged = true ∨
              ∃ i o, s.slot i = some o ∧ o.owner = m ∧ x.maps m (sectorOf i) = false) ∧
          (∀ z, (x.zone z).enabled = true →
            t.zoneRec z = ((s.zoneRec z).recount (x.zone z) x.countFloor s.tracks).evaluate (x.zone z) t.vehicle.conds) ∧
          (∃ a, t.OnsetsTaken s.zoneRec t.zoneRec s.arbiter a ∧
            State.ChoiceMade
              ((t.withArbiter a).withCauses fun i => { s.causeRec i with stage := .quiet, timer := none }) t) ∧
          t.vehicle.conds.moving = decide (x.movingThreshold ≤ s.vehicle.speed) ∧ t.vehicle.raw = s.vehicle.raw ∧
          (∀ z, (x.zone z).enabled = false →
            (t.zoneRec z).state = .idle ∧ (t.zoneRec z).dwell = 0 ∧ (t.zoneRec z).acked = false) ∧
          t.alert.flags = x.chimeFlags ∧
          (∀ i, (t.causeRec i).stage = .quiet ∧ (t.causeRec i).timer = none ∧
            (t.causeRec i).masks = (s.causeRec i).masks) ∧
          t.receivers = s.receivers ∧ t.pictures = s.pictures ∧ t.tracks = s.tracks ∧ t.supply = s.supply ∧
          t.generator = s.generator ∧ t.frame = s.frame))

/-- R194: the commit write completes or fails; exit pending ends service state, and the change of SERVICE reaches the zones and the
arbiter as a condition change (R103, R111, R119, R148; the order is logs 18, 34 and 40, DESIGN CHOICE). -/
def Obligations.CommitWriteEnds : Prop :=
  ∀ (s : State), s.phase = .running → s.SettingsOk → s.MemoryOk → s.settings.commit ≠ none →
    let Ended := fun t : State =>
      t.settings.commit = none ∧ t.settings.exitPending = false ∧ t.settings.working = s.settings.working ∧
      (s.settings.exitPending = true →
        t.settings.serviceIn = false ∧ t.settings.staging = none ∧ t.vehicle.conds.service = false) ∧
      (s.settings.exitPending = false →
        t.settings.serviceIn = s.settings.serviceIn ∧ t.settings.staging = s.settings.staging ∧ t.vehicle = s.vehicle) ∧
      s.ZonesTold t ∧ s.ArbiterTold t ∧ t.besideVehicle = s.besideVehicle
    (∃ t, exec .commitWriteComplete s = .next t ∧ Ended t ∧ t.settings.committed = some s.settings.working ∧
      t.settings.state = .valid ∧ t.settings.lastWrite = .done ∧
      t.settings.memory.validBody = some s.settings.working) ∧
    ∀ c, c = .commitWriteFailed ∨ c = .commitLimitExpiry →
      ∃ t, exec c s = .next t ∧ Ended t ∧ t.settings.committed = none ∧ t.settings.state = .modified ∧
        t.settings.lastWrite = .failed ∧ t.settings.memory.validBody = none

/-! ## Resets and supply -/

/-- R190, R194, R196, R197: a cold reset, and the supply's fall below 9.0 V; a commit in flight is cut off and leaves an invalid
record. That a cold reset does so in every phase is log 26; that a write cut off keeps the memory's bytes and sets the spoiled flag is
log 6; the values of `State.reset` that the spec does not give are log 4 (all DESIGN CHOICE). -/
def Obligations.ColdResetAndStopLoseEverything : Prop :=
  ∀ s : State,
    let memory := if s.settings.commit = none then s.settings.memory else { s.settings.memory with spoiled := true }
    (∀ low, ∃ t, exec (.coldReset low) s = .next t ∧ t.phase = .loading ∧
      t.supply = { state := .normal, dip := if low then some 20 else none, recovery := none } ∧
      t.settings.memory = memory ∧ t.resetLineHigh = s.resetLineHigh ∧ t.free = s.free ∧ t.pending = s.pending ∧
      { t with
        supply := State.reset.supply, settings := { t.settings with memory := State.reset.settings.memory }
        resetLineHigh := State.reset.resetLineHigh, free := State.reset.free, pending := State.reset.pending } =
        State.reset) ∧
    (s.phase ≠ .stopped → ∃ t, exec .supplyStop s = .next t ∧ t.phase = .stopped ∧ t.settings.load = none ∧
      t.settings.memory = memory ∧ t.resetLineHigh = s.resetLineHigh ∧ t.free = s.free ∧ t.pending = s.pending ∧
      t.frame = none ∧ t.attention = false ∧ t.alert.tone = none ∧ (∀ ns, t.alert.line ns = false) ∧
      t.alert.hzWarn = false ∧ t.alert.hzCaution = false ∧
      { t with
        phase := State.reset.phase
        settings := { t.settings with memory := State.reset.settings.memory, load := State.reset.settings.load }
        resetLineHigh := State.reset.resetLineHigh, free := State.reset.free, pending := State.reset.pending } =
        State.reset)

/-- R190, with R25, R58, R101, R128, R137, R153, R187, R189: the settings load ends, with the record where it is valid, else with
the built-in defaults; the blocks start from the working copy. -/
def Obligations.LoadEndStartsTheBlocks : Prop :=
  ∀ (s : State) (i : Instr) (found : Option Body), s.phase = .loading →
    (i = .settingsLoadEnd ∧ found = s.settings.memory.validBody) ∨
      ((i = .settingsLoadLimitExpiry ∨ i = .settingsLoadNotAcknowledged) ∧ found = none) →
    ∃ t b, exec i s = .next t ∧ b = found.getD Body.builtIn ∧ t.phase = .running ∧ t.settings.working = b ∧
      t.settings.committed = found ∧ t.settings.state = (if found.isSome then .valid else .defaulted) ∧
      t.settings.staging = none ∧ t.settings.serviceIn = false ∧ t.settings.exitPending = false ∧
      t.settings.commit = none ∧ t.settings.lastWrite = .none ∧ t.settings.load = none ∧
      t.settings.memory = s.settings.memory ∧
      (∀ c, t.recv c = Receiver.atReset) ∧
      (∀ c, t.reg c =
        { gain := (b.camera c).initialGain, duty := 0, low := 0, high := 0, stopTimer := none, heater := false
          reading := none }) ∧
      (∀ i, t.slot i = none) ∧ t.vehicle = Vehicle.atReset ∧ t.vehicle.speed = 1200 ∧ t.tracks = Tracks.atReset ∧
      (∀ z, (t.zoneRec z).state =
        if (b.zone z).enabled ∧ (b.zone z).armed Conditions.atReset then .clear else .idle) ∧
      t.alert.started = true ∧ t.alert.level = .off ∧ t.alert.hzWarn = false ∧ t.alert.hzCaution = false ∧
      t.alert.toneDuty = b.chimeVolume ∧ t.arbiter = Arbiter.atReset b.defaultView ∧
      (∀ l, (t.ctl l).inbound = [] ∧ (t.ctl l).flags = EventFlags.clear ∧
        (t.ctl l).ownerTimer = some (1000 * b.ownerTimeout l) ∧
        (b.wantsNotice l.ix.val 4 = true →
          (t.ctl l).outbound.getLast? = some (noticeMsg .settings 0 t.settings.fields))) ∧
      t.supply = s.supply ∧ t.generator = s.generator ∧ t.frame = s.frame ∧ t.pictures = s.pictures ∧
      t.resetLineHigh = s.resetLineHigh ∧ t.pending = s.pending

/-- R195, with R25, R42, R59, R102, R129, R137, R153, R171, R187: a warm reset, by a fall of the RESET_N line and by a RESET request
from CHASSIS, whose reply is the first message of the emptied queue; a rise of the line changes the line alone. The outbound queues
hold after it what it puts into them and nothing else: RESET's reply, the ZONE notices of the zones it makes CLEAR, and the SETTINGS
notice of a service state it ends; that they stand in this order is logs 34 and 38. An SPI exchange in progress runs to its end and
removes nothing, and its master's half is disregarded; a message that a CAN port was sending, the reply of a RESET just taken
included, is lost with its queue (that its frame ends with it is log 13), and a CAN port out of bus-off has the head of its new queue
up at the end of the reset's step (log 12). From which rows the frame being drawn is black are free values (log 16). These logs are
DESIGN CHOICES. -/
def Obligations.WarmResetRestartsTheBlocks : Prop :=
  let Reset := fun s t : State =>
    t.phase = .running ∧ (∀ c, t.recv c = { Receiver.atReset with lastWord := (s.recv c).lastWord }) ∧
    (∀ c i, ((t.pict c).slot i).state = (if (s.pict c).copy.bind Copy.source = some i then .superseded else .free) ∧
      ((t.pict c).slot i).holders =
        { monitor := false, recorder := false, copy := decide ((s.pict c).copy.bind Copy.source = some i) }) ∧
    (∀ c, (t.pict c).latest = none ∧ (t.pict c).age = 255 ∧ (t.pict c).freshness = .lost) ∧
    (∀ c, t.reg c = Regulator.atReset (s.body.camera c)) ∧ t.table = ObjectTable.atReset ∧
    t.vehicle = Vehicle.atReset ∧ t.tracks = Tracks.atReset ∧
    (∀ z, (t.zoneRec z).state =
      if (s.body.zone z).enabled ∧ (s.body.zone z).armed Conditions.atReset then .clear else .idle) ∧
    t.alert.level = .off ∧ t.alert.segment = none ∧ t.alert.hzWarn = false ∧ t.alert.hzCaution = false ∧
    t.alert.started = s.alert.started ∧ t.arbiter = Arbiter.atReset s.body.defaultView ∧
    (∀ f, s.frame = some f →
      ∃ rows, t.frame = some { f with blackFrom := some rows } ∧ ∀ b, f.blackFrom = some b → rows = b) ∧
    (s.frame = none → t.frame = none) ∧
    t.settings = { s.settings with serviceIn := false, staging := none, exitPending := false } ∧
    (∀ l, (t.ctl l).inbound = [] ∧ (t.ctl l).flags = EventFlags.clear ∧ (t.ctl l).busOff = (s.ctl l).busOff ∧
      (t.ctl l).ownerTimer = some (1000 * s.body.ownerTimeout l)) ∧
    (∀ f, (s.ctl .detector).transit = some f →
      (t.ctl .detector).transit = some { f with removesHead := false, disregard := true }) ∧
    ((s.ctl .detector).transit = none → (t.ctl .detector).transit = none) ∧
    (∀ p : CanPort,
      ((s.ctl p.link).busOff = true ∨ (t.ctl p.link).outbound = [] → (t.ctl p.link).transit = none) ∧
      ∀ m rest, (s.ctl p.link).busOff = false → (t.ctl p.link).outbound = m :: rest → (t.ctl p.link).transit =
        some { msg := some m, ident := s.body.canId p.link.ix.val (if m.notice.isSome then 2 else 1), removesHead := true
               disregard := false }) ∧
    t.attention = !(t.ctl .detector).outbound.isEmpty ∧
    t.supply = s.supply ∧ t.generator = s.generator ∧ t.pending = s.pending
  let Queued := fun (s t : State) (l : Link) =>
    (if s.body.wantsNotice l.ix.val 0 then
      ((List.finRange 8).filter fun z => (s.body.zone z).enabled && (s.body.zone z).armed Conditions.atReset).map fun z =>
        noticeMsg .zone z.val [1, 0, 0, 0, 0, 0]
     else []) ++
    (if s.settings.serviceIn && s.body.wantsNotice l.ix.val 4 then [noticeMsg .settings 0 t.settings.fields] else [])
  (∀ s : State, s.phase = .running → s.resetLineHigh = true →
    ∃ t, exec .resetN s = .next t ∧ Reset s t ∧ t.resetLineHigh = false ∧
      ∀ l, (t.ctl l).outbound = Queued s t l) ∧
  (∀ s : State, s.phase ≠ .running ∨ s.resetLineHigh = false →
    exec .resetN s = .next { s with resetLineHigh := false }) ∧
  (∀ s : State, exec .resetNRise s = .next { s with resetLineHigh := true }) ∧
  (∀ (s : State) (r : Request), s.Ready .chassis .reset r →
    ∃ t, exec (.reset .chassis) s = .next t ∧ Reset s t ∧ t.resetLineHigh = s.resetLineHigh ∧
      (t.ctl .chassis).outbound.head? = some (replyMsg r .done) ∧
      (t.ctl .chassis).outbound = replyMsg r .done :: Queued s t .chassis ∧
      ∀ l, l ≠ .chassis → (t.ctl l).outbound = Queued s t l) ∧
  ∀ (s : State) (l : Link) (r : Request), s.Ready l .reset r → l ≠ .chassis →
    ∃ t, exec (.reset l) s = .next t ∧ s.OnlyReplied t l r (.refuse .notPermitted) ∧ t.besideLinks = s.besideLinks

/-- R196, R54, R56: the supply monitor's four thresholds and two timers, in every phase but the stopped one. -/
def Obligations.SupplyMonitorFollowsTheThresholds : Prop :=
  ∀ s : State, s.phase ≠ .stopped →
    let Only := fun t : State => ({ t with links := s.links, supply := s.supply } : State) = s
    (∃ t, exec .supplyFallBelow18V s = .next t ∧ Only t ∧ t.supply.state = s.supply.state ∧
      t.supply.recovery = s.supply.recovery ∧
      t.supply.dip = if s.supply.state = .normal ∧ s.supply.dip = none then some 20 else s.supply.dip) ∧
    (∃ t, exec .supplyRiseTo18V s = .next t ∧ Only t ∧ t.supply.state = s.supply.state ∧
      t.supply.recovery = s.supply.recovery ∧
      t.supply.dip = if s.supply.state = .normal then none else s.supply.dip) ∧
    (∃ t, exec .supplyRiseTo20V s = .next t ∧ Only t ∧ t.supply.state = s.supply.state ∧ t.supply.dip = s.supply.dip ∧
      t.supply.recovery =
        if s.supply.state = .crank ∧ s.supply.recovery = none then some 200 else s.supply.recovery) ∧
    (∃ t, exec .supplyFallBelow20V s = .next t ∧ Only t ∧ t.supply.state = s.supply.state ∧
      t.supply.dip = s.supply.dip ∧ t.supply.recovery = if s.supply.state = .crank then none else s.supply.recovery) ∧
    (s.supply.dip ≠ none → ∃ t, exec .dipTimerExpiry s = .next t ∧
      t.supply = { state := .crank, dip := none, recovery := none } ∧
      (∀ c, t.reg c = { s.reg c with low := 0, high := 0, stopTimer := none }) ∧
      { t with links := s.links, supply := s.supply, regulators := s.regulators } = s) ∧
    (s.supply.recovery ≠ none → ∃ t, exec .recoveryTimerExpiry s = .next t ∧ t.supply.state = .normal ∧
      t.supply.recovery = none ∧ t.supply.dip = s.supply.dip ∧ Only t)

/-! ## Projection -/

/-- R66, R67, R68: for a calibration that R62 lets pass, a depth within the ladder has a rung and a fraction of 0 to 256, 256 at
depth_8 alone; the row, centre column and scale stay in their ranges; and a visible point is a pixel of the camera picture.
R156 to R168, R170, R171: a blend stays between the two values, every sample of an output pixel is 0 to 255; a pixel is black outside
the panes and after a warm reset, STARTING text or black in a STARTING frame, and in a pane the picture, grey without one, with the
pane's figures blended over it in their order: the outlines of the zones (one figure each: log 37, DESIGN CHOICE), the objects of
layers 0 to 5 that R82 shows, the markers, the objects of layers 6 and 7, the border of Table 9-3 with badge or text; in the strip the
icons, lit or faint, by the SLOW phase where they blink; a column pair is packed with its averages. The glyphs and icons are free values
(log 17). R169, R202: the frame tag's bytes and the tag line's samples. -/
def Obligations.ProjectionStaysInThePicture : Prop :=
  (∀ k : Calibration, k.Ok →
    (∀ d, k.locate d = none ↔ d < (k.rung 0).depth ∨ (k.rung 8).depth < d) ∧
    (∀ d i f, k.locate d = some (i, f) →
      i ≤ 7 ∧ (k.rung i).depth ≤ d ∧ (∀ j, i < j → j ≤ 7 → d < (k.rung j).depth) ∧ 0 ≤ f ∧ f ≤ 256 ∧
      (f = 256 ↔ d = (k.rung 8).depth) ∧ (d = (k.rung i).depth → f = 0) ∧
      (0 ≤ k.lerp Rung.row (i, f) ∧ k.lerp Rung.row (i, f) ≤ 479) ∧
      (0 ≤ k.lerp Rung.centre (i, f) ∧ k.lerp Rung.centre (i, f) ≤ 799) ∧
      (0 ≤ k.lerp Rung.scale (i, f) ∧ k.lerp Rung.scale (i, f) ≤ 1000)) ∧
    ∀ p q, k.see p = some q → k.calibrated = true ∧ 0 ≤ q.row ∧ q.row ≤ 479 ∧ 0 ≤ q.col ∧ q.col ≤ 799) ∧
  (∀ alpha o b lo hi : Nat, alpha ≤ 16 → lo ≤ o → lo ≤ b → o ≤ hi → b ≤ hi →
    lo ≤ blend alpha o b ∧ blend alpha o b ≤ hi ∧ blend 0 o b = b ∧ blend 16 o b = o ∧
      blend alpha o b = (alpha * o + (16 - alpha) * b + 8) / 16) ∧
  (∀ (s : State) (out : Output) (q : Px) (f : Frame) (v : Colour), s.frame = some f →
    (∀ k, f.body = .running k →
      k.settings.valid = true ∧ ∀ (i : ObjSlot) (o : ObjRecord), k.objects[i] = some o → o.colour ≤ 15) →
    s.outputPixel out q = some v → v.y ≤ 255 ∧ v.cb ≤ 255 ∧ v.cr ≤ 255) ∧
  (∀ (s : State) (out : Output) (q : Px),
    (s.frame = none → s.outputPixel out q = none) ∧
    ∀ f, s.frame = some f →
      let blacked := ∃ b, f.blackFrom = some b ∧ ((match out with | .monitor => b.1 | .recorder => b.2 : Nat) : Int) ≤ q.row
      (blacked → s.outputPixel out q = some ⟨16, 128, 128⟩) ∧
      (¬ blacked → (∀ p, f.body = .starting p → s.outputPixel out q =
        some (if textCovers (glyphsOf "STARTING") 2 ⟨228, match out with | .monitor => 576 | .recorder => 336⟩ q then
          ⟨235, 128, 128⟩ else ⟨16, 128, 128⟩)) ∧
        ∀ k, f.body = .running k → (out = .monitor → 32 ≤ q.row) →
          ((∀ p ∈ k.panesOf out, p.holds q = false) → s.outputPixel out q = some ⟨16, 128, 128⟩) ∧
          ∀ p, (k.panesOf out).find? (fun p => p.holds q) = some p →
            let shot := k.cameras[p.camera]
            let figures := k.figures out f.number p
            let base :=
              match shot.freshness, shot.slotOf out with
              | .lost, _ => ⟨128, 128, 128⟩
              | _, none => ⟨128, 128, 128⟩
              | _, some slot => p.picture ((s.pict p.camera).slot slot).pixels q
            s.outputPixel out q = some (drawAll figures q base) ∧
            let clear := ∀ g ∈ figures, g.covers q = false
            let i := q.row - p.py
            let j := q.col - p.px
            (clear → (shot.freshness = .lost ∨ shot.slotOf out = none) →
              s.outputPixel out q = some ⟨128, 128, 128⟩) ∧
            (∀ slot, clear → shot.freshness ≠ .lost → shot.slotOf out = some slot →
              let at_ := fun a b => cameraPixel ((s.pict p.camera).slot slot).pixels (p.cy + a).toNat (p.cx + b).toNat
              let mean := fun get : Colour → Nat =>
                (get (cameraPixel ((s.pict p.camera).slot slot).pixels (p.cy + 2 * i).toNat (p.cx + 2 * j).toNat) +
                  get (cameraPixel ((s.pict p.camera).slot slot).pixels (p.cy + 2 * i).toNat ((p.cx + 2 * j).toNat + 1)) +
                  get (cameraPixel ((s.pict p.camera).slot slot).pixels ((p.cy + 2 * i).toNat + 1) (p.cx + 2 * j).toNat) +
                  get (cameraPixel ((s.pict p.camera).slot slot).pixels ((p.cy + 2 * i).toNat + 1)
                    ((p.cx + 2 * j).toNat + 1)) + 2) / 4
              (p.half = false → s.outputPixel out q = some (at_ i j)) ∧
              (p.half = true → s.outputPixel out q = some ⟨mean Colour.y, mean Colour.cb, mean Colour.cr⟩)) ∧
            (p.border q = true → (∀ g ∈ (p.sixth shot).tail, g.covers q = false) →
              s.outputPixel out q = some
                (if shot.freshness = .lost then ⟨82, 90, 240⟩
                 else if shot.freshness = .stale ∨ shot.degraded = true then ⟨170, 40, 170⟩ else ⟨160, 128, 128⟩)))) ∧
  (∀ (k : Snapshot) (out : Output) (number : BitVec 32) (p : Pane),
    let camera := k.settings.calibration p.camera
    let entry := fun (e : Nat) (covers : Px → Bool) =>
      ({ covers := covers, colour := k.settings.paletteColour e, alpha := k.settings.paletteAlpha e } : Figure)
    let shot := k.cameras[p.camera]
    let outlines := (List.finRange 8).filterMap fun z =>
      let cfg := k.settings.zone z
      let r := k.zones[z]
      let lines := (camera.outline ⟨cfg.xMin, cfg.yMin⟩ ⟨cfg.xMax, cfg.yMax⟩).map fun l => (p.map l.1, p.map l.2)
      if cfg.enabled = true ∧ r.state ≠ .idle then
        some (entry
          (if r.state = .clear then cfg.colourClear
           else if r.state = .warning ∨ (r.state = .hold ∧ r.held = .warning) then cfg.colourWarning else cfg.colourCaution)
          (linesCover (if p.half then 1 else 2) lines))
      else none
    let objects := fun layers : List Nat =>
      (layers.flatMap fun n => (k.objects.toList.filterMap id).filter fun o =>
        decide (o.layer = n ∧ (o.showConds = 0 ∨ k.conds.bits &&& o.showConds ≠ 0)) && o.outputs.getLsbD out.bit &&
          o.cameras.getLsbD p.camera.val && o.blink.on number).map fun o =>
        entry o.colour (o.shape.covers o.anchor camera p)
    let markers := (k.tracks.toList.filterMap id).filterMap fun t =>
      match camera.see ⟨t.x, t.y⟩ with
      | some q =>
        if k.settings.countFloor ≤ t.confidence then
          some (entry (k.settings.markerColour t.cls.index) (markerCovers p.half t.cls (p.map q)))
        else none
      | none => none
    let rect := fun (row col h w : Int) (q : Px) =>
      decide (row ≤ q.row ∧ q.row < row + h ∧ col ≤ q.col ∧ q.col < col + w)
    k.figures out number p = outlines ++ objects [0, 1, 2, 3, 4, 5] ++ markers ++ objects [6, 7] ++ p.sixth shot ∧
    (∀ q, p.border q = true ↔ p.holds q = true ∧
      (q.row < p.py + 2 ∨ p.py + p.h - 2 ≤ q.row ∨ q.col < p.px + 2 ∨ p.px + p.w - 2 ≤ q.col)) ∧
    (shot.freshness = .fresh → (p.sixth shot).tail = []) ∧
    (shot.freshness = .stale → (p.sixth shot).tail =
      [⟨rect (p.py + 4) (p.px + 4) 16 36, ⟨16, 128, 128⟩, 16⟩,
       ⟨textCovers (glyphsOf "HELD") 1 ⟨p.py + 6, p.px + 6⟩, ⟨235, 128, 128⟩, 16⟩]) ∧
    (shot.freshness = .lost → (p.sixth shot).tail =
      [⟨textCovers (glyphsOf ("NO CAMERA " ++ toString p.camera.val)) 1 ⟨p.py + (p.h - 12) / 2, p.px + (p.w - 88) / 2⟩,
        ⟨235, 128, 128⟩, 16⟩])) ∧
  (∀ (half : Bool) (cls : TrackClass) (a q : Px),
    let w : Int := if half then 12 else 24
    let h : Int := if half then 16 else 32
    let n : Int := if half then 1 else 2
    let i := q.row - (a.row - (h - 1))
    let j := q.col - (a.col - w / 2)
    markerCovers half cls a q = true ↔
      (0 ≤ i ∧ i < h ∧ 0 ≤ j ∧ j < w ∧ (i < n ∨ h - n ≤ i ∨ j < n ∨ w - n ≤ j)) ∨
      textCovers (glyphsOf (match cls with | .pedestrian => "P" | .cyclist => "C" | .vehicle => "V" | .unknown => "U")) 1
        ⟨a.row - (h - 1) - 13, a.col - 4⟩ q = true) ∧
  (∀ n : BitVec 32, Blink.none.on n = true ∧ (Blink.slow.on n = true ↔ n.toNat % 32 < 16) ∧
    (Blink.fast.on n = true ↔ n.toNat % 8 < 4)) ∧
  (∀ (s : State) (q : Px) (f : Frame) (k : Snapshot), s.frame = some f → f.body = .running k →
    (∀ b, f.blackFrom = some b → q.row < (b.1 : Nat)) → 0 ≤ q.row → q.row < 32 → 0 ≤ q.col → q.col < 1280 →
    let at_ := (q.col / 40).toNat
    let x := q.col - 40 * at_
    let a := k.settings.strip at_
    let drawn := a.kind ≠ 0 ∧ 4 ≤ x ∧ x < 36 ∧ Config.iconPixel a.icon q.row.toNat (x - 4).toNat = true
    let Named := fun (n : Nat) => a.target = 255 ∨ a.target = n
    let lit := ∃ i : Fin 3, k.lit[i].getLsbD at_ = true
    let blinks := ∃ i : Fin 3, k.lit[i].getLsbD at_ = true ∧ k.blink[i].getLsbD at_ = true
    let on :=
      (a.kind = 1 ∧ lit ∧ (blinks → f.number.toNat % 32 < 16)) ∨
      (a.kind = 2 ∧ ∃ z : Zone, Named z.val ∧
        (k.zones[z].state = .caution ∨ k.zones[z].state = .warning ∨ k.zones[z].state = .hold)) ∨
      (a.kind = 3 ∧ ∃ z : Zone, Named z.val ∧
        (k.zones[z].state = .warning ∨ (k.zones[z].state = .hold ∧ k.zones[z].held = .warning))) ∨
      (a.kind = 4 ∧ ∃ c : Camera, Named c.val ∧ k.cameras[c].freshness ≠ .fresh) ∨
      (a.kind = 5 ∧ k.supply = .crank) ∨ (a.kind = 6 ∧ k.settingsState ≠ .valid)
    let mix := fun o b : Nat => (4 * o + 12 * b + 8) / 16
    let colour := k.settings.paletteColour a.entry
    (¬ drawn → s.outputPixel .monitor q = some ⟨16, 128, 128⟩) ∧
    (drawn → on → s.outputPixel .monitor q = some colour) ∧
    (drawn → ¬ on → s.outputPixel .monitor q = some ⟨mix colour.y 16, mix colour.cb 128, mix colour.cr 128⟩)) ∧
  (∀ (fs : List Figure) (g : Figure) (q : Px) (b : Colour),
    drawAll (fs ++ [g]) q b = if g.covers q then g.colour.over g.alpha (drawAll fs q b) else drawAll fs q b) ∧
  (∀ (s : State) (out : Output) (row j : Nat) (a b : Colour), s.outputPixel out ⟨row, 2 * j⟩ = some a →
    s.outputPixel out ⟨row, 2 * j + 1⟩ = some b →
    s.outputPair out row j = some (a.y, b.y, (a.cb + b.cb + 1) / 2, (a.cr + b.cr + 1) / 2)) ∧
  ∀ f : Frame, f.tag.length = 47 ∧ w32At f.tag 1 = f.number ∧ w32At f.tag 5 = f.millis ∧
    w16At f.tag 45 = crc16 (f.tag.take 45) ∧
    (∀ k, f.body = .running k → u8At f.tag 0 = 1 ∧
      (∀ c : Camera, u8At f.tag (9 + 2 * c.val) = k.cameras[c].freshness.code + 4 * k.cameras[c].lock.code ∧
        u8At f.tag (10 + 2 * c.val) = k.cameras[c].age % 256) ∧
      (∀ z : Zone, u8At f.tag (17 + 3 * z.val) = k.zones[z].state.code + (if k.zones[z].acked then 128 else 0) ∧
        u16At f.tag (18 + 3 * z.val) = k.zones[z].dwell % 65536) ∧
      u8At f.tag 41 = k.chime.code ∧ u8At f.tag 42 = k.shownView % 256 ∧ u8At f.tag 43 = k.supply.code ∧
      u8At f.tag 44 = k.settingsState.code) ∧
    (∀ p, f.body = .starting p → u8At f.tag 0 = 0 ∧
      (∀ c : Camera, u8At f.tag (9 + 2 * c.val) = 2 ∧ u8At f.tag (10 + 2 * c.val) = 255) ∧
      (∀ i, 17 ≤ i → i ≤ 42 → u8At f.tag i = 0) ∧ u8At f.tag 43 = p.code ∧ u8At f.tag 44 = 1) ∧
    ∀ j, j < 400 →
      let sample := fun i => if i < 47 then u8At f.tag i else 16
      f.tagLinePair j = (sample (2 * j), sample (2 * j + 1), 128, 128)
end

