-- ==== Sys2Proof/Laws/State.lean ====
section
/-! SUPPORT. What each update of a part of State leaves as it was, field by field, and what reading a home gives after it was
set. Every field lemma is true by `rfl`. -/

namespace Sys2Proof.Machine

/-! ## The fields an update does not touch -/

@[simp] theorem State.setCtl_keeps (s : State) (l : Link) (c : LinkCtl) :
    (s.setCtl l c).phase = s.phase ∧ (s.setCtl l c).resetLineHigh = s.resetLineHigh ∧
    (s.setCtl l c).receivers = s.receivers ∧ (s.setCtl l c).pictures = s.pictures ∧
    (s.setCtl l c).regulators = s.regulators ∧ (s.setCtl l c).table = s.table ∧ (s.setCtl l c).vehicle = s.vehicle ∧
    (s.setCtl l c).tracks = s.tracks ∧ (s.setCtl l c).zones = s.zones ∧ (s.setCtl l c).alert = s.alert ∧
    (s.setCtl l c).arbiter = s.arbiter ∧ (s.setCtl l c).frame = s.frame ∧ (s.setCtl l c).generator = s.generator ∧
    (s.setCtl l c).settings = s.settings ∧ (s.setCtl l c).supply = s.supply ∧ (s.setCtl l c).free = s.free ∧
    (s.setCtl l c).pending = s.pending ∧ (s.setCtl l c).body = s.body ∧ (s.setCtl l c).recv = s.recv ∧
    (s.setCtl l c).pict = s.pict ∧ (s.setCtl l c).reg = s.reg ∧ (s.setCtl l c).zoneRec = s.zoneRec ∧
    (s.setCtl l c).causeRec = s.causeRec ∧ (s.setCtl l c).slot = s.slot :=
  ⟨rfl, rfl, rfl, rfl, rfl, rfl, rfl, rfl, rfl, rfl, rfl, rfl, rfl, rfl, rfl, rfl, rfl, rfl, rfl, rfl, rfl, rfl, rfl, rfl⟩

@[simp] theorem State.onCtl_keeps (s : State) (l : Link) (f : LinkCtl → LinkCtl) :
    (s.onCtl l f).phase = s.phase ∧ (s.onCtl l f).resetLineHigh = s.resetLineHigh ∧ (s.onCtl l f).receivers = s.receivers ∧
    (s.onCtl l f).pictures = s.pictures ∧ (s.onCtl l f).regulators = s.regulators ∧ (s.onCtl l f).table = s.table ∧
    (s.onCtl l f).vehicle = s.vehicle ∧ (s.onCtl l f).tracks = s.tracks ∧ (s.onCtl l f).zones = s.zones ∧
    (s.onCtl l f).alert = s.alert ∧ (s.onCtl l f).arbiter = s.arbiter ∧ (s.onCtl l f).frame = s.frame ∧
    (s.onCtl l f).generator = s.generator ∧ (s.onCtl l f).settings = s.settings ∧ (s.onCtl l f).supply = s.supply ∧
    (s.onCtl l f).free = s.free ∧ (s.onCtl l f).pending = s.pending ∧ (s.onCtl l f).body = s.body ∧
    (s.onCtl l f).recv = s.recv ∧ (s.onCtl l f).pict = s.pict ∧ (s.onCtl l f).reg = s.reg ∧
    (s.onCtl l f).zoneRec = s.zoneRec ∧ (s.onCtl l f).causeRec = s.causeRec ∧ (s.onCtl l f).slot = s.slot :=
  ⟨rfl, rfl, rfl, rfl, rfl, rfl, rfl, rfl, rfl, rfl, rfl, rfl, rfl, rfl, rfl, rfl, rfl, rfl, rfl, rfl, rfl, rfl, rfl, rfl⟩

@[simp] theorem State.setRecv_keeps (s : State) (c : Camera) (r : Receiver) :
    (s.setRecv c r).phase = s.phase ∧ (s.setRecv c r).resetLineHigh = s.resetLineHigh ∧
    (s.setRecv c r).pictures = s.pictures ∧ (s.setRecv c r).regulators = s.regulators ∧ (s.setRecv c r).table = s.table ∧
    (s.setRecv c r).vehicle = s.vehicle ∧ (s.setRecv c r).tracks = s.tracks ∧ (s.setRecv c r).zones = s.zones ∧
    (s.setRecv c r).alert = s.alert ∧ (s.setRecv c r).arbiter = s.arbiter ∧ (s.setRecv c r).frame = s.frame ∧
    (s.setRecv c r).generator = s.generator ∧ (s.setRecv c r).links = s.links ∧ (s.setRecv c r).settings = s.settings ∧
    (s.setRecv c r).supply = s.supply ∧ (s.setRecv c r).free = s.free ∧ (s.setRecv c r).pending = s.pending ∧
    (s.setRecv c r).body = s.body ∧ (s.setRecv c r).ctl = s.ctl ∧ (s.setRecv c r).pict = s.pict ∧
    (s.setRecv c r).reg = s.reg ∧ (s.setRecv c r).zoneRec = s.zoneRec ∧ (s.setRecv c r).causeRec = s.causeRec ∧
    (s.setRecv c r).slot = s.slot :=
  ⟨rfl, rfl, rfl, rfl, rfl, rfl, rfl, rfl, rfl, rfl, rfl, rfl, rfl, rfl, rfl, rfl, rfl, rfl, rfl, rfl, rfl, rfl, rfl, rfl⟩

@[simp] theorem State.setPict_keeps (s : State) (c : Camera) (p : Picture) :
    (s.setPict c p).phase = s.phase ∧ (s.setPict c p).resetLineHigh = s.resetLineHigh ∧
    (s.setPict c p).receivers = s.receivers ∧ (s.setPict c p).regulators = s.regulators ∧ (s.setPict c p).table = s.table ∧
    (s.setPict c p).vehicle = s.vehicle ∧ (s.setPict c p).tracks = s.tracks ∧ (s.setPict c p).zones = s.zones ∧
    (s.setPict c p).alert = s.alert ∧ (s.setPict c p).arbiter = s.arbiter ∧ (s.setPict c p).frame = s.frame ∧
    (s.setPict c p).generator = s.generator ∧ (s.setPict c p).links = s.links ∧ (s.setPict c p).settings = s.settings ∧
    (s.setPict c p).supply = s.supply ∧ (s.setPict c p).free = s.free ∧ (s.setPict c p).pending = s.pending ∧
    (s.setPict c p).body = s.body ∧ (s.setPict c p).ctl = s.ctl ∧ (s.setPict c p).recv = s.recv ∧
    (s.setPict c p).reg = s.reg ∧ (s.setPict c p).zoneRec = s.zoneRec ∧ (s.setPict c p).causeRec = s.causeRec ∧
    (s.setPict c p).slot = s.slot :=
  ⟨rfl, rfl, rfl, rfl, rfl, rfl, rfl, rfl, rfl, rfl, rfl, rfl, rfl, rfl, rfl, rfl, rfl, rfl, rfl, rfl, rfl, rfl, rfl, rfl⟩

@[simp] theorem State.setReg_keeps (s : State) (c : Camera) (r : Regulator) :
    (s.setReg c r).phase = s.phase ∧ (s.setReg c r).resetLineHigh = s.resetLineHigh ∧
    (s.setReg c r).receivers = s.receivers ∧ (s.setReg c r).pictures = s.pictures ∧ (s.setReg c r).table = s.table ∧
    (s.setReg c r).vehicle = s.vehicle ∧ (s.setReg c r).tracks = s.tracks ∧ (s.setReg c r).zones = s.zones ∧
    (s.setReg c r).alert = s.alert ∧ (s.setReg c r).arbiter = s.arbiter ∧ (s.setReg c r).frame = s.frame ∧
    (s.setReg c r).generator = s.generator ∧ (s.setReg c r).links = s.links ∧ (s.setReg c r).settings = s.settings ∧
    (s.setReg c r).supply = s.supply ∧ (s.setReg c r).free = s.free ∧ (s.setReg c r).pending = s.pending ∧
    (s.setReg c r).body = s.body ∧ (s.setReg c r).ctl = s.ctl ∧ (s.setReg c r).recv = s.recv ∧ (s.setReg c r).pict = s.pict ∧
    (s.setReg c r).zoneRec = s.zoneRec ∧ (s.setReg c r).causeRec = s.causeRec ∧ (s.setReg c r).slot = s.slot :=
  ⟨rfl, rfl, rfl, rfl, rfl, rfl, rfl, rfl, rfl, rfl, rfl, rfl, rfl, rfl, rfl, rfl, rfl, rfl, rfl, rfl, rfl, rfl, rfl, rfl⟩

@[simp] theorem State.setZoneRec_keeps (s : State) (z : Zone) (r : ZoneRec) :
    (s.setZoneRec z r).phase = s.phase ∧ (s.setZoneRec z r).resetLineHigh = s.resetLineHigh ∧
    (s.setZoneRec z r).receivers = s.receivers ∧ (s.setZoneRec z r).pictures = s.pictures ∧
    (s.setZoneRec z r).regulators = s.regulators ∧ (s.setZoneRec z r).table = s.table ∧
    (s.setZoneRec z r).vehicle = s.vehicle ∧ (s.setZoneRec z r).tracks = s.tracks ∧ (s.setZoneRec z r).alert = s.alert ∧
    (s.setZoneRec z r).arbiter = s.arbiter ∧ (s.setZoneRec z r).frame = s.frame ∧
    (s.setZoneRec z r).generator = s.generator ∧ (s.setZoneRec z r).links = s.links ∧
    (s.setZoneRec z r).settings = s.settings ∧ (s.setZoneRec z r).supply = s.supply ∧ (s.setZoneRec z r).free = s.free ∧
    (s.setZoneRec z r).pending = s.pending ∧ (s.setZoneRec z r).body = s.body ∧ (s.setZoneRec z r).ctl = s.ctl ∧
    (s.setZoneRec z r).recv = s.recv ∧ (s.setZoneRec z r).pict = s.pict ∧ (s.setZoneRec z r).reg = s.reg ∧
    (s.setZoneRec z r).causeRec = s.causeRec ∧ (s.setZoneRec z r).slot = s.slot :=
  ⟨rfl, rfl, rfl, rfl, rfl, rfl, rfl, rfl, rfl, rfl, rfl, rfl, rfl, rfl, rfl, rfl, rfl, rfl, rfl, rfl, rfl, rfl, rfl, rfl⟩

@[simp] theorem State.setSettings_keeps (s : State) (b : SettingsBlock) :
    (s.setSettings b).phase = s.phase ∧ (s.setSettings b).resetLineHigh = s.resetLineHigh ∧
    (s.setSettings b).receivers = s.receivers ∧ (s.setSettings b).pictures = s.pictures ∧
    (s.setSettings b).regulators = s.regulators ∧ (s.setSettings b).table = s.table ∧ (s.setSettings b).vehicle = s.vehicle ∧
    (s.setSettings b).tracks = s.tracks ∧ (s.setSettings b).zones = s.zones ∧ (s.setSettings b).alert = s.alert ∧
    (s.setSettings b).arbiter = s.arbiter ∧ (s.setSettings b).frame = s.frame ∧ (s.setSettings b).generator = s.generator ∧
    (s.setSettings b).links = s.links ∧ (s.setSettings b).supply = s.supply ∧ (s.setSettings b).free = s.free ∧
    (s.setSettings b).pending = s.pending ∧ (s.setSettings b).ctl = s.ctl ∧ (s.setSettings b).recv = s.recv ∧
    (s.setSettings b).pict = s.pict ∧ (s.setSettings b).reg = s.reg ∧ (s.setSettings b).zoneRec = s.zoneRec ∧
    (s.setSettings b).causeRec = s.causeRec ∧ (s.setSettings b).slot = s.slot :=
  ⟨rfl, rfl, rfl, rfl, rfl, rfl, rfl, rfl, rfl, rfl, rfl, rfl, rfl, rfl, rfl, rfl, rfl, rfl, rfl, rfl, rfl, rfl, rfl, rfl⟩

@[simp] theorem State.setService_keeps (s : State) (on : Bool) :
    (s.setService on).phase = s.phase ∧ (s.setService on).resetLineHigh = s.resetLineHigh ∧
    (s.setService on).receivers = s.receivers ∧ (s.setService on).pictures = s.pictures ∧
    (s.setService on).regulators = s.regulators ∧ (s.setService on).table = s.table ∧ (s.setService on).tracks = s.tracks ∧
    (s.setService on).zones = s.zones ∧ (s.setService on).alert = s.alert ∧ (s.setService on).arbiter = s.arbiter ∧
    (s.setService on).frame = s.frame ∧ (s.setService on).generator = s.generator ∧ (s.setService on).links = s.links ∧
    (s.setService on).settings = s.settings ∧ (s.setService on).supply = s.supply ∧ (s.setService on).free = s.free ∧
    (s.setService on).pending = s.pending ∧ (s.setService on).body = s.body ∧ (s.setService on).ctl = s.ctl ∧
    (s.setService on).recv = s.recv ∧ (s.setService on).pict = s.pict ∧ (s.setService on).reg = s.reg ∧
    (s.setService on).zoneRec = s.zoneRec ∧ (s.setService on).causeRec = s.causeRec ∧ (s.setService on).slot = s.slot :=
  ⟨rfl, rfl, rfl, rfl, rfl, rfl, rfl, rfl, rfl, rfl, rfl, rfl, rfl, rfl, rfl, rfl, rfl, rfl, rfl, rfl, rfl, rfl, rfl, rfl,
    rfl⟩

@[simp] theorem State.setSupply_keeps (s : State) (u : Supply) :
    (s.setSupply u).phase = s.phase ∧ (s.setSupply u).resetLineHigh = s.resetLineHigh ∧
    (s.setSupply u).receivers = s.receivers ∧ (s.setSupply u).pictures = s.pictures ∧
    (s.setSupply u).regulators = s.regulators ∧ (s.setSupply u).table = s.table ∧ (s.setSupply u).vehicle = s.vehicle ∧
    (s.setSupply u).tracks = s.tracks ∧ (s.setSupply u).zones = s.zones ∧ (s.setSupply u).alert = s.alert ∧
    (s.setSupply u).arbiter = s.arbiter ∧ (s.setSupply u).frame = s.frame ∧ (s.setSupply u).generator = s.generator ∧
    (s.setSupply u).links = s.links ∧ (s.setSupply u).settings = s.settings ∧ (s.setSupply u).free = s.free ∧
    (s.setSupply u).pending = s.pending ∧ (s.setSupply u).body = s.body ∧ (s.setSupply u).ctl = s.ctl ∧
    (s.setSupply u).recv = s.recv ∧ (s.setSupply u).pict = s.pict ∧ (s.setSupply u).reg = s.reg ∧
    (s.setSupply u).zoneRec = s.zoneRec ∧ (s.setSupply u).causeRec = s.causeRec ∧ (s.setSupply u).slot = s.slot :=
  ⟨rfl, rfl, rfl, rfl, rfl, rfl, rfl, rfl, rfl, rfl, rfl, rfl, rfl, rfl, rfl, rfl, rfl, rfl, rfl, rfl, rfl, rfl, rfl, rfl,
    rfl⟩

@[simp] theorem State.setSlot_keeps (s : State) (i : ObjSlot) (o : Option ObjRecord) :
    (s.setSlot i o).phase = s.phase ∧ (s.setSlot i o).resetLineHigh = s.resetLineHigh ∧
    (s.setSlot i o).receivers = s.receivers ∧ (s.setSlot i o).pictures = s.pictures ∧
    (s.setSlot i o).regulators = s.regulators ∧ (s.setSlot i o).vehicle = s.vehicle ∧ (s.setSlot i o).tracks = s.tracks ∧
    (s.setSlot i o).zones = s.zones ∧ (s.setSlot i o).alert = s.alert ∧ (s.setSlot i o).arbiter = s.arbiter ∧
    (s.setSlot i o).frame = s.frame ∧ (s.setSlot i o).generator = s.generator ∧ (s.setSlot i o).links = s.links ∧
    (s.setSlot i o).settings = s.settings ∧ (s.setSlot i o).supply = s.supply ∧ (s.setSlot i o).free = s.free ∧
    (s.setSlot i o).pending = s.pending ∧ (s.setSlot i o).body = s.body ∧ (s.setSlot i o).ctl = s.ctl ∧
    (s.setSlot i o).recv = s.recv ∧ (s.setSlot i o).pict = s.pict ∧ (s.setSlot i o).reg = s.reg ∧
    (s.setSlot i o).zoneRec = s.zoneRec ∧ (s.setSlot i o).causeRec = s.causeRec :=
  ⟨rfl, rfl, rfl, rfl, rfl, rfl, rfl, rfl, rfl, rfl, rfl, rfl, rfl, rfl, rfl, rfl, rfl, rfl, rfl, rfl, rfl, rfl, rfl, rfl⟩

@[simp] theorem State.setCauseRec_keeps (s : State) (i : Cause) (r : CauseRec) :
    (s.setCauseRec i r).phase = s.phase ∧ (s.setCauseRec i r).resetLineHigh = s.resetLineHigh ∧
    (s.setCauseRec i r).receivers = s.receivers ∧ (s.setCauseRec i r).pictures = s.pictures ∧
    (s.setCauseRec i r).regulators = s.regulators ∧ (s.setCauseRec i r).table = s.table ∧
    (s.setCauseRec i r).vehicle = s.vehicle ∧ (s.setCauseRec i r).tracks = s.tracks ∧ (s.setCauseRec i r).zones = s.zones ∧
    (s.setCauseRec i r).alert = s.alert ∧ (s.setCauseRec i r).frame = s.frame ∧ (s.setCauseRec i r).generator = s.generator ∧
    (s.setCauseRec i r).links = s.links ∧ (s.setCauseRec i r).settings = s.settings ∧ (s.setCauseRec i r).supply = s.supply ∧
    (s.setCauseRec i r).free = s.free ∧ (s.setCauseRec i r).pending = s.pending ∧ (s.setCauseRec i r).body = s.body ∧
    (s.setCauseRec i r).ctl = s.ctl ∧ (s.setCauseRec i r).recv = s.recv ∧ (s.setCauseRec i r).pict = s.pict ∧
    (s.setCauseRec i r).reg = s.reg ∧ (s.setCauseRec i r).zoneRec = s.zoneRec ∧ (s.setCauseRec i r).slot = s.slot :=
  ⟨rfl, rfl, rfl, rfl, rfl, rfl, rfl, rfl, rfl, rfl, rfl, rfl, rfl, rfl, rfl, rfl, rfl, rfl, rfl, rfl, rfl, rfl, rfl, rfl⟩

@[simp] theorem State.setShownCause_keeps (s : State) (c : Option Cause) :
    (s.setShownCause c).phase = s.phase ∧ (s.setShownCause c).resetLineHigh = s.resetLineHigh ∧
    (s.setShownCause c).receivers = s.receivers ∧ (s.setShownCause c).pictures = s.pictures ∧
    (s.setShownCause c).regulators = s.regulators ∧ (s.setShownCause c).table = s.table ∧
    (s.setShownCause c).vehicle = s.vehicle ∧ (s.setShownCause c).tracks = s.tracks ∧ (s.setShownCause c).zones = s.zones ∧
    (s.setShownCause c).alert = s.alert ∧ (s.setShownCause c).frame = s.frame ∧ (s.setShownCause c).generator = s.generator ∧
    (s.setShownCause c).links = s.links ∧ (s.setShownCause c).settings = s.settings ∧ (s.setShownCause c).supply = s.supply ∧
    (s.setShownCause c).free = s.free ∧ (s.setShownCause c).pending = s.pending ∧ (s.setShownCause c).body = s.body ∧
    (s.setShownCause c).ctl = s.ctl ∧ (s.setShownCause c).recv = s.recv ∧ (s.setShownCause c).pict = s.pict ∧
    (s.setShownCause c).reg = s.reg ∧ (s.setShownCause c).zoneRec = s.zoneRec ∧ (s.setShownCause c).slot = s.slot :=
  ⟨rfl, rfl, rfl, rfl, rfl, rfl, rfl, rfl, rfl, rfl, rfl, rfl, rfl, rfl, rfl, rfl, rfl, rfl, rfl, rfl, rfl, rfl, rfl, rfl⟩

@[simp] theorem State.changeView_keeps (s : State) (v : Nat) (c : Option Cause) :
    (s.changeView v c).phase = s.phase ∧ (s.changeView v c).resetLineHigh = s.resetLineHigh ∧
    (s.changeView v c).receivers = s.receivers ∧ (s.changeView v c).pictures = s.pictures ∧
    (s.changeView v c).regulators = s.regulators ∧ (s.changeView v c).table = s.table ∧
    (s.changeView v c).vehicle = s.vehicle ∧ (s.changeView v c).tracks = s.tracks ∧ (s.changeView v c).zones = s.zones ∧
    (s.changeView v c).alert = s.alert ∧ (s.changeView v c).frame = s.frame ∧ (s.changeView v c).generator = s.generator ∧
    (s.changeView v c).links = s.links ∧ (s.changeView v c).settings = s.settings ∧ (s.changeView v c).supply = s.supply ∧
    (s.changeView v c).free = s.free ∧ (s.changeView v c).pending = s.pending ∧ (s.changeView v c).body = s.body ∧
    (s.changeView v c).ctl = s.ctl ∧ (s.changeView v c).recv = s.recv ∧ (s.changeView v c).pict = s.pict ∧
    (s.changeView v c).reg = s.reg ∧ (s.changeView v c).zoneRec = s.zoneRec ∧ (s.changeView v c).slot = s.slot :=
  ⟨rfl, rfl, rfl, rfl, rfl, rfl, rfl, rfl, rfl, rfl, rfl, rfl, rfl, rfl, rfl, rfl, rfl, rfl, rfl, rfl, rfl, rfl, rfl, rfl⟩

@[simp] theorem State.mapMasks_keeps (s : State) (f : Nat → BitVec 3 → BitVec 3) :
    (s.mapMasks f).phase = s.phase ∧ (s.mapMasks f).resetLineHigh = s.resetLineHigh ∧
    (s.mapMasks f).receivers = s.receivers ∧ (s.mapMasks f).pictures = s.pictures ∧
    (s.mapMasks f).regulators = s.regulators ∧ (s.mapMasks f).table = s.table ∧ (s.mapMasks f).vehicle = s.vehicle ∧
    (s.mapMasks f).tracks = s.tracks ∧ (s.mapMasks f).zones = s.zones ∧ (s.mapMasks f).alert = s.alert ∧
    (s.mapMasks f).frame = s.frame ∧ (s.mapMasks f).generator = s.generator ∧ (s.mapMasks f).links = s.links ∧
    (s.mapMasks f).settings = s.settings ∧ (s.mapMasks f).supply = s.supply ∧ (s.mapMasks f).free = s.free ∧
    (s.mapMasks f).pending = s.pending ∧ (s.mapMasks f).body = s.body ∧ (s.mapMasks f).ctl = s.ctl ∧
    (s.mapMasks f).recv = s.recv ∧ (s.mapMasks f).pict = s.pict ∧ (s.mapMasks f).reg = s.reg ∧
    (s.mapMasks f).zoneRec = s.zoneRec ∧ (s.mapMasks f).slot = s.slot :=
  ⟨rfl, rfl, rfl, rfl, rfl, rfl, rfl, rfl, rfl, rfl, rfl, rfl, rfl, rfl, rfl, rfl, rfl, rfl, rfl, rfl, rfl, rfl, rfl, rfl⟩

@[simp] theorem State.endMasked_keeps (s : State) :
    (s.endMasked).phase = s.phase ∧ (s.endMasked).resetLineHigh = s.resetLineHigh ∧ (s.endMasked).receivers = s.receivers ∧
    (s.endMasked).pictures = s.pictures ∧ (s.endMasked).regulators = s.regulators ∧ (s.endMasked).table = s.table ∧
    (s.endMasked).vehicle = s.vehicle ∧ (s.endMasked).tracks = s.tracks ∧ (s.endMasked).zones = s.zones ∧
    (s.endMasked).alert = s.alert ∧ (s.endMasked).frame = s.frame ∧ (s.endMasked).generator = s.generator ∧
    (s.endMasked).links = s.links ∧ (s.endMasked).settings = s.settings ∧ (s.endMasked).supply = s.supply ∧
    (s.endMasked).free = s.free ∧ (s.endMasked).pending = s.pending ∧ (s.endMasked).body = s.body ∧
    (s.endMasked).ctl = s.ctl ∧ (s.endMasked).recv = s.recv ∧ (s.endMasked).pict = s.pict ∧ (s.endMasked).reg = s.reg ∧
    (s.endMasked).zoneRec = s.zoneRec ∧ (s.endMasked).slot = s.slot :=
  ⟨rfl, rfl, rfl, rfl, rfl, rfl, rfl, rfl, rfl, rfl, rfl, rfl, rfl, rfl, rfl, rfl, rfl, rfl, rfl, rfl, rfl, rfl, rfl, rfl⟩

@[simp] theorem State.alertZone_keeps (s : State) (z : Zone) (f : ZoneFace) :
    (s.alertZone z f).phase = s.phase ∧ (s.alertZone z f).resetLineHigh = s.resetLineHigh ∧
    (s.alertZone z f).receivers = s.receivers ∧ (s.alertZone z f).pictures = s.pictures ∧
    (s.alertZone z f).regulators = s.regulators ∧ (s.alertZone z f).table = s.table ∧ (s.alertZone z f).vehicle = s.vehicle ∧
    (s.alertZone z f).tracks = s.tracks ∧ (s.alertZone z f).zones = s.zones ∧ (s.alertZone z f).arbiter = s.arbiter ∧
    (s.alertZone z f).frame = s.frame ∧ (s.alertZone z f).generator = s.generator ∧ (s.alertZone z f).links = s.links ∧
    (s.alertZone z f).settings = s.settings ∧ (s.alertZone z f).supply = s.supply ∧ (s.alertZone z f).free = s.free ∧
    (s.alertZone z f).pending = s.pending ∧ (s.alertZone z f).body = s.body ∧ (s.alertZone z f).ctl = s.ctl ∧
    (s.alertZone z f).recv = s.recv ∧ (s.alertZone z f).pict = s.pict ∧ (s.alertZone z f).reg = s.reg ∧
    (s.alertZone z f).zoneRec = s.zoneRec ∧ (s.alertZone z f).causeRec = s.causeRec ∧ (s.alertZone z f).slot = s.slot :=
  ⟨rfl, rfl, rfl, rfl, rfl, rfl, rfl, rfl, rfl, rfl, rfl, rfl, rfl, rfl, rfl, rfl, rfl, rfl, rfl, rfl, rfl, rfl, rfl, rfl,
    rfl⟩

@[simp] theorem State.alertCommit_keeps (s : State) :
    (s.alertCommit).phase = s.phase ∧ (s.alertCommit).resetLineHigh = s.resetLineHigh ∧
    (s.alertCommit).receivers = s.receivers ∧ (s.alertCommit).pictures = s.pictures ∧
    (s.alertCommit).regulators = s.regulators ∧ (s.alertCommit).table = s.table ∧ (s.alertCommit).vehicle = s.vehicle ∧
    (s.alertCommit).tracks = s.tracks ∧ (s.alertCommit).zones = s.zones ∧ (s.alertCommit).arbiter = s.arbiter ∧
    (s.alertCommit).frame = s.frame ∧ (s.alertCommit).generator = s.generator ∧ (s.alertCommit).links = s.links ∧
    (s.alertCommit).settings = s.settings ∧ (s.alertCommit).supply = s.supply ∧ (s.alertCommit).free = s.free ∧
    (s.alertCommit).pending = s.pending ∧ (s.alertCommit).body = s.body ∧ (s.alertCommit).ctl = s.ctl ∧
    (s.alertCommit).recv = s.recv ∧ (s.alertCommit).pict = s.pict ∧ (s.alertCommit).reg = s.reg ∧
    (s.alertCommit).zoneRec = s.zoneRec ∧ (s.alertCommit).causeRec = s.causeRec ∧ (s.alertCommit).slot = s.slot :=
  ⟨rfl, rfl, rfl, rfl, rfl, rfl, rfl, rfl, rfl, rfl, rfl, rfl, rfl, rfl, rfl, rfl, rfl, rfl, rfl, rfl, rfl, rfl, rfl, rfl,
    rfl⟩

@[simp] theorem State.raise_keeps (s : State) (k : NoticeKind) (n : Nat) (f : List Byte) :
    (s.raise k n f).phase = s.phase ∧ (s.raise k n f).resetLineHigh = s.resetLineHigh ∧
    (s.raise k n f).receivers = s.receivers ∧ (s.raise k n f).pictures = s.pictures ∧
    (s.raise k n f).regulators = s.regulators ∧ (s.raise k n f).table = s.table ∧ (s.raise k n f).vehicle = s.vehicle ∧
    (s.raise k n f).tracks = s.tracks ∧ (s.raise k n f).zones = s.zones ∧ (s.raise k n f).alert = s.alert ∧
    (s.raise k n f).arbiter = s.arbiter ∧ (s.raise k n f).frame = s.frame ∧ (s.raise k n f).generator = s.generator ∧
    (s.raise k n f).settings = s.settings ∧ (s.raise k n f).supply = s.supply ∧ (s.raise k n f).free = s.free ∧
    (s.raise k n f).pending = s.pending ∧ (s.raise k n f).body = s.body ∧ (s.raise k n f).recv = s.recv ∧
    (s.raise k n f).pict = s.pict ∧ (s.raise k n f).reg = s.reg ∧ (s.raise k n f).zoneRec = s.zoneRec ∧
    (s.raise k n f).causeRec = s.causeRec ∧ (s.raise k n f).slot = s.slot :=
  ⟨rfl, rfl, rfl, rfl, rfl, rfl, rfl, rfl, rfl, rfl, rfl, rfl, rfl, rfl, rfl, rfl, rfl, rfl, rfl, rfl, rfl, rfl, rfl, rfl⟩

@[simp] theorem State.settle_keeps (s : State) :
    (s.settle).phase = s.phase ∧ (s.settle).resetLineHigh = s.resetLineHigh ∧ (s.settle).receivers = s.receivers ∧
    (s.settle).pictures = s.pictures ∧ (s.settle).regulators = s.regulators ∧ (s.settle).table = s.table ∧
    (s.settle).vehicle = s.vehicle ∧ (s.settle).tracks = s.tracks ∧ (s.settle).zones = s.zones ∧ (s.settle).alert = s.alert ∧
    (s.settle).arbiter = s.arbiter ∧ (s.settle).frame = s.frame ∧ (s.settle).generator = s.generator ∧
    (s.settle).settings = s.settings ∧ (s.settle).supply = s.supply ∧ (s.settle).free = s.free ∧
    (s.settle).pending = s.pending ∧ (s.settle).body = s.body ∧ (s.settle).recv = s.recv ∧ (s.settle).pict = s.pict ∧
    (s.settle).reg = s.reg ∧ (s.settle).zoneRec = s.zoneRec ∧ (s.settle).causeRec = s.causeRec ∧ (s.settle).slot = s.slot :=
  ⟨rfl, rfl, rfl, rfl, rfl, rfl, rfl, rfl, rfl, rfl, rfl, rfl, rfl, rfl, rfl, rfl, rfl, rfl, rfl, rfl, rfl, rfl, rfl, rfl⟩

@[simp] theorem State.reply_keeps (s : State) (l : Link) (r : Request) (a : Answer) :
    (s.reply l r a).phase = s.phase ∧ (s.reply l r a).resetLineHigh = s.resetLineHigh ∧
    (s.reply l r a).receivers = s.receivers ∧ (s.reply l r a).pictures = s.pictures ∧
    (s.reply l r a).regulators = s.regulators ∧ (s.reply l r a).table = s.table ∧ (s.reply l r a).vehicle = s.vehicle ∧
    (s.reply l r a).tracks = s.tracks ∧ (s.reply l r a).zones = s.zones ∧ (s.reply l r a).alert = s.alert ∧
    (s.reply l r a).arbiter = s.arbiter ∧ (s.reply l r a).frame = s.frame ∧ (s.reply l r a).generator = s.generator ∧
    (s.reply l r a).settings = s.settings ∧ (s.reply l r a).supply = s.supply ∧ (s.reply l r a).free = s.free ∧
    (s.reply l r a).pending = s.pending ∧ (s.reply l r a).body = s.body ∧ (s.reply l r a).recv = s.recv ∧
    (s.reply l r a).pict = s.pict ∧ (s.reply l r a).reg = s.reg ∧ (s.reply l r a).zoneRec = s.zoneRec ∧
    (s.reply l r a).causeRec = s.causeRec ∧ (s.reply l r a).slot = s.slot :=
  ⟨rfl, rfl, rfl, rfl, rfl, rfl, rfl, rfl, rfl, rfl, rfl, rfl, rfl, rfl, rfl, rfl, rfl, rfl, rfl, rfl, rfl, rfl, rfl, rfl⟩

@[simp] theorem State.setFraming_keeps (s : State) (l : Link) :
    (s.setFraming l).phase = s.phase ∧ (s.setFraming l).resetLineHigh = s.resetLineHigh ∧
    (s.setFraming l).receivers = s.receivers ∧ (s.setFraming l).pictures = s.pictures ∧
    (s.setFraming l).regulators = s.regulators ∧ (s.setFraming l).table = s.table ∧ (s.setFraming l).vehicle = s.vehicle ∧
    (s.setFraming l).tracks = s.tracks ∧ (s.setFraming l).zones = s.zones ∧ (s.setFraming l).alert = s.alert ∧
    (s.setFraming l).arbiter = s.arbiter ∧ (s.setFraming l).frame = s.frame ∧ (s.setFraming l).generator = s.generator ∧
    (s.setFraming l).settings = s.settings ∧ (s.setFraming l).supply = s.supply ∧ (s.setFraming l).free = s.free ∧
    (s.setFraming l).pending = s.pending ∧ (s.setFraming l).body = s.body ∧ (s.setFraming l).recv = s.recv ∧
    (s.setFraming l).pict = s.pict ∧ (s.setFraming l).reg = s.reg ∧ (s.setFraming l).zoneRec = s.zoneRec ∧
    (s.setFraming l).causeRec = s.causeRec ∧ (s.setFraming l).slot = s.slot :=
  ⟨rfl, rfl, rfl, rfl, rfl, rfl, rfl, rfl, rfl, rfl, rfl, rfl, rfl, rfl, rfl, rfl, rfl, rfl, rfl, rfl, rfl, rfl, rfl, rfl⟩

@[simp] theorem State.setPurged_keeps (s : State) (l : Link) :
    (s.setPurged l).phase = s.phase ∧ (s.setPurged l).resetLineHigh = s.resetLineHigh ∧
    (s.setPurged l).receivers = s.receivers ∧ (s.setPurged l).pictures = s.pictures ∧
    (s.setPurged l).regulators = s.regulators ∧ (s.setPurged l).table = s.table ∧ (s.setPurged l).vehicle = s.vehicle ∧
    (s.setPurged l).tracks = s.tracks ∧ (s.setPurged l).zones = s.zones ∧ (s.setPurged l).alert = s.alert ∧
    (s.setPurged l).arbiter = s.arbiter ∧ (s.setPurged l).frame = s.frame ∧ (s.setPurged l).generator = s.generator ∧
    (s.setPurged l).settings = s.settings ∧ (s.setPurged l).supply = s.supply ∧ (s.setPurged l).free = s.free ∧
    (s.setPurged l).pending = s.pending ∧ (s.setPurged l).body = s.body ∧ (s.setPurged l).recv = s.recv ∧
    (s.setPurged l).pict = s.pict ∧ (s.setPurged l).reg = s.reg ∧ (s.setPurged l).zoneRec = s.zoneRec ∧
    (s.setPurged l).causeRec = s.causeRec ∧ (s.setPurged l).slot = s.slot :=
  ⟨rfl, rfl, rfl, rfl, rfl, rfl, rfl, rfl, rfl, rfl, rfl, rfl, rfl, rfl, rfl, rfl, rfl, rfl, rfl, rfl, rfl, rfl, rfl, rfl⟩

@[simp] theorem State.clearFlags_keeps (s : State) (l : Link) :
    (s.clearFlags l).phase = s.phase ∧ (s.clearFlags l).resetLineHigh = s.resetLineHigh ∧
    (s.clearFlags l).receivers = s.receivers ∧ (s.clearFlags l).pictures = s.pictures ∧
    (s.clearFlags l).regulators = s.regulators ∧ (s.clearFlags l).table = s.table ∧ (s.clearFlags l).vehicle = s.vehicle ∧
    (s.clearFlags l).tracks = s.tracks ∧ (s.clearFlags l).zones = s.zones ∧ (s.clearFlags l).alert = s.alert ∧
    (s.clearFlags l).arbiter = s.arbiter ∧ (s.clearFlags l).frame = s.frame ∧ (s.clearFlags l).generator = s.generator ∧
    (s.clearFlags l).settings = s.settings ∧ (s.clearFlags l).supply = s.supply ∧ (s.clearFlags l).free = s.free ∧
    (s.clearFlags l).pending = s.pending ∧ (s.clearFlags l).body = s.body ∧ (s.clearFlags l).recv = s.recv ∧
    (s.clearFlags l).pict = s.pict ∧ (s.clearFlags l).reg = s.reg ∧ (s.clearFlags l).zoneRec = s.zoneRec ∧
    (s.clearFlags l).causeRec = s.causeRec ∧ (s.clearFlags l).slot = s.slot :=
  ⟨rfl, rfl, rfl, rfl, rfl, rfl, rfl, rfl, rfl, rfl, rfl, rfl, rfl, rfl, rfl, rfl, rfl, rfl, rfl, rfl, rfl, rfl, rfl, rfl⟩

@[simp] theorem State.mapLinks_keeps (s : State) (f : Nat → LinkCtl → Nat → LinkCtl) :
    (s.mapLinks f).phase = s.phase ∧ (s.mapLinks f).resetLineHigh = s.resetLineHigh ∧
    (s.mapLinks f).receivers = s.receivers ∧ (s.mapLinks f).pictures = s.pictures ∧
    (s.mapLinks f).regulators = s.regulators ∧ (s.mapLinks f).table = s.table ∧ (s.mapLinks f).vehicle = s.vehicle ∧
    (s.mapLinks f).tracks = s.tracks ∧ (s.mapLinks f).zones = s.zones ∧ (s.mapLinks f).alert = s.alert ∧
    (s.mapLinks f).arbiter = s.arbiter ∧ (s.mapLinks f).frame = s.frame ∧ (s.mapLinks f).generator = s.generator ∧
    (s.mapLinks f).settings = s.settings ∧ (s.mapLinks f).supply = s.supply ∧ (s.mapLinks f).free = s.free ∧
    (s.mapLinks f).pending = s.pending ∧ (s.mapLinks f).body = s.body ∧ (s.mapLinks f).recv = s.recv ∧
    (s.mapLinks f).pict = s.pict ∧ (s.mapLinks f).reg = s.reg ∧ (s.mapLinks f).zoneRec = s.zoneRec ∧
    (s.mapLinks f).causeRec = s.causeRec ∧ (s.mapLinks f).slot = s.slot :=
  ⟨rfl, rfl, rfl, rfl, rfl, rfl, rfl, rfl, rfl, rfl, rfl, rfl, rfl, rfl, rfl, rfl, rfl, rfl, rfl, rfl, rfl, rfl, rfl, rfl⟩

@[simp] theorem State.withPending_keeps (s : State) (q : List Instr) :
    (s.withPending q).phase = s.phase ∧ (s.withPending q).resetLineHigh = s.resetLineHigh ∧
    (s.withPending q).receivers = s.receivers ∧ (s.withPending q).pictures = s.pictures ∧
    (s.withPending q).regulators = s.regulators ∧ (s.withPending q).table = s.table ∧ (s.withPending q).vehicle = s.vehicle ∧
    (s.withPending q).tracks = s.tracks ∧ (s.withPending q).zones = s.zones ∧ (s.withPending q).alert = s.alert ∧
    (s.withPending q).arbiter = s.arbiter ∧ (s.withPending q).frame = s.frame ∧ (s.withPending q).generator = s.generator ∧
    (s.withPending q).links = s.links ∧ (s.withPending q).settings = s.settings ∧ (s.withPending q).supply = s.supply ∧
    (s.withPending q).free = s.free ∧ (s.withPending q).body = s.body ∧ (s.withPending q).ctl = s.ctl ∧
    (s.withPending q).recv = s.recv ∧ (s.withPending q).pict = s.pict ∧ (s.withPending q).reg = s.reg ∧
    (s.withPending q).zoneRec = s.zoneRec ∧ (s.withPending q).causeRec = s.causeRec ∧ (s.withPending q).slot = s.slot :=
  ⟨rfl, rfl, rfl, rfl, rfl, rfl, rfl, rfl, rfl, rfl, rfl, rfl, rfl, rfl, rfl, rfl, rfl, rfl, rfl, rfl, rfl, rfl, rfl, rfl,
    rfl⟩

@[simp] theorem State.workHeater_keeps (s : State) (c : Camera) :
    (s.workHeater c).phase = s.phase ∧ (s.workHeater c).resetLineHigh = s.resetLineHigh ∧
    (s.workHeater c).receivers = s.receivers ∧ (s.workHeater c).pictures = s.pictures ∧ (s.workHeater c).table = s.table ∧
    (s.workHeater c).vehicle = s.vehicle ∧ (s.workHeater c).tracks = s.tracks ∧ (s.workHeater c).zones = s.zones ∧
    (s.workHeater c).alert = s.alert ∧ (s.workHeater c).arbiter = s.arbiter ∧ (s.workHeater c).frame = s.frame ∧
    (s.workHeater c).generator = s.generator ∧ (s.workHeater c).links = s.links ∧ (s.workHeater c).settings = s.settings ∧
    (s.workHeater c).supply = s.supply ∧ (s.workHeater c).free = s.free ∧ (s.workHeater c).pending = s.pending ∧
    (s.workHeater c).body = s.body ∧ (s.workHeater c).ctl = s.ctl ∧ (s.workHeater c).recv = s.recv ∧
    (s.workHeater c).pict = s.pict ∧ (s.workHeater c).zoneRec = s.zoneRec ∧ (s.workHeater c).causeRec = s.causeRec ∧
    (s.workHeater c).slot = s.slot :=
  ⟨rfl, rfl, rfl, rfl, rfl, rfl, rfl, rfl, rfl, rfl, rfl, rfl, rfl, rfl, rfl, rfl, rfl, rfl, rfl, rfl, rfl, rfl, rfl, rfl⟩

@[simp] theorem State.crankRegulators_keeps (s : State) :
    (s.crankRegulators).phase = s.phase ∧ (s.crankRegulators).resetLineHigh = s.resetLineHigh ∧
    (s.crankRegulators).receivers = s.receivers ∧ (s.crankRegulators).pictures = s.pictures ∧
    (s.crankRegulators).table = s.table ∧ (s.crankRegulators).vehicle = s.vehicle ∧ (s.crankRegulators).tracks = s.tracks ∧
    (s.crankRegulators).zones = s.zones ∧ (s.crankRegulators).alert = s.alert ∧ (s.crankRegulators).arbiter = s.arbiter ∧
    (s.crankRegulators).frame = s.frame ∧ (s.crankRegulators).generator = s.generator ∧ (s.crankRegulators).links = s.links ∧
    (s.crankRegulators).settings = s.settings ∧ (s.crankRegulators).supply = s.supply ∧ (s.crankRegulators).free = s.free ∧
    (s.crankRegulators).pending = s.pending ∧ (s.crankRegulators).body = s.body ∧ (s.crankRegulators).ctl = s.ctl ∧
    (s.crankRegulators).recv = s.recv ∧ (s.crankRegulators).pict = s.pict ∧ (s.crankRegulators).zoneRec = s.zoneRec ∧
    (s.crankRegulators).causeRec = s.causeRec ∧ (s.crankRegulators).slot = s.slot :=
  ⟨rfl, rfl, rfl, rfl, rfl, rfl, rfl, rfl, rfl, rfl, rfl, rfl, rfl, rfl, rfl, rfl, rfl, rfl, rfl, rfl, rfl, rfl, rfl, rfl⟩

@[simp] theorem State.commitRegulators_keeps (s : State) (old : Body) :
    (s.commitRegulators old).phase = s.phase ∧ (s.commitRegulators old).resetLineHigh = s.resetLineHigh ∧
    (s.commitRegulators old).receivers = s.receivers ∧ (s.commitRegulators old).pictures = s.pictures ∧
    (s.commitRegulators old).table = s.table ∧ (s.commitRegulators old).vehicle = s.vehicle ∧
    (s.commitRegulators old).tracks = s.tracks ∧ (s.commitRegulators old).zones = s.zones ∧
    (s.commitRegulators old).alert = s.alert ∧ (s.commitRegulators old).arbiter = s.arbiter ∧
    (s.commitRegulators old).frame = s.frame ∧ (s.commitRegulators old).generator = s.generator ∧
    (s.commitRegulators old).links = s.links ∧ (s.commitRegulators old).settings = s.settings ∧
    (s.commitRegulators old).supply = s.supply ∧ (s.commitRegulators old).free = s.free ∧
    (s.commitRegulators old).pending = s.pending ∧ (s.commitRegulators old).body = s.body ∧
    (s.commitRegulators old).ctl = s.ctl ∧ (s.commitRegulators old).recv = s.recv ∧ (s.commitRegulators old).pict = s.pict ∧
    (s.commitRegulators old).zoneRec = s.zoneRec ∧ (s.commitRegulators old).causeRec = s.causeRec ∧
    (s.commitRegulators old).slot = s.slot :=
  ⟨rfl, rfl, rfl, rfl, rfl, rfl, rfl, rfl, rfl, rfl, rfl, rfl, rfl, rfl, rfl, rfl, rfl, rfl, rfl, rfl, rfl, rfl, rfl, rfl⟩

@[simp] theorem State.restartRegulators_keeps (s : State) :
    (s.restartRegulators).phase = s.phase ∧ (s.restartRegulators).resetLineHigh = s.resetLineHigh ∧
    (s.restartRegulators).receivers = s.receivers ∧ (s.restartRegulators).pictures = s.pictures ∧
    (s.restartRegulators).table = s.table ∧ (s.restartRegulators).vehicle = s.vehicle ∧
    (s.restartRegulators).tracks = s.tracks ∧ (s.restartRegulators).zones = s.zones ∧ (s.restartRegulators).alert = s.alert ∧
    (s.restartRegulators).arbiter = s.arbiter ∧ (s.restartRegulators).frame = s.frame ∧
    (s.restartRegulators).generator = s.generator ∧ (s.restartRegulators).links = s.links ∧
    (s.restartRegulators).settings = s.settings ∧ (s.restartRegulators).supply = s.supply ∧
    (s.restartRegulators).free = s.free ∧ (s.restartRegulators).pending = s.pending ∧ (s.restartRegulators).body = s.body ∧
    (s.restartRegulators).ctl = s.ctl ∧ (s.restartRegulators).recv = s.recv ∧ (s.restartRegulators).pict = s.pict ∧
    (s.restartRegulators).zoneRec = s.zoneRec ∧ (s.restartRegulators).causeRec = s.causeRec ∧
    (s.restartRegulators).slot = s.slot :=
  ⟨rfl, rfl, rfl, rfl, rfl, rfl, rfl, rfl, rfl, rfl, rfl, rfl, rfl, rfl, rfl, rfl, rfl, rfl, rfl, rfl, rfl, rfl, rfl, rfl⟩

@[simp] theorem State.blackenFrame_keeps (s : State) :
    (s.blackenFrame).phase = s.phase ∧ (s.blackenFrame).resetLineHigh = s.resetLineHigh ∧
    (s.blackenFrame).receivers = s.receivers ∧ (s.blackenFrame).pictures = s.pictures ∧
    (s.blackenFrame).regulators = s.regulators ∧ (s.blackenFrame).table = s.table ∧ (s.blackenFrame).vehicle = s.vehicle ∧
    (s.blackenFrame).tracks = s.tracks ∧ (s.blackenFrame).zones = s.zones ∧ (s.blackenFrame).alert = s.alert ∧
    (s.blackenFrame).arbiter = s.arbiter ∧ (s.blackenFrame).generator = s.generator ∧ (s.blackenFrame).links = s.links ∧
    (s.blackenFrame).settings = s.settings ∧ (s.blackenFrame).supply = s.supply ∧ (s.blackenFrame).pending = s.pending ∧
    (s.blackenFrame).body = s.body ∧ (s.blackenFrame).ctl = s.ctl ∧ (s.blackenFrame).recv = s.recv ∧
    (s.blackenFrame).pict = s.pict ∧ (s.blackenFrame).reg = s.reg ∧ (s.blackenFrame).zoneRec = s.zoneRec ∧
    (s.blackenFrame).causeRec = s.causeRec ∧ (s.blackenFrame).slot = s.slot :=
  ⟨rfl, rfl, rfl, rfl, rfl, rfl, rfl, rfl, rfl, rfl, rfl, rfl, rfl, rfl, rfl, rfl, rfl, rfl, rfl, rfl, rfl, rfl, rfl, rfl⟩

@[simp] theorem State.closeFrame_keeps (s : State) :
    (s.closeFrame).phase = s.phase ∧ (s.closeFrame).resetLineHigh = s.resetLineHigh ∧
    (s.closeFrame).receivers = s.receivers ∧ (s.closeFrame).pictures = s.pictures ∧
    (s.closeFrame).regulators = s.regulators ∧ (s.closeFrame).table = s.table ∧ (s.closeFrame).vehicle = s.vehicle ∧
    (s.closeFrame).tracks = s.tracks ∧ (s.closeFrame).zones = s.zones ∧ (s.closeFrame).alert = s.alert ∧
    (s.closeFrame).arbiter = s.arbiter ∧ (s.closeFrame).links = s.links ∧ (s.closeFrame).settings = s.settings ∧
    (s.closeFrame).supply = s.supply ∧ (s.closeFrame).free = s.free ∧ (s.closeFrame).pending = s.pending ∧
    (s.closeFrame).body = s.body ∧ (s.closeFrame).ctl = s.ctl ∧ (s.closeFrame).recv = s.recv ∧ (s.closeFrame).pict = s.pict ∧
    (s.closeFrame).reg = s.reg ∧ (s.closeFrame).zoneRec = s.zoneRec ∧ (s.closeFrame).causeRec = s.causeRec ∧
    (s.closeFrame).slot = s.slot :=
  ⟨rfl, rfl, rfl, rfl, rfl, rfl, rfl, rfl, rfl, rfl, rfl, rfl, rfl, rfl, rfl, rfl, rfl, rfl, rfl, rfl, rfl, rfl, rfl, rfl⟩

@[simp] theorem State.writeStaging_keeps (s : State) (n off : Nat) (bytes : List Byte) :
    (s.writeStaging n off bytes).phase = s.phase ∧ (s.writeStaging n off bytes).resetLineHigh = s.resetLineHigh ∧
    (s.writeStaging n off bytes).receivers = s.receivers ∧ (s.writeStaging n off bytes).pictures = s.pictures ∧
    (s.writeStaging n off bytes).regulators = s.regulators ∧ (s.writeStaging n off bytes).table = s.table ∧
    (s.writeStaging n off bytes).vehicle = s.vehicle ∧ (s.writeStaging n off bytes).tracks = s.tracks ∧
    (s.writeStaging n off bytes).zones = s.zones ∧ (s.writeStaging n off bytes).alert = s.alert ∧
    (s.writeStaging n off bytes).arbiter = s.arbiter ∧ (s.writeStaging n off bytes).frame = s.frame ∧
    (s.writeStaging n off bytes).generator = s.generator ∧ (s.writeStaging n off bytes).links = s.links ∧
    (s.writeStaging n off bytes).supply = s.supply ∧ (s.writeStaging n off bytes).free = s.free ∧
    (s.writeStaging n off bytes).pending = s.pending ∧ (s.writeStaging n off bytes).ctl = s.ctl ∧
    (s.writeStaging n off bytes).recv = s.recv ∧ (s.writeStaging n off bytes).pict = s.pict ∧
    (s.writeStaging n off bytes).reg = s.reg ∧ (s.writeStaging n off bytes).zoneRec = s.zoneRec ∧
    (s.writeStaging n off bytes).causeRec = s.causeRec ∧ (s.writeStaging n off bytes).slot = s.slot :=
  ⟨rfl, rfl, rfl, rfl, rfl, rfl, rfl, rfl, rfl, rfl, rfl, rfl, rfl, rfl, rfl, rfl, rfl, rfl, rfl, rfl, rfl, rfl, rfl, rfl⟩

/-! ## The fields an update sets -/

@[simp] theorem State.setSettings_settings (s : State) (b : SettingsBlock) : (s.setSettings b).settings = b := rfl

@[simp] theorem State.setSupply_supply (s : State) (u : Supply) : (s.setSupply u).supply = u := rfl

@[simp] theorem State.withPending_pending (s : State) (q : List Instr) : (s.withPending q).pending = q := rfl

/-! ## Homes -/

theorem Link.ix_injective {a b : Link} (h : a.ix = b.ix) : a = b := by
  cases a <;> cases b <;> first | rfl | (exact absurd h (by decide))

@[simp] theorem State.ctl_setCtl_self (s : State) (l : Link) (x : LinkCtl) : (s.setCtl l x).ctl l = x := by
  simp [State.ctl, State.setCtl]

theorem State.ctl_setCtl_of_ne (s : State) (l l' : Link) (x : LinkCtl) (h : l' ≠ l) : (s.setCtl l x).ctl l' = s.ctl l' := by
  have hv : l.ix.val ≠ l'.ix.val := fun e => h (Link.ix_injective (Fin.ext e)).symm
  simp [State.ctl, State.setCtl, hv]

@[simp] theorem State.recv_setRecv_self (s : State) (c : Camera) (x : Receiver) : (s.setRecv c x).recv c = x := by
  simp [State.recv, State.setRecv]

theorem State.recv_setRecv_of_ne (s : State) (c c' : Camera) (x : Receiver) (h : c' ≠ c) : (s.setRecv c x).recv c' = s.recv c' := by
  have hv : c.val ≠ c'.val := fun e => h (Fin.ext e).symm
  simp [State.recv, State.setRecv, hv]

@[simp] theorem State.pict_setPict_self (s : State) (c : Camera) (x : Picture) : (s.setPict c x).pict c = x := by
  simp [State.pict, State.setPict]

theorem State.pict_setPict_of_ne (s : State) (c c' : Camera) (x : Picture) (h : c' ≠ c) : (s.setPict c x).pict c' = s.pict c' := by
  have hv : c.val ≠ c'.val := fun e => h (Fin.ext e).symm
  simp [State.pict, State.setPict, hv]

@[simp] theorem State.reg_setReg_self (s : State) (c : Camera) (x : Regulator) : (s.setReg c x).reg c = x := by
  simp [State.reg, State.setReg]

theorem State.reg_setReg_of_ne (s : State) (c c' : Camera) (x : Regulator) (h : c' ≠ c) : (s.setReg c x).reg c' = s.reg c' := by
  have hv : c.val ≠ c'.val := fun e => h (Fin.ext e).symm
  simp [State.reg, State.setReg, hv]

@[simp] theorem State.zoneRec_setZoneRec_self (s : State) (z : Zone) (x : ZoneRec) : (s.setZoneRec z x).zoneRec z = x := by
  simp [State.zoneRec, State.setZoneRec]

theorem State.zoneRec_setZoneRec_of_ne (s : State) (z z' : Zone) (x : ZoneRec) (h : z' ≠ z) : (s.setZoneRec z x).zoneRec z' = s.zoneRec z' := by
  have hv : z.val ≠ z'.val := fun e => h (Fin.ext e).symm
  simp [State.zoneRec, State.setZoneRec, hv]

@[simp] theorem State.slot_setSlot_self (s : State) (i : ObjSlot) (x : Option ObjRecord) : (s.setSlot i x).slot i = x := by
  simp [State.slot, State.setSlot]

theorem State.slot_setSlot_of_ne (s : State) (i i' : ObjSlot) (x : Option ObjRecord) (h : i' ≠ i) : (s.setSlot i x).slot i' = s.slot i' := by
  have hv : i.val ≠ i'.val := fun e => h (Fin.ext e).symm
  simp [State.slot, State.setSlot, hv]

@[simp] theorem State.causeRec_setCauseRec_self (s : State) (i : Cause) (x : CauseRec) : (s.setCauseRec i x).causeRec i = x := by
  simp [State.causeRec, State.setCauseRec]

theorem State.causeRec_setCauseRec_of_ne (s : State) (i i' : Cause) (x : CauseRec) (h : i' ≠ i) : (s.setCauseRec i x).causeRec i' = s.causeRec i' := by
  have hv : i.val ≠ i'.val := fun e => h (Fin.ext e).symm
  simp [State.causeRec, State.setCauseRec, hv]

end Sys2Proof.Machine
end

