-- ==== Sys2Proof/Laws/Frames.lean ====
section
/-! SUPPORT. What the larger operations leave alone, said once for each: the parts of State beside cameras, zones, views and
links. -/

namespace Sys2Proof.Machine

/-! ## Reading a field through the blanked states -/

theorem State.besideLinks_fields {s t : State} (h : t.besideLinks = s.besideLinks) :
    t.phase = s.phase ∧ t.resetLineHigh = s.resetLineHigh ∧ t.receivers = s.receivers ∧ t.pictures = s.pictures ∧
    t.regulators = s.regulators ∧ t.table = s.table ∧ t.vehicle = s.vehicle ∧ t.tracks = s.tracks ∧ t.zones = s.zones ∧
    t.alert = s.alert ∧ t.arbiter = s.arbiter ∧ t.frame = s.frame ∧ t.generator = s.generator ∧ t.settings = s.settings ∧
    t.supply = s.supply ∧ t.free = s.free ∧ t.pending = s.pending :=
  ⟨(congrArg State.phase h :), (congrArg State.resetLineHigh h :), (congrArg State.receivers h :), (congrArg State.pictures h :),
    (congrArg State.regulators h :), (congrArg State.table h :), (congrArg State.vehicle h :), (congrArg State.tracks h :),
    (congrArg State.zones h :), (congrArg State.alert h :), (congrArg State.arbiter h :), (congrArg State.frame h :),
    (congrArg State.generator h :), (congrArg State.settings h :), (congrArg State.supply h :), (congrArg State.free h :),
    (congrArg State.pending h :)⟩

theorem State.besideViews_fields {s t : State} (h : t.besideViews = s.besideViews) :
    t.phase = s.phase ∧ t.resetLineHigh = s.resetLineHigh ∧ t.receivers = s.receivers ∧ t.pictures = s.pictures ∧
    t.regulators = s.regulators ∧ t.table = s.table ∧ t.vehicle = s.vehicle ∧ t.tracks = s.tracks ∧ t.zones = s.zones ∧
    t.alert = s.alert ∧ t.frame = s.frame ∧ t.generator = s.generator ∧ t.settings = s.settings ∧ t.supply = s.supply ∧
    t.free = s.free ∧ t.pending = s.pending :=
  ⟨(congrArg State.phase h :), (congrArg State.resetLineHigh h :), (congrArg State.receivers h :), (congrArg State.pictures h :),
    (congrArg State.regulators h :), (congrArg State.table h :), (congrArg State.vehicle h :), (congrArg State.tracks h :),
    (congrArg State.zones h :), (congrArg State.alert h :), (congrArg State.frame h :), (congrArg State.generator h :),
    (congrArg State.settings h :), (congrArg State.supply h :), (congrArg State.free h :), (congrArg State.pending h :)⟩

theorem State.besideZones_fields {s t : State} (h : t.besideZones = s.besideZones) :
    t.phase = s.phase ∧ t.resetLineHigh = s.resetLineHigh ∧ t.receivers = s.receivers ∧ t.pictures = s.pictures ∧
    t.regulators = s.regulators ∧ t.table = s.table ∧ t.vehicle = s.vehicle ∧ t.tracks = s.tracks ∧ t.frame = s.frame ∧
    t.generator = s.generator ∧ t.settings = s.settings ∧ t.supply = s.supply ∧ t.free = s.free ∧ t.pending = s.pending :=
  ⟨(congrArg State.phase h :), (congrArg State.resetLineHigh h :), (congrArg State.receivers h :), (congrArg State.pictures h :),
    (congrArg State.regulators h :), (congrArg State.table h :), (congrArg State.vehicle h :), (congrArg State.tracks h :),
    (congrArg State.frame h :), (congrArg State.generator h :), (congrArg State.settings h :), (congrArg State.supply h :),
    (congrArg State.free h :), (congrArg State.pending h :)⟩

theorem State.besideCameras_fields {s t : State} (h : t.besideCameras = s.besideCameras) :
    t.phase = s.phase ∧ t.resetLineHigh = s.resetLineHigh ∧ t.table = s.table ∧ t.vehicle = s.vehicle ∧ t.tracks = s.tracks ∧
    t.zones = s.zones ∧ t.alert = s.alert ∧ t.arbiter = s.arbiter ∧ t.frame = s.frame ∧ t.generator = s.generator ∧
    t.settings = s.settings ∧ t.supply = s.supply ∧ t.free = s.free ∧ t.pending = s.pending :=
  ⟨(congrArg State.phase h :), (congrArg State.resetLineHigh h :), (congrArg State.table h :), (congrArg State.vehicle h :),
    (congrArg State.tracks h :), (congrArg State.zones h :), (congrArg State.alert h :), (congrArg State.arbiter h :),
    (congrArg State.frame h :), (congrArg State.generator h :), (congrArg State.settings h :), (congrArg State.supply h :),
    (congrArg State.free h :), (congrArg State.pending h :)⟩

theorem State.besideTable_fields {s t : State} (h : t.besideTable = s.besideTable) :
    t.phase = s.phase ∧ t.resetLineHigh = s.resetLineHigh ∧ t.receivers = s.receivers ∧ t.pictures = s.pictures ∧
    t.regulators = s.regulators ∧ t.vehicle = s.vehicle ∧ t.tracks = s.tracks ∧ t.zones = s.zones ∧ t.alert = s.alert ∧
    t.arbiter = s.arbiter ∧ t.frame = s.frame ∧ t.generator = s.generator ∧ t.settings = s.settings ∧ t.supply = s.supply ∧
    t.free = s.free ∧ t.pending = s.pending :=
  ⟨(congrArg State.phase h :), (congrArg State.resetLineHigh h :), (congrArg State.receivers h :),
    (congrArg State.pictures h :), (congrArg State.regulators h :), (congrArg State.vehicle h :),
    (congrArg State.tracks h :), (congrArg State.zones h :), (congrArg State.alert h :), (congrArg State.arbiter h :),
    (congrArg State.frame h :), (congrArg State.generator h :), (congrArg State.settings h :), (congrArg State.supply h :),
    (congrArg State.free h :), (congrArg State.pending h :)⟩

theorem State.besideSettings_fields {s t : State} (h : t.besideSettings = s.besideSettings) :
    t.phase = s.phase ∧ t.resetLineHigh = s.resetLineHigh ∧ t.receivers = s.receivers ∧ t.pictures = s.pictures ∧
    t.regulators = s.regulators ∧ t.table = s.table ∧ t.vehicle = s.vehicle ∧ t.tracks = s.tracks ∧ t.zones = s.zones ∧
    t.alert = s.alert ∧ t.arbiter = s.arbiter ∧ t.frame = s.frame ∧ t.generator = s.generator ∧ t.supply = s.supply ∧
    t.free = s.free ∧ t.pending = s.pending :=
  ⟨(congrArg State.phase h :), (congrArg State.resetLineHigh h :), (congrArg State.receivers h :),
    (congrArg State.pictures h :), (congrArg State.regulators h :), (congrArg State.table h :), (congrArg State.vehicle h :),
    (congrArg State.tracks h :), (congrArg State.zones h :), (congrArg State.alert h :), (congrArg State.arbiter h :),
    (congrArg State.frame h :), (congrArg State.generator h :), (congrArg State.supply h :), (congrArg State.free h :),
    (congrArg State.pending h :)⟩

theorem State.besideVehicle_fields {s t : State} (h : t.besideVehicle = s.besideVehicle) :
    t.phase = s.phase ∧ t.resetLineHigh = s.resetLineHigh ∧ t.receivers = s.receivers ∧ t.pictures = s.pictures ∧
    t.regulators = s.regulators ∧ t.table = s.table ∧ t.tracks = s.tracks ∧ t.frame = s.frame ∧ t.generator = s.generator ∧
    t.supply = s.supply ∧ t.free = s.free ∧ t.pending = s.pending :=
  ⟨(congrArg State.phase h :), (congrArg State.resetLineHigh h :), (congrArg State.receivers h :),
    (congrArg State.pictures h :), (congrArg State.regulators h :), (congrArg State.table h :), (congrArg State.tracks h :),
    (congrArg State.frame h :), (congrArg State.generator h :), (congrArg State.supply h :), (congrArg State.free h :),
    (congrArg State.pending h :)⟩

theorem State.besideTracks_fields {s t : State} (h : t.besideTracks = s.besideTracks) :
    t.phase = s.phase ∧ t.resetLineHigh = s.resetLineHigh ∧ t.receivers = s.receivers ∧ t.pictures = s.pictures ∧
    t.regulators = s.regulators ∧ t.table = s.table ∧ t.vehicle = s.vehicle ∧ t.frame = s.frame ∧ t.generator = s.generator ∧
    t.settings = s.settings ∧ t.supply = s.supply ∧ t.free = s.free ∧ t.pending = s.pending :=
  ⟨(congrArg State.phase h :), (congrArg State.resetLineHigh h :), (congrArg State.receivers h :),
    (congrArg State.pictures h :), (congrArg State.regulators h :), (congrArg State.table h :), (congrArg State.vehicle h :),
    (congrArg State.frame h :), (congrArg State.generator h :), (congrArg State.settings h :), (congrArg State.supply h :),
    (congrArg State.free h :), (congrArg State.pending h :)⟩

theorem State.besideTable_of_links {s t : State} (h : t.besideLinks = s.besideLinks) : t.besideTable = s.besideTable :=
  (congrArg (fun u : State => { u with table := State.reset.table }) h :)

theorem State.besideSettings_of_links {s t : State} (h : t.besideLinks = s.besideLinks) :
    t.besideSettings = s.besideSettings :=
  (congrArg (fun u : State => { u with settings := State.reset.settings }) h :)

theorem State.besideVehicle_of_zones {s t : State} (h : t.besideZones = s.besideZones) : t.besideVehicle = s.besideVehicle :=
  (congrArg (fun u : State => { u with vehicle := State.reset.vehicle, settings := State.reset.settings }) h :)

theorem State.besideTracks_of_zones {s t : State} (h : t.besideZones = s.besideZones) : t.besideTracks = s.besideTracks :=
  (congrArg (fun u : State => { u with tracks := State.reset.tracks }) h :)

theorem State.besideViews_of_links {s t : State} (h : t.besideLinks = s.besideLinks) : t.besideViews = s.besideViews :=
  (congrArg (fun u : State => { u with arbiter := State.reset.arbiter }) h :)

theorem State.besideZones_of_views {s t : State} (h : t.besideViews = s.besideViews) : t.besideZones = s.besideZones :=
  (congrArg (fun u : State => { u with zones := State.reset.zones, alert := State.reset.alert }) h :)

theorem State.besideCameras_of_links {s t : State} (h : t.besideLinks = s.besideLinks) :
    t.besideCameras = s.besideCameras :=
  (congrArg
    (fun u : State =>
      { u with
        receivers := State.reset.receivers, pictures := State.reset.pictures, regulators := State.reset.regulators }) h :)

/-- A state all of whose fold steps leave something alone leaves it alone. -/
theorem State.foldl_fixes {α β : Type} (f : State → α → State) (g : State → β) (h : ∀ s a, g (f s a) = g s) (l : List α)
    (s : State) : g (l.foldl f s) = g s := by
  induction l generalizing s with
  | nil => rfl
  | cons a l ih => rw [List.foldl_cons, ih, h]

/-! ## Links -/

@[simp] theorem State.besideLinks_setCtl (s : State) (l : Link) (c : LinkCtl) :
    (s.setCtl l c).besideLinks = s.besideLinks := rfl

@[simp] theorem State.besideLinks_onCtl (s : State) (l : Link) (f : LinkCtl → LinkCtl) :
    (s.onCtl l f).besideLinks = s.besideLinks := rfl

@[simp] theorem State.besideLinks_raise (s : State) (k : NoticeKind) (n : Nat) (f : List Byte) :
    (s.raise k n f).besideLinks = s.besideLinks := rfl

@[simp] theorem State.besideLinks_reply (s : State) (l : Link) (r : Request) (a : Answer) :
    (s.reply l r a).besideLinks = s.besideLinks := rfl

@[simp] theorem State.besideLinks_settle (s : State) : s.settle.besideLinks = s.besideLinks := rfl

@[simp] theorem State.besideLinks_noteCamera (c : Camera) (b s : State) :
    (State.noteCamera c b s).besideLinks = s.besideLinks := by
  unfold State.noteCamera; split <;> simp

@[simp] theorem State.besideLinks_noteSettings (b s : State) : (State.noteSettings b s).besideLinks = s.besideLinks := by
  unfold State.noteSettings; split <;> simp

@[simp] theorem State.besideLinks_noteView (b s : State) : (State.noteView b s).besideLinks = s.besideLinks := by
  unfold State.noteView; split <;> simp

@[simp] theorem State.besideLinks_noteSupply (s : State) : s.noteSupply.besideLinks = s.besideLinks := rfl

/-! ## The view arbiter -/

@[simp] theorem State.besideViews_setCauseRec (s : State) (i : Cause) (r : CauseRec) :
    (s.setCauseRec i r).besideViews = s.besideViews := rfl

@[simp] theorem State.besideViews_raise (s : State) (k : NoticeKind) (n : Nat) (f : List Byte) :
    (s.raise k n f).besideViews = s.besideViews := rfl

@[simp] theorem State.besideViews_changeView (s : State) (v : Nat) (c : Option Cause) :
    (s.changeView v c).besideViews = s.besideViews := rfl

@[simp] theorem State.besideViews_setShownCause (s : State) (c : Option Cause) :
    (s.setShownCause c).besideViews = s.besideViews := rfl

@[simp] theorem State.besideViews_endMasked (s : State) : s.endMasked.besideViews = s.besideViews := rfl

@[simp] theorem State.besideViews_mapMasks (s : State) (f : Nat → BitVec 3 → BitVec 3) :
    (s.mapMasks f).besideViews = s.besideViews := rfl

@[simp] theorem State.besideViews_noteView (b s : State) : (State.noteView b s).besideViews = s.besideViews :=
  State.besideViews_of_links (State.besideLinks_noteView b s)

@[simp] theorem State.besideViews_serve (s : State) (i : Cause) : (s.serve i).besideViews = s.besideViews := by
  unfold State.serve; split <;> simp

@[simp] theorem State.besideViews_decideView (s : State) : s.decideView.besideViews = s.besideViews := by
  unfold State.decideView; repeat' split
  all_goals simp

/-- The arbiter's choice touches the arbiter and the links alone. -/
@[simp] theorem State.besideViews_choose (s : State) : s.choose.besideViews = s.besideViews := by
  simp [State.choose]

@[simp] theorem State.besideViews_raiseCause (s : State) (i : Cause) : (s.raiseCause i).besideViews = s.besideViews := by
  unfold State.raiseCause; dsimp only; split <;> simp

/-- An onset touches the arbiter and the links alone. -/
@[simp] theorem State.besideViews_onset (s : State) (z : Zone) (v : Nat) : (s.onset z v).besideViews = s.besideViews := by
  unfold State.onset
  rw [State.besideViews_choose]
  exact State.foldl_fixes _ State.besideViews State.besideViews_raiseCause _ _

@[simp] theorem State.besideViews_clearMasks (s : State) (l : Link) : (s.clearMasks l).besideViews = s.besideViews := by
  simp [State.clearMasks]

@[simp] theorem State.besideViews_maskCauses (s : State) (l : Link) (m : BitVec 16) :
    (s.maskCauses l m).besideViews = s.besideViews := by
  simp [State.maskCauses]

@[simp] theorem State.besideViews_unmaskCauses (s : State) (l : Link) (m : BitVec 16) :
    (s.unmaskCauses l m).besideViews = s.besideViews := by
  simp [State.unmaskCauses]

@[simp] theorem State.besideViews_arbiterCommit (s : State) : s.arbiterCommit.besideViews = s.besideViews := by
  simp only [State.arbiterCommit, State.besideViews_choose]; rfl

@[simp] theorem State.besideViews_causeExpiry (s : State) (i : Cause) : (s.causeExpiry i).besideViews = s.besideViews := by
  unfold State.causeExpiry; split <;> simp

@[simp] theorem State.besideViews_showExpiry (s : State) : s.showExpiry.besideViews = s.besideViews := by
  unfold State.showExpiry; split
  · rfl
  · rw [State.besideViews_choose]; rfl

/-! ## The zone monitor -/

@[simp] theorem State.besideZones_choose (s : State) : s.choose.besideZones = s.besideZones :=
  State.besideZones_of_views (State.besideViews_choose s)

@[simp] theorem State.besideZones_endMasked (s : State) : s.endMasked.besideZones = s.besideZones := rfl

@[simp] theorem State.besideZones_onset (s : State) (z : Zone) (v : Nat) : (s.onset z v).besideZones = s.besideZones :=
  State.besideZones_of_views (State.besideViews_onset s z v)

@[simp] theorem State.besideZones_setZoneRec (s : State) (z : Zone) (r : ZoneRec) :
    (s.setZoneRec z r).besideZones = s.besideZones := rfl

@[simp] theorem State.besideZones_zoneChange (s : State) (z : Zone) (r : ZoneRec) :
    (s.zoneChange z r).besideZones = s.besideZones := rfl

/-- A zone that takes a record touches zones, alert unit, arbiter and links alone. -/
@[simp] theorem State.besideZones_takeZone (s : State) (z : Zone) (r : ZoneRec) :
    (s.takeZone z r).besideZones = s.besideZones := by
  unfold State.takeZone; dsimp only; repeat' split
  all_goals simp

@[simp] theorem State.besideZones_evaluateZone (s : State) (z : Zone) : (s.evaluateZone z).besideZones = s.besideZones := by
  unfold State.evaluateZone; split <;> simp

@[simp] theorem State.besideZones_recountZone (s : State) (z : Zone) : (s.recountZone z).besideZones = s.besideZones := by
  unfold State.recountZone; dsimp only; split <;> simp

@[simp] theorem State.besideZones_commitZone (s : State) (z : Zone) : (s.commitZone z).besideZones = s.besideZones := by
  unfold State.commitZone; dsimp only; split <;> simp

@[simp] theorem State.besideZones_evaluateZones (s : State) : s.evaluateZones.besideZones = s.besideZones :=
  State.foldl_fixes _ State.besideZones State.besideZones_evaluateZone _ _

@[simp] theorem State.besideZones_recountZones (s : State) : s.recountZones.besideZones = s.besideZones :=
  State.foldl_fixes _ State.besideZones State.besideZones_recountZone _ _

@[simp] theorem State.besideZones_commitZones (s : State) : s.commitZones.besideZones = s.besideZones :=
  State.foldl_fixes _ State.besideZones State.besideZones_commitZone _ _

@[simp] theorem State.besideZones_holdExpiry (s : State) (z : Zone) : (s.holdExpiry z).besideZones = s.besideZones := by
  unfold State.holdExpiry; repeat' split
  all_goals simp

@[simp] theorem State.besideZones_dwellEnd (s : State) (z : Zone) : (s.dwellEnd z).besideZones = s.besideZones := by
  unfold State.dwellEnd; dsimp only; repeat' split
  all_goals simp

@[simp] theorem State.besideZones_firstLook (s : State) : s.firstLook.besideZones = s.besideZones := by
  simp [State.firstLook]

/-- Handing a change on touches zones, alert unit, arbiter and links alone. -/
@[simp] theorem State.besideZones_handOn (b s : State) : (State.handOn b s).besideZones = s.besideZones := by
  unfold State.handOn; dsimp only; repeat' split
  all_goals simp

@[simp] theorem State.besideZones_noteSettings (b s : State) : (State.noteSettings b s).besideZones = s.besideZones :=
  State.besideZones_of_views (State.besideViews_of_links (State.besideLinks_noteSettings b s))

@[simp] theorem State.besideZones_settingsStep (b s : State) : (State.settingsStep b s).besideZones = s.besideZones := by
  simp [State.settingsStep]

/-! ## The cameras -/

/-- Everything but the receivers, pictures and regulators. -/
def State.offCamera (s : State) : State :=
  { s with
    receivers := State.reset.receivers, pictures := State.reset.pictures, regulators := State.reset.regulators }

theorem State.besideCameras_of_offCamera {s t : State} (h : t.offCamera = s.offCamera) : t.besideCameras = s.besideCameras :=
  (congrArg (fun u : State => { u with links := State.reset.links }) h :)

@[simp] theorem State.offCamera_setRecv (s : State) (c : Camera) (r : Receiver) : (s.setRecv c r).offCamera = s.offCamera := rfl

@[simp] theorem State.offCamera_setPict (s : State) (c : Camera) (p : Picture) : (s.setPict c p).offCamera = s.offCamera := rfl

@[simp] theorem State.offCamera_setReg (s : State) (c : Camera) (r : Regulator) : (s.setReg c r).offCamera = s.offCamera := rfl

@[simp] theorem State.besideCameras_setRecv (s : State) (c : Camera) (r : Receiver) :
    (s.setRecv c r).besideCameras = s.besideCameras := rfl

@[simp] theorem State.besideCameras_setPict (s : State) (c : Camera) (p : Picture) :
    (s.setPict c p).besideCameras = s.besideCameras := rfl

@[simp] theorem State.besideCameras_setReg (s : State) (c : Camera) (r : Regulator) :
    (s.setReg c r).besideCameras = s.besideCameras := rfl

@[simp] theorem State.besideCameras_settle (s : State) : s.settle.besideCameras = s.besideCameras := rfl

@[simp] theorem State.besideCameras_workHeater (s : State) (c : Camera) :
    (s.workHeater c).besideCameras = s.besideCameras := rfl

@[simp] theorem State.besideCameras_noteCamera (c : Camera) (b s : State) :
    (State.noteCamera c b s).besideCameras = s.besideCameras :=
  State.besideCameras_of_links (State.besideLinks_noteCamera c b s)

@[simp] theorem State.offCamera_workHeater (s : State) (c : Camera) : (s.workHeater c).offCamera = s.offCamera := rfl

@[simp] theorem State.offCamera_accept (s : State) (c : Camera) (a : StatusRecord) : (s.accept c a).offCamera = s.offCamera := by
  unfold State.accept; try dsimp only
  repeat' split
  all_goals simp

@[simp] theorem State.besideCameras_accept (s : State) (c : Camera) (a : StatusRecord) : (s.accept c a).besideCameras = s.besideCameras :=
  State.besideCameras_of_offCamera (by simp)

@[simp] theorem State.offCamera_cycleComplete (s : State) (c : Camera) (b : List Byte) : (s.cycleComplete c b).offCamera = s.offCamera := by
  unfold State.cycleComplete; try dsimp only
  repeat' split
  all_goals simp

@[simp] theorem State.besideCameras_cycleComplete (s : State) (c : Camera) (b : List Byte) : (s.cycleComplete c b).besideCameras = s.besideCameras :=
  State.besideCameras_of_offCamera (by simp)

@[simp] theorem State.offCamera_addStatusByte (s : State) (c : Camera) (k : Nat) (b : Byte) : (s.addStatusByte c k b).offCamera = s.offCamera := by
  unfold State.addStatusByte; try dsimp only
  repeat' split
  all_goals simp

@[simp] theorem State.besideCameras_addStatusByte (s : State) (c : Camera) (k : Nat) (b : Byte) : (s.addStatusByte c k b).besideCameras = s.besideCameras :=
  State.besideCameras_of_offCamera (by simp)

@[simp] theorem State.offCamera_abandonFill (s : State) (c : Camera) : (s.abandonFill c).offCamera = s.offCamera := by
  unfold State.abandonFill; try dsimp only
  repeat' split
  all_goals simp

@[simp] theorem State.besideCameras_abandonFill (s : State) (c : Camera) : (s.abandonFill c).besideCameras = s.besideCameras :=
  State.besideCameras_of_offCamera (by simp)

@[simp] theorem State.offCamera_completeFill (s : State) (c : Camera) (f : Fill) : (s.completeFill c f).offCamera = s.offCamera := by
  unfold State.completeFill
  try dsimp only
  simp

@[simp] theorem State.besideCameras_completeFill (s : State) (c : Camera) (f : Fill) : (s.completeFill c f).besideCameras = s.besideCameras :=
  State.besideCameras_of_offCamera (by simp)

@[simp] theorem State.offCamera_endFill (s : State) (c : Camera) (f : Fill) : (s.endFill c f).offCamera = s.offCamera := by
  unfold State.endFill; try dsimp only
  repeat' split
  all_goals simp

@[simp] theorem State.besideCameras_endFill (s : State) (c : Camera) (f : Fill) : (s.endFill c f).besideCameras = s.besideCameras :=
  State.besideCameras_of_offCamera (by simp)

@[simp] theorem State.offCamera_finishCopy (s : State) (c : Camera) : (s.finishCopy c).offCamera = s.offCamera := by
  unfold State.finishCopy; try dsimp only
  repeat' split
  all_goals simp

@[simp] theorem State.besideCameras_finishCopy (s : State) (c : Camera) : (s.finishCopy c).besideCameras = s.besideCameras :=
  State.besideCameras_of_offCamera (by simp)

@[simp] theorem State.offCamera_leaveLocked (s : State) (c : Camera) : (s.leaveLocked c).offCamera = s.offCamera := by
  unfold State.leaveLocked
  try dsimp only
  simp

@[simp] theorem State.besideCameras_leaveLocked (s : State) (c : Camera) : (s.leaveLocked c).besideCameras = s.besideCameras :=
  State.besideCameras_of_offCamera (by simp)

@[simp] theorem State.offCamera_openFill (s : State) (c : Camera) (k : Nat) : (s.openFill c k).offCamera = s.offCamera := by
  unfold State.openFill; try dsimp only
  repeat' split
  all_goals simp

@[simp] theorem State.besideCameras_openFill (s : State) (c : Camera) (k : Nat) : (s.openFill c k).besideCameras = s.besideCameras :=
  State.besideCameras_of_offCamera (by simp)

@[simp] theorem State.offCamera_slip (s : State) (c : Camera) : (s.slip c).offCamera = s.offCamera := by
  unfold State.slip; try dsimp only
  repeat' split
  all_goals simp

@[simp] theorem State.besideCameras_slip (s : State) (c : Camera) : (s.slip c).besideCameras = s.besideCameras :=
  State.besideCameras_of_offCamera (by simp)

@[simp] theorem State.offCamera_sendWord (s : State) (c : Camera) : (s.sendWord c).offCamera = s.offCamera := by
  unfold State.sendWord
  try dsimp only
  simp

@[simp] theorem State.besideCameras_sendWord (s : State) (c : Camera) : (s.sendWord c).besideCameras = s.besideCameras :=
  State.besideCameras_of_offCamera (by simp)

@[simp] theorem State.offCamera_failGroup (s : State) (c : Camera) (f : Fill) (g : Nat) : (s.failGroup c f g).offCamera = s.offCamera := by
  unfold State.failGroup
  try dsimp only
  simp

@[simp] theorem State.besideCameras_failGroup (s : State) (c : Camera) (f : Fill) (g : Nat) : (s.failGroup c f g).besideCameras = s.besideCameras :=
  State.besideCameras_of_offCamera (by simp)

@[simp] theorem State.offCamera_judgeGroup (s : State) (c : Camera) (f : Fill) (g : Nat) (k : Byte) : (s.judgeGroup c f g k).offCamera = s.offCamera := by
  unfold State.judgeGroup; try dsimp only
  repeat' split
  all_goals simp

@[simp] theorem State.besideCameras_judgeGroup (s : State) (c : Camera) (f : Fill) (g : Nat) (k : Byte) : (s.judgeGroup c f g k).besideCameras = s.besideCameras :=
  State.besideCameras_of_offCamera (by simp)

@[simp] theorem State.offCamera_writeRow (s : State) (c : Camera) (f : Fill) (n : Nat) (k : RowRecord) : (s.writeRow c f n k).offCamera = s.offCamera := by
  unfold State.writeRow; try dsimp only
  repeat' split
  all_goals simp

@[simp] theorem State.besideCameras_writeRow (s : State) (c : Camera) (f : Fill) (n : Nat) (k : RowRecord) : (s.writeRow c f n k).besideCameras = s.besideCameras :=
  State.besideCameras_of_offCamera (by simp)

@[simp] theorem State.offCamera_markJudged (s : State) (c : Camera) : (s.markJudged c).offCamera = s.offCamera := by
  unfold State.markJudged
  try dsimp only
  simp

@[simp] theorem State.besideCameras_markJudged (s : State) (c : Camera) : (s.markJudged c).besideCameras = s.besideCameras :=
  State.besideCameras_of_offCamera (by simp)

@[simp] theorem State.offCamera_endIfDone (s : State) (c : Camera) : (s.endIfDone c).offCamera = s.offCamera := by
  unfold State.endIfDone; try dsimp only
  repeat' split
  all_goals simp

@[simp] theorem State.besideCameras_endIfDone (s : State) (c : Camera) : (s.endIfDone c).besideCameras = s.besideCameras :=
  State.besideCameras_of_offCamera (by simp)

@[simp] theorem State.offCamera_lineInFill (s : State) (c : Camera) (n : Nat) (k : RowRecord) : (s.lineInFill c n k).offCamera = s.offCamera := by
  unfold State.lineInFill; try dsimp only
  repeat' split
  all_goals simp

@[simp] theorem State.besideCameras_lineInFill (s : State) (c : Camera) (n : Nat) (k : RowRecord) : (s.lineInFill c n k).besideCameras = s.besideCameras :=
  State.besideCameras_of_offCamera (by simp)

@[simp] theorem State.offCamera_lastInFill (s : State) (c : Camera) (k : RowRecord) : (s.lastInFill c k).offCamera = s.offCamera := by
  unfold State.lastInFill; try dsimp only
  repeat' split
  all_goals simp

@[simp] theorem State.besideCameras_lastInFill (s : State) (c : Camera) (k : RowRecord) : (s.lastInFill c k).besideCameras = s.besideCameras :=
  State.besideCameras_of_offCamera (by simp)

@[simp] theorem State.offCamera_takePlace (s : State) (c : Camera) (n : Nat) (k : RowRecord) : (s.takePlace c n k).offCamera = s.offCamera := by
  unfold State.takePlace; try dsimp only
  repeat' split
  all_goals simp

@[simp] theorem State.besideCameras_takePlace (s : State) (c : Camera) (n : Nat) (k : RowRecord) : (s.takePlace c n k).besideCameras = s.besideCameras :=
  State.besideCameras_of_offCamera (by simp)

@[simp] theorem State.besideCameras_dropToSearch (s : State) (c : Camera) : (s.dropToSearch c).besideCameras = s.besideCameras := by
  unfold State.dropToSearch
  try dsimp only
  simp

@[simp] theorem State.besideCameras_searchTakes (s : State) (c : Camera) (k : Nat) : (s.searchTakes c k).besideCameras = s.besideCameras := by
  unfold State.searchTakes
  try dsimp only
  simp

@[simp] theorem State.besideCameras_confirmFails (s : State) (c : Camera) : (s.confirmFails c).besideCameras = s.besideCameras := by
  unfold State.confirmFails
  try dsimp only
  simp

@[simp] theorem State.besideCameras_enterLocked (s : State) (c : Camera) (k : Nat) : (s.enterLocked c k).besideCameras = s.besideCameras := by
  unfold State.enterLocked
  try dsimp only
  simp

@[simp] theorem State.besideCameras_frameSlip (s : State) (c : Camera) (k : Nat) : (s.frameSlip c k).besideCameras = s.besideCameras := by
  unfold State.frameSlip; try dsimp only
  repeat' split
  all_goals simp

@[simp] theorem State.besideCameras_missingFrameStart (s : State) (c : Camera) : (s.missingFrameStart c).besideCameras = s.besideCameras := by
  unfold State.missingFrameStart; try dsimp only
  repeat' split
  all_goals simp

@[simp] theorem State.besideCameras_frameStart (s : State) (c : Camera) (k : Nat) : (s.frameStart c k).besideCameras = s.besideCameras := by
  unfold State.frameStart; try dsimp only
  repeat' split
  all_goals simp

@[simp] theorem State.besideCameras_wake (s : State) (c : Camera) : (s.wake c).besideCameras = s.besideCameras := by
  unfold State.wake; try dsimp only
  repeat' split
  all_goals simp

@[simp] theorem State.besideCameras_rowRecord (s : State) (c : Camera) (k : RowRecord) : (s.rowRecord c k).besideCameras = s.besideCameras := by
  unfold State.rowRecord; try dsimp only
  repeat' split
  all_goals simp

@[simp] theorem State.besideCameras_rowArrives (s : State) (c : Camera) (k : RowRecord) : (s.rowArrives c k).besideCameras = s.besideCameras := by
  unfold State.rowArrives
  try dsimp only
  simp

@[simp] theorem State.besideCameras_fallSilent (s : State) (c : Camera) : (s.fallSilent c).besideCameras = s.besideCameras := by
  unfold State.fallSilent; try dsimp only
  repeat' split
  all_goals simp

@[simp] theorem State.besideCameras_windowEnd (s : State) (c : Camera) : (s.windowEnd c).besideCameras = s.besideCameras := by
  unfold State.windowEnd; try dsimp only
  repeat' split
  all_goals simp

@[simp] theorem State.besideCameras_openCamera (s : State) (c : Camera) : (s.openCamera c).besideCameras = s.besideCameras := by
  unfold State.openCamera
  try dsimp only
  simp

@[simp] theorem State.besideCameras_openCameras (s : State) : s.openCameras.besideCameras = s.besideCameras :=
  State.foldl_fixes _ State.besideCameras State.besideCameras_openCamera _ _

end Sys2Proof.Machine
end

