-- ==== Sys2Proof/Laws/Memory.lean ====
section
/-! SUPPORT. Memory: every write keeps the canonical form, a read after a write, and the bytes of a load. -/

namespace Sys2Proof.Machine

theorem Memory.cellsOf_bounds (d : Byte) (base : Nat) (bs : List Byte) :
    ∀ c ∈ Memory.cellsOf d base bs, base ≤ c.1 ∧ c.1 < base + bs.length := by
  induction bs generalizing base with
  | nil => simp [Memory.cellsOf]
  | cons b bs ih =>
    intro c hc
    simp only [Memory.cellsOf] at hc
    split at hc
    · have := ih (base + 1) c hc; simp only [List.length_cons]; omega
    · rcases List.mem_cons.1 hc with rfl | hc
      · simp
      · have := ih (base + 1) c hc; simp only [List.length_cons]; omega

theorem Memory.cellsOf_wf (d : Byte) (base : Nat) (bs : List Byte) : Memory.wf d (Memory.cellsOf d base bs) := by
  induction bs generalizing base with
  | nil => simp [Memory.cellsOf, Memory.wf]
  | cons b bs ih =>
    simp only [Memory.cellsOf]
    split
    · exact ih (base + 1)
    · refine ⟨List.pairwise_cons.2 ⟨fun c hc => ?_, (ih (base + 1)).1⟩, fun c hc => ?_⟩
      · have := Memory.cellsOf_bounds d (base + 1) bs c hc; simp only; omega
      · rcases List.mem_cons.1 hc with rfl | hc
        · assumption
        · exact (ih (base + 1)).2 c hc

/-- A write keeps the canonical form. -/
theorem Memory.store_wf (d : Byte) (m : Memory) (base : Nat) (bs : List Byte) (h : Memory.wf d m) :
    Memory.wf d (Memory.store d m base bs) := by
  obtain ⟨hp, hd⟩ := h
  unfold Memory.store
  refine ⟨List.pairwise_append.2 ⟨List.pairwise_append.2 ⟨hp.filter _, (Memory.cellsOf_wf d base bs).1, ?_⟩, hp.filter _, ?_⟩, ?_⟩
  · intro a ha c hc
    have h1 := (List.mem_filter.1 ha).2
    have h2 := Memory.cellsOf_bounds d base bs c hc
    simp only [decide_eq_true_eq] at h1; omega
  · intro a ha c hc
    have h2 := (List.mem_filter.1 hc).2
    simp only [decide_eq_true_eq] at h2
    rcases List.mem_append.1 ha with ha | ha
    · have h1 := (List.mem_filter.1 ha).2
      simp only [decide_eq_true_eq] at h1; omega
    · have h1 := Memory.cellsOf_bounds d base bs a ha; omega
  · intro c hc
    rcases List.mem_append.1 hc with hc | hc
    · rcases List.mem_append.1 hc with hc | hc
      · exact hd c (List.mem_filter.1 hc).1
      · exact (Memory.cellsOf_wf d base bs).2 c hc
    · exact hd c (List.mem_filter.1 hc).1

theorem Memory.lookup_filter (m : Memory) (p : Nat → Bool) (a : Nat) :
    (m.filter fun c => p c.1).lookup a = if p a then m.lookup a else none := by
  induction m with
  | nil => simp
  | cons c m ih =>
    obtain ⟨b, v⟩ := c
    by_cases hab : a = b
    · subst hab
      by_cases hb : p a
      · simp [hb]
      · rw [List.filter_cons_of_neg (by simpa using hb), ih, if_neg hb, if_neg hb]
    · have hab' : (a == b) = false := by simpa using hab
      by_cases hb : p b
      · rw [List.filter_cons_of_pos (by simpa using hb), List.lookup_cons, List.lookup_cons, hab', ih]
      · rw [List.filter_cons_of_neg (by simpa using hb), List.lookup_cons, hab', ih]

theorem Memory.lookup_cellsOf (d : Byte) (base : Nat) (bs : List Byte) (a : Nat) :
    ((Memory.cellsOf d base bs).lookup a).getD d = if base ≤ a ∧ a < base + bs.length then bs.getD (a - base) 0 else d := by
  induction bs generalizing base with
  | nil => simp [Memory.cellsOf]
  | cons b bs ih =>
    have step : a ≠ base → (if base + 1 ≤ a ∧ a < base + 1 + bs.length then bs.getD (a - (base + 1)) 0 else d) =
        if base ≤ a ∧ a < base + (b :: bs).length then (b :: bs).getD (a - base) 0 else d := by
      intro hne
      by_cases h : base ≤ a ∧ a < base + (b :: bs).length
      · have h' : base + 1 ≤ a ∧ a < base + 1 + bs.length := by simp only [List.length_cons] at h; omega
        rw [if_pos h, if_pos h', show a - base = (a - (base + 1)) + 1 by omega, List.getD_cons_succ]
      · have h' : ¬ (base + 1 ≤ a ∧ a < base + 1 + bs.length) := by simp only [List.length_cons] at h; omega
        rw [if_neg h, if_neg h']
    simp only [Memory.cellsOf]
    by_cases ha : a = base
    · subst ha
      have hi : a ≤ a ∧ a < a + (b :: bs).length := by simp
      rw [if_pos hi]
      split
      · rename_i hbd
        rw [ih, if_neg (by omega)]; simp [hbd]
      · simp
    · split
      · rw [ih, step ha]
      · rw [List.lookup_cons, show (a == base) = false by simpa using ha, ih, step ha]

theorem Memory.lookup_append (m n : Memory) (a : Nat) :
    (m ++ n).lookup a = (m.lookup a).or (n.lookup a) := by
  induction m with
  | nil => simp
  | cons c m ih =>
    obtain ⟨b, v⟩ := c
    simp only [List.cons_append, List.lookup_cons, ih]
    cases a == b <;> simp

/-- A read after a write: the byte written inside the bytes stored, the old byte outside. -/
theorem Memory.read_store (d : Byte) (m : Memory) (base : Nat) (bs : List Byte) (a : Nat) :
    Memory.read d (Memory.store d m base bs) a =
      if base ≤ a ∧ a < base + bs.length then bs.getD (a - base) 0 else Memory.read d m a := by
  unfold Memory.read Memory.store
  rw [Memory.lookup_append, Memory.lookup_append, Memory.lookup_filter m (fun x => decide (x < base)),
    Memory.lookup_filter m (fun x => decide (base + bs.length ≤ x))]
  have hc := Memory.lookup_cellsOf d base bs a
  by_cases h : base ≤ a ∧ a < base + bs.length
  · have h1 : decide (a < base) = false := by simp; omega
    have h2 : decide (base + bs.length ≤ a) = false := by simp; omega
    rw [if_pos h] at hc
    simp only [h1, h2, if_pos h, Bool.false_eq_true, if_false, Option.none_or, Option.or_none]
    exact hc
  · have hn : (Memory.cellsOf d base bs).lookup a = none := by
      rw [List.lookup_eq_none_iff]
      intro c hm
      have := Memory.cellsOf_bounds d base bs c hm
      simp; omega
    simp only [hn, if_neg h]
    by_cases h1 : a < base
    · have h2 : decide (base + bs.length ≤ a) = false := by simp; omega
      simp [h1, h2]
    · have h2 : decide (base + bs.length ≤ a) = true := by simp; omega
      simp [h1, h2]

theorem Memory.walk_length (d : Byte) (n a : Nat) (m : Memory) : (Memory.walk d n a m).length = n := by
  induction n generalizing a m with
  | zero => simp [Memory.walk]
  | succ n ih =>
    cases m with
    | nil => simp [Memory.walk, ih]
    | cons c m => obtain ⟨b, v⟩ := c; simp only [Memory.walk]; split <;> simp [ih]

@[simp] theorem Memory.load_length (d : Byte) (m : Memory) (base n : Nat) : (Memory.load d m base n).length = n :=
  Memory.walk_length d n base _

theorem Memory.walk_getD (d : Byte) (n a : Nat) (m : Memory) (hp : m.Pairwise fun x y => x.1 < y.1)
    (hl : ∀ c ∈ m, a ≤ c.1) (i : Nat) (hi : i < n) : (Memory.walk d n a m).getD i 0 = Memory.read d m (a + i) := by
  induction n generalizing a m i with
  | zero => omega
  | succ n ih =>
    cases m with
    | nil =>
      cases i with
      | zero => simp [Memory.walk, Memory.read]
      | succ i =>
        rw [Memory.walk, List.getD_cons_succ, ih (a + 1) [] List.Pairwise.nil (by simp) i (by omega)]
        simp [Memory.read]
    | cons c m =>
      obtain ⟨b, v⟩ := c
      have hb : a ≤ b := hl (b, v) (by simp)
      have hgt : ∀ c ∈ m, b < c.1 := fun c hc => (List.pairwise_cons.1 hp).1 c hc
      simp only [Memory.walk]
      split
      · rename_i hba
        subst hba
        cases i with
        | zero => simp [Memory.read]
        | succ i =>
          rw [List.getD_cons_succ, ih (b + 1) m (List.pairwise_cons.1 hp).2 (fun c hc => hgt c hc) i (by omega)]
          simp only [Memory.read, List.lookup_cons]
          rw [show (b + (i + 1) == b) = false by simp, show b + 1 + i = b + (i + 1) by omega]
      · rename_i hba
        cases i with
        | zero =>
          simp only [List.getD_cons_zero, Nat.add_zero, Memory.read]
          rw [List.lookup_eq_none_iff.2]
          · rfl
          · intro c hc
            rcases List.mem_cons.1 hc with rfl | hc
            · simp; omega
            · have := hgt c hc; simp; omega
        | succ i =>
          rw [List.getD_cons_succ, ih (a + 1) ((b, v) :: m) hp (fun c hc => ?_) i (by omega),
            show a + 1 + i = a + (i + 1) by omega]
          rcases List.mem_cons.1 hc with rfl | hc
          · simp only; omega
          · have := hgt c hc; omega

/-- Byte i of a load is a read. -/
theorem Memory.load_getD (d : Byte) (m : Memory) (base n i : Nat) (h : Memory.wf d m) (hi : i < n) :
    (Memory.load d m base n).getD i 0 = Memory.read d m (base + i) := by
  unfold Memory.load
  rw [Memory.walk_getD d n base _ (h.1.filter _) (fun c hc => by simpa using (List.mem_filter.1 hc).2) i hi]
  unfold Memory.read
  rw [Memory.lookup_filter m (fun x => decide (base ≤ x))]
  simp

/-- A load of what was just stored. -/
theorem Memory.load_store (d : Byte) (m : Memory) (base : Nat) (bs : List Byte) (h : Memory.wf d m) :
    Memory.load d (Memory.store d m base bs) base bs.length = bs := by
  apply List.ext_getElem (by simp)
  intro i h1 h2
  have h3 := Memory.load_getD d (Memory.store d m base bs) base bs.length i (Memory.store_wf d m base bs h) h2
  rw [Memory.read_store, if_pos (by omega), show base + i - base = i by omega] at h3
  rwa [List.getD_eq_getElem _ _ h1, List.getD_eq_getElem _ _ h2] at h3

end Sys2Proof.Machine
end

