-- ==== Sys2Proof/Laws/Queues.lean ====
section
/-! SUPPORT. The queues of a link controller: each operation keeps `LinkCtl.Ok`; and what is true of every controller, and kept by
a notice and by a change of flags, is kept by every operation that does no more than raise notices. -/

namespace Sys2Proof.Machine

/-! ## One controller -/

theorem LinkCtl.atReset_ok : LinkCtl.atReset.Ok :=
  ⟨by simp [LinkCtl.atReset], by simp [LinkCtl.atReset], by simp [LinkCtl.atReset, LinkCtl.subjects], by simp [LinkCtl.atReset]⟩

theorem LinkCtl.subjects_append (c : LinkCtl) (q : List OutMsg) :
    ({ c with outbound := c.outbound ++ q } : LinkCtl).subjects = c.subjects ++ q.filterMap OutMsg.notice := by
  simp [LinkCtl.subjects]

theorem List.filterMap_set_same {α β : Type} (f : α → Option β) (l : List α) (i : Nat) (a : α) (h : l[i]?.map f = some (f a)) :
    (l.set i a).filterMap f = l.filterMap f := by
  induction l generalizing i with
  | nil => simp
  | cons b l ih =>
    cases i with
    | zero => simp only [List.getElem?_cons_zero, Option.map_some, Option.some.injEq] at h; simp [List.filterMap_cons, h]
    | succ i =>
      simp only [List.getElem?_cons_succ] at h
      simp [List.filterMap_cons, ih i h]

theorem LinkCtl.detach_sending (c : LinkCtl) : ∀ t, c.detach.transit = some t → t.removesHead = false := by
  intro t h
  simp only [LinkCtl.detach, Option.map_eq_some_iff] at h
  obtain ⟨u, _, rfl⟩ := h
  rfl

/-- R182 -/
theorem LinkCtl.pushNotice_ok (c : LinkCtl) (m : OutMsg) (hm : m.notice.isSome = true) (h : c.Ok) : (c.pushNotice m).Ok := by
  unfold LinkCtl.pushNotice
  split
  · rename_i i hi
    rw [List.findIdx?_eq_some_iff_getElem] at hi
    obtain ⟨hlt, heq, _⟩ := hi
    have hsub : (c.outbound.set i m).filterMap OutMsg.notice = c.outbound.filterMap OutMsg.notice := by
      apply List.filterMap_set_same
      rw [List.getElem?_eq_getElem hlt]
      simpa using heq
    refine ⟨?_, ?_, ?_, ?_⟩
    · split <;> exact h.inbound
    · simpa using h.outbound
    · simp only [LinkCtl.subjects, hsub]; exact h.subjects
    · intro t ht hr
      split at ht
      · exact absurd hr (by simp [LinkCtl.detach_sending c t ht])
      · rename_i hne
        obtain ⟨h1, h2⟩ := h.sending t ht hr
        refine ⟨h1, ?_⟩
        obtain ⟨j, rfl⟩ := Nat.exists_eq_succ_of_ne_zero hne
        rw [← h2]
        show (c.outbound.set (j + 1) m).head? = c.outbound.head?
        cases c.outbound <;> simp
  · rename_i hnone
    split
    · rename_i hlen
      refine ⟨h.inbound, by simp; omega, ?_, ?_⟩
      · rw [LinkCtl.subjects_append]
        obtain ⟨k, hk⟩ := Option.isSome_iff_exists.1 hm
        simp only [List.filterMap_cons, hk, List.filterMap_nil]
        refine List.nodup_append.2 ⟨h.subjects, by simp, ?_⟩
        intro a ha b hb hab
        simp only [List.mem_singleton] at hb
        subst hb; subst hab
        simp only [LinkCtl.subjects, List.mem_filterMap] at ha
        obtain ⟨q, hq, hqa⟩ := ha
        rw [List.findIdx?_eq_none_iff] at hnone
        have := hnone q hq
        simp [hqa, hk] at this
      · intro t ht hr
        obtain ⟨h1, h2⟩ := h.sending t ht hr
        refine ⟨h1, ?_⟩
        rw [← h2]
        show (c.outbound ++ [m]).head? = c.outbound.head?
        rw [← h2] at h1
        cases hc : c.outbound <;> simp_all
    · exact ⟨h.inbound, h.outbound, h.subjects, h.sending⟩

/-- A change of flags. -/
theorem LinkCtl.flags_ok (c : LinkCtl) (f : EventFlags) (h : c.Ok) : ({ c with flags := f } : LinkCtl).Ok :=
  ⟨h.inbound, h.outbound, h.subjects, h.sending⟩

theorem LinkCtl.ownerTimer_ok (c : LinkCtl) (t : Timer) (h : c.Ok) : ({ c with ownerTimer := t } : LinkCtl).Ok :=
  ⟨h.inbound, h.outbound, h.subjects, h.sending⟩

theorem LinkCtl.inbound_ok (c : LinkCtl) (q : List Request) (hq : q.length ≤ Config.inboundLimit) (h : c.Ok) :
    ({ c with inbound := q } : LinkCtl).Ok :=
  ⟨hq, h.outbound, h.subjects, h.sending⟩

/-- R181 -/
theorem LinkCtl.makeRoom_ok (c : LinkCtl) (h : c.Ok) : c.makeRoom.Ok := by
  unfold LinkCtl.makeRoom
  split
  · exact h
  · split
    · rename_i i hi
      rw [List.findIdx?_eq_some_iff_getElem] at hi
      obtain ⟨hlt, _, _⟩ := hi
      refine ⟨?_, ?_, ?_, ?_⟩
      · split <;> exact h.inbound
      · have := h.outbound; simp [List.length_eraseIdx, hlt]; omega
      · exact h.subjects.sublist ((List.eraseIdx_sublist _ _).filterMap _)
      · intro t ht hr
        split at ht
        · exact absurd hr (by simp [LinkCtl.detach_sending c t ht])
        · rename_i hne
          obtain ⟨h1, h2⟩ := h.sending t ht hr
          refine ⟨h1, ?_⟩
          obtain ⟨j, rfl⟩ := Nat.exists_eq_succ_of_ne_zero hne
          rw [← h2]
          show (c.outbound.eraseIdx (j + 1)).head? = c.outbound.head?
          cases c.outbound <;> simp
    · exact h

/-- R181: after room is made in a queue that can take a reply, fewer than 12 messages stand in it. -/
theorem LinkCtl.makeRoom_length (c : LinkCtl) (h : c.Ok) (hr : c.canReply = true) :
    c.makeRoom.outbound.length < Config.outboundLimit := by
  unfold LinkCtl.makeRoom
  split
  · assumption
  · rename_i hlen
    split
    · rename_i i hi
      rw [List.findIdx?_eq_some_iff_getElem] at hi
      obtain ⟨hlt, _, _⟩ := hi
      have := h.outbound
      simp only [List.length_eraseIdx, hlt, if_true]
      omega
    · rename_i hnone
      rw [List.findIdx?_eq_none_iff] at hnone
      simp only [LinkCtl.canReply, Bool.or_eq_true, decide_eq_true_eq, List.any_eq_true] at hr
      rcases hr with hr | ⟨m, hm, hs⟩
      · exact absurd hr hlen
      · simp [hnone m hm] at hs

/-- R181 -/
theorem LinkCtl.pushReply_ok (c : LinkCtl) (m : OutMsg) (hm : m.notice = none) (h : c.Ok) (hr : c.canReply = true) :
    (c.pushReply m).Ok := by
  have h1 := c.makeRoom_ok h
  have h2 := c.makeRoom_length h hr
  unfold LinkCtl.pushReply
  refine ⟨h1.inbound, ?_, ?_, ?_⟩
  · show (c.makeRoom.outbound ++ [m]).length ≤ _
    rw [List.length_append]; exact h2
  · rw [LinkCtl.subjects_append]; simpa [hm] using h1.subjects
  · intro t ht hrem
    obtain ⟨h3, h4⟩ := h1.sending t ht hrem
    refine ⟨h3, ?_⟩
    rw [← h4] at h3 ⊢
    show (c.makeRoom.outbound ++ [m]).head? = c.makeRoom.outbound.head?
    cases hc : c.makeRoom.outbound <;> simp_all

/-- R174, R176 -/
theorem LinkCtl.finishSending_ok (c : LinkCtl) (h : c.Ok) : c.finishSending.Ok := by
  unfold LinkCtl.finishSending
  split
  · rename_i t _
    refine ⟨h.inbound, ?_, ?_, by simp⟩
    · have := h.outbound; dsimp only; split
      · simp; omega
      · exact this
    · dsimp only [LinkCtl.subjects]; split
      · exact h.subjects.sublist ((List.tail_sublist _).filterMap _)
      · exact h.subjects
  · exact h

/-- R178 -/
theorem LinkCtl.arrive_ok (c : LinkCtl) (timeout : Nat) (r : Request) (h : c.Ok) : (c.arrive timeout r).Ok := by
  unfold LinkCtl.arrive
  split
  · rename_i hl
    exact ⟨by simp; omega, h.outbound, h.subjects, h.sending⟩
  · exact c.flags_ok _ h

theorem LinkCtl.emptied_ok (c : LinkCtl) (hin : c.inbound = []) (hout : c.outbound = [])
    (ht : ∀ t, c.transit = some t → t.removesHead = false) : c.Ok :=
  ⟨by simp [hin], by simp [hout], by simp [LinkCtl.subjects, hout], fun t h hr => by simp [ht t h] at hr⟩

/-- R187 -/
theorem LinkCtl.warmReset_ok (i : Nat) (c : LinkCtl) (timeout : Nat) : (c.warmReset i timeout).Ok :=
  LinkCtl.emptied_ok _ rfl rfl fun t h => by
    simp only [LinkCtl.warmReset] at h
    split at h
    · cases h
    · obtain ⟨_, _, rfl⟩ := Option.map_eq_some_iff.1 h
      rfl

/-- R187 -/
theorem LinkCtl.start_ok (c : LinkCtl) (timeout : Nat) : (c.start timeout).Ok :=
  LinkCtl.emptied_ok _ rfl rfl fun t h => by
    obtain ⟨_, _, rfl⟩ := Option.map_eq_some_iff.1 h
    rfl

/-- R174 -/
theorem LinkCtl.putUp_ok (b : Body) (i : Nat) (c : LinkCtl) (h : c.Ok) : (c.putUp b i).Ok := by
  unfold LinkCtl.putUp
  split
  · rename_i m q _ _ heq
    refine ⟨h.inbound, h.outbound, h.subjects, ?_⟩
    intro t ht _
    simp only [Option.some.injEq] at ht
    subst ht
    exact ⟨rfl, by simp [heq]⟩
  · exact h

/-- R176 -/
theorem LinkCtl.startExchange_ok (c : LinkCtl) (h : c.Ok) : c.startExchange.Ok := by
  unfold LinkCtl.startExchange
  split
  · exact h
  · refine ⟨h.inbound, h.outbound, h.subjects, ?_⟩
    intro t ht hr
    simp only [Option.some.injEq] at ht
    subst ht
    exact ⟨hr, rfl⟩

/-- R187 -/
theorem LinkCtl.startIdleExchange_ok (c : LinkCtl) (h : c.Ok) : c.startIdleExchange.Ok := by
  unfold LinkCtl.startIdleExchange
  split
  · exact h
  · refine ⟨h.inbound, h.outbound, h.subjects, ?_⟩
    intro t ht hr
    simp only [Option.some.injEq] at ht
    subst ht
    simp at hr

theorem LinkCtl.noTransit_ok (c : LinkCtl) (b : Bool) (h : c.Ok) : ({ c with transit := none, busOff := b } : LinkCtl).Ok :=
  ⟨h.inbound, h.outbound, h.subjects, by simp⟩

/-- R175 -/
theorem LinkCtl.enterBusOff_ok (c : LinkCtl) (h : c.Ok) : c.enterBusOff.Ok :=
  ⟨h.inbound, by simp [LinkCtl.enterBusOff], by simp [LinkCtl.enterBusOff, LinkCtl.subjects], by simp [LinkCtl.enterBusOff]⟩

/-! ## A queue that can take a reply stays so -/

theorem LinkCtl.pushNotice_canReply (c : LinkCtl) (m : OutMsg) (hm : m.notice.isSome = true) (h : c.canReply = true) :
    (c.pushNotice m).canReply = true := by
  unfold LinkCtl.pushNotice
  split
  · rename_i i hi
    rw [List.findIdx?_eq_some_iff_getElem] at hi
    obtain ⟨hlt, _, _⟩ := hi
    simp only [LinkCtl.canReply, Bool.or_eq_true, List.any_eq_true]
    exact Or.inr ⟨m, List.mem_set hlt m, hm⟩
  · split
    · simp [LinkCtl.canReply, hm]
    · exact h

/-! ## Every controller -/

/-- A property of controllers that a notice and a change of flags keep. -/
structure LinkCtl.Stable (P : Link → LinkCtl → Prop) : Prop where
  notice : ∀ l c m, m.notice.isSome = true → P l c → P l (c.pushNotice m)
  flags : ∀ l c f, P l c → P l { c with flags := f }

/-- From s to t nothing has happened to the controllers but notices and changes of flags. -/
def State.Raised (s t : State) : Prop :=
  ∀ P, LinkCtl.Stable P → (∀ l, P l (s.ctl l)) → ∀ l, P l (t.ctl l)

theorem State.Raised.refl (s : State) : State.Raised s s := fun _ _ h => h

theorem State.Raised.trans {s t u : State} (h1 : State.Raised s t) (h2 : State.Raised t u) : State.Raised s u :=
  fun P hP h => h2 P hP (h1 P hP h)

theorem State.Raised.of_links {s t : State} (h : t.links = s.links) : State.Raised s t := by
  intro P _ hs l
  have : t.ctl l = s.ctl l := by simp [State.ctl, h]
  rw [this]; exact hs l

theorem State.Raised.ite (p : Prop) [Decidable p] {s t u : State} (ht : State.Raised s t) (hu : State.Raised s u) :
    State.Raised s (if p then t else u) := by
  split
  · exact ht
  · exact hu

theorem State.Raised.foldl {α : Type} (f : State → α → State) (h : ∀ s a, State.Raised s (f s a)) (l : List α) (s : State) :
    State.Raised s (l.foldl f s) := by
  induction l generalizing s with
  | nil => exact .refl s
  | cons a l ih => exact (h s a).trans (ih _)

/-- R182: raising a notice. -/
theorem State.raise_raised (s : State) (k : NoticeKind) (n : Nat) (f : List Byte) : State.Raised s (s.raise k n f) := by
  intro P hP hs l
  unfold State.raise State.ctl
  dsimp only
  split
  · simp only [Fin.getElem_fin, Vector.getElem_mapIdx]
    split
    · exact hP.notice l _ _ rfl (hs l)
    · exact hs l
  · exact hs l

theorem State.setFlags_raised (s : State) (l : Link) (f : EventFlags) :
    State.Raised s (s.setCtl l { s.ctl l with flags := f }) := by
  intro P hP hs l'
  by_cases h : l' = l
  · subst h; rw [State.ctl_setCtl_self]; exact hP.flags _ _ _ (hs _)
  · rw [State.ctl_setCtl_of_ne _ _ _ _ h]; exact hs l'

theorem State.setFraming_raised (s : State) (l : Link) : State.Raised s (s.setFraming l) := s.setFlags_raised l _

theorem State.setPurged_raised (s : State) (l : Link) : State.Raised s (s.setPurged l) := s.setFlags_raised l _

theorem State.clearFlags_raised (s : State) (l : Link) : State.Raised s (s.clearFlags l) := s.setFlags_raised l _

theorem State.noteView_raised (b s : State) : State.Raised s (State.noteView b s) := by
  unfold State.noteView; split
  · exact .refl s
  · exact s.raise_raised _ _ _

theorem State.noteSettings_raised (b s : State) : State.Raised s (State.noteSettings b s) := by
  unfold State.noteSettings; split
  · exact .refl s
  · exact s.raise_raised _ _ _

theorem State.noteCamera_raised (c : Camera) (b s : State) : State.Raised s (State.noteCamera c b s) := by
  unfold State.noteCamera; split
  · exact .refl s
  · exact s.raise_raised _ _ _

theorem State.serve_links (s : State) (i : Cause) : (s.serve i).links = s.links := by
  unfold State.serve; split <;> rfl

theorem State.decideView_links (s : State) : s.decideView.links = s.links := by
  unfold State.decideView; repeat' split
  all_goals simp [State.serve_links]

theorem State.choose_raised (s : State) : State.Raised s s.choose :=
  (State.Raised.of_links s.decideView_links).trans (State.noteView_raised _ _)

theorem State.raiseCause_links (s : State) (i : Cause) : (s.raiseCause i).links = s.links := by
  unfold State.raiseCause; dsimp only; split <;> rfl

theorem State.onset_raised (s : State) (z : Zone) (v : Nat) : State.Raised s (s.onset z v) :=
  (State.Raised.of_links (State.foldl_fixes _ State.links State.raiseCause_links _ _)).trans (State.choose_raised _)

theorem State.takeZone_raised (s : State) (z : Zone) (r : ZoneRec) : State.Raised s (s.takeZone z r) := by
  have h1 : State.Raised s (if (s.zoneRec z).face = r.face then s.setZoneRec z r else (s.setZoneRec z r).zoneChange z r) := by
    split
    · exact .of_links rfl
    · exact (State.Raised.of_links rfl).trans (((s.setZoneRec z r).raise_raised _ _ _).trans (.of_links rfl))
  unfold State.takeZone
  dsimp only
  split
  · exact h1.trans (State.onset_raised _ _ _)
  · exact h1

theorem State.evaluateZone_raised (s : State) (z : Zone) : State.Raised s (s.evaluateZone z) := by
  unfold State.evaluateZone; split
  · exact s.takeZone_raised _ _
  · exact .refl s

theorem State.recountZone_raised (s : State) (z : Zone) : State.Raised s (s.recountZone z) := by
  unfold State.recountZone; dsimp only; split
  · exact s.takeZone_raised _ _
  · exact .refl s

theorem State.commitZone_raised (s : State) (z : Zone) : State.Raised s (s.commitZone z) := by
  unfold State.commitZone; dsimp only; split <;> exact s.takeZone_raised _ _

theorem State.evaluateZones_raised (s : State) : State.Raised s s.evaluateZones :=
  State.Raised.foldl _ State.evaluateZone_raised _ _

theorem State.recountZones_raised (s : State) : State.Raised s s.recountZones :=
  State.Raised.foldl _ State.recountZone_raised _ _

theorem State.commitZones_raised (s : State) : State.Raised s s.commitZones :=
  State.Raised.foldl _ State.commitZone_raised _ _

theorem State.firstLook_raised (s : State) : State.Raised s s.firstLook :=
  s.evaluateZones_raised.trans (State.choose_raised _)

theorem State.handOn_raised (b s : State) : State.Raised s (State.handOn b s) := by
  unfold State.handOn
  extract_lets changed s1 s2
  have h1 : State.Raised s s1 := State.Raised.ite _ s.evaluateZones_raised (.refl s)
  have h2 : State.Raised s s2 := by
    clear_value s1
    exact State.Raised.ite _
      (h1.trans ((State.Raised.of_links (t := s1.endMasked) rfl).trans (State.choose_raised s1.endMasked))) h1
  clear_value s2
  exact State.Raised.ite _ (h2.trans (State.choose_raised s2)) h2

theorem State.settingsStep_raised (b s : State) : State.Raised s (State.settingsStep b s) :=
  (State.noteSettings_raised b s).trans (State.handOn_raised _ _)

theorem State.askServiceEnd_links (s : State) : s.askServiceEnd.links = s.links := by
  unfold State.askServiceEnd; split <;> rfl

theorem State.movingEnds_links (b s : State) : (State.movingEnds b s).links = s.links := by
  unfold State.movingEnds; split
  · exact s.askServiceEnd_links
  · rfl

theorem State.takeVehicle_raised (s : State) (v : Vehicle) : State.Raised s (s.takeVehicle v) :=
  ((State.Raised.of_links (State.movingEnds_links s { s with vehicle := v })).trans (State.noteSettings_raised _ _)).trans
    (State.handOn_raised _ _)

/-! ## The blocks' work on a request or event raises notices and no more -/

theorem State.clearMasks_raised (s : State) (l : Link) : State.Raised s (s.clearMasks l) := by
  unfold State.clearMasks
  refine State.Raised.trans ?_ (State.choose_raised _)
  exact .of_links rfl

theorem State.maskCauses_raised (s : State) (l : Link) (m : BitVec 16) : State.Raised s (s.maskCauses l m) := by
  unfold State.maskCauses
  refine State.Raised.trans ?_ (State.choose_raised _)
  exact .of_links rfl

theorem State.unmaskCauses_raised (s : State) (l : Link) (m : BitVec 16) : State.Raised s (s.unmaskCauses l m) := by
  unfold State.unmaskCauses
  refine State.Raised.trans ?_ (State.choose_raised _)
  exact .of_links rfl

theorem State.arbiterCommit_raised (s : State) : State.Raised s s.arbiterCommit := by
  unfold State.arbiterCommit
  refine State.Raised.trans ?_ (State.choose_raised _)
  exact .of_links rfl

theorem State.causeExpiry_raised (s : State) (i : Cause) : State.Raised s (s.causeExpiry i) := by
  unfold State.causeExpiry; split
  · exact .refl s
  · refine State.Raised.trans ?_ (State.choose_raised _)
    exact .of_links rfl

theorem State.showExpiry_raised (s : State) : State.Raised s s.showExpiry := by
  unfold State.showExpiry; split
  · exact .refl s
  · refine State.Raised.trans ?_ (State.choose_raised _)
    exact .of_links rfl

theorem State.holdExpiry_raised (s : State) (z : Zone) : State.Raised s (s.holdExpiry z) := by
  unfold State.holdExpiry; repeat' split
  · exact .refl s
  · exact s.takeZone_raised _ _
  · exact .of_links rfl

theorem State.dwellEnd_raised (s : State) (z : Zone) : State.Raised s (s.dwellEnd z) := by
  unfold State.dwellEnd; dsimp only; repeat' split
  · exact .refl s
  · exact s.takeZone_raised _ _
  · exact .of_links rfl

theorem State.setPlace_raised (s : State) (p : Place) (k : Option Track) : State.Raised s (s.setPlace p k) := by
  unfold State.setPlace
  refine State.Raised.trans ?_ (State.recountZones_raised _)
  exact .of_links rfl

theorem State.bodyReport_raised (s : State) (cycling : Bool) (c : Contacts) : State.Raised s (s.bodyReport cycling c) := by
  unfold State.bodyReport
  extract_lets v tr s1 s2
  have h1 : State.Raised s s1 := .of_links rfl
  clear_value s1
  have h2 : State.Raised s s2 := State.Raised.ite _ h1 (h1.trans (State.recountZones_raised _))
  clear_value s2
  exact h2.trans (State.handOn_raised _ _)

theorem State.purge_raised (s : State) (l : Link) : State.Raised s (s.purge l) := by
  unfold State.purge
  extract_lets s1
  have h1 : State.Raised s s1 := .of_links rfl
  clear_value s1
  exact State.Raised.ite _ (h1.trans (State.setPurged_raised _ _)) h1

theorem State.commitTable_raised (s : State) : State.Raised s s.commitTable := by
  unfold State.commitTable
  extract_lets tb s1
  refine State.Raised.trans (t := s1) (.of_links rfl) (State.Raised.foldl _ (fun t l => ?_) _ _)
  exact State.Raised.ite _ (State.setPurged_raised _ _) (.refl t)

theorem State.noteExpiry_raised (s : State) (i : ObjSlot) (l : Link) : State.Raised s (s.noteExpiry i l) := by
  unfold State.noteExpiry; split
  · intro P hP hs l'
    by_cases h : l' = l
    · subst h; rw [State.ctl_setCtl_self]; exact hP.notice _ _ _ rfl (hs _)
    · rw [State.ctl_setCtl_of_ne _ _ _ _ h]; exact hs l'
  · exact .refl s

theorem State.endSlot_raised (s : State) (i : ObjSlot) : State.Raised s (s.endSlot i) := by
  unfold State.endSlot
  extract_lets o s1
  have h1 : State.Raised s s1 := .of_links rfl
  clear_value s1
  split
  · exact h1.trans (State.noteExpiry_raised _ _ _)
  · exact h1

theorem State.countDownTable_raised (s : State) : State.Raised s s.countDownTable :=
  State.Raised.foldl _ State.endSlot_raised _ _

theorem State.endCommit_raised (s : State) (f : SettingsBlock → SettingsBlock) : State.Raised s (s.endCommit f) := by
  unfold State.endCommit; split
  · exact .refl s
  · extract_lets s1
    have h1 : State.Raised s s1 := .of_links rfl
    clear_value s1
    refine State.Raised.trans ?_ (State.settingsStep_raised _ _)
    exact State.Raised.ite _ (h1.trans (.of_links rfl)) h1

theorem State.enterService_raised (s : State) : State.Raised s s.enterService := by
  unfold State.enterService
  split
  · refine State.Raised.trans ?_ (State.settingsStep_raised _ _)
    exact .of_links rfl
  · refine State.Raised.trans ?_ (State.settingsStep_raised _ _)
    exact .of_links rfl

theorem State.commitVehicle_links (s : State) : s.commitVehicle.links = s.links := State.movingEnds_links _ _

theorem State.applyCommit_raised (s : State) (new : Body) : State.Raised s (s.applyCommit new) := by
  unfold State.applyCommit
  extract_lets s1 s2
  have h1 : State.Raised s s1 := .of_links rfl
  clear_value s1
  have h2 : State.Raised s s2 :=
    (h1.trans s1.commitTable_raised).trans
      (.of_links (State.commitVehicle_links (s1.commitTable.commitRegulators s.body)))
  clear_value s2
  have h3 := (h2.trans (State.noteSettings_raised s s2)).trans (State.commitZones_raised _)
  refine State.Raised.trans ?_ (State.arbiterCommit_raised _)
  generalize (State.noteSettings s s2).commitZones = u at h3 ⊢
  exact h3.trans (.of_links rfl)

theorem State.setSupply_raised (s : State) (u : Supply) : State.Raised s (s.setSupply u) := .of_links rfl

theorem State.dipExpiry_raised (s : State) : State.Raised s s.dipExpiry := by
  unfold State.dipExpiry; split
  · exact .refl s
  · refine State.Raised.trans ?_ (State.raise_raised _ _ _ _)
    exact .of_links rfl

theorem State.recoveryExpiry_raised (s : State) : State.Raised s s.recoveryExpiry := by
  unfold State.recoveryExpiry; split
  · exact .refl s
  · refine State.Raised.trans ?_ (State.raise_raised _ _ _ _)
    exact .of_links rfl

end Sys2Proof.Machine
end

