-- ==== Sys2Proof/Laws/Rows.lean ====
section
/-! SUPPORT. The rows: what a step of the running part and the taking of a request do, said once; and the parts each row leaves
alone. -/

namespace Sys2Proof.Machine

/-! ## Steps and requests -/

theorem whileRunning_running {s : State} (h : s.phase = .running) (f : State → State) :
    whileRunning s f = .next (f s).settle := by
  simp [whileRunning, h]

theorem whileRunning_not {s : State} (h : s.phase ≠ .running) (f : State → State) : whileRunning s f = .next s := by
  simp [whileRunning, h]

/-- Anything a row's work and the sending leave alone, the row leaves alone. -/
theorem whileRunning_fixes {β : Type} (g : State → β) (hg : ∀ s, g s.settle = g s) (f : State → State)
    (hf : ∀ s, g (f s) = g s) {s t : State} (h : whileRunning s f = .next t) : g t = g s := by
  unfold whileRunning at h
  injection h with h
  subst h
  split
  · rw [hg, hf]
  · rfl

/-- A property that a row's work and the sending keep, the row keeps. -/
theorem whileRunning_keeps (I : State → Prop) (hg : ∀ s, I s → I s.settle) (f : State → State)
    (hf : ∀ s, s.phase = .running → I s → I (f s)) {s t : State} (h : whileRunning s f = .next t) (hs : I s) : I t := by
  unfold whileRunning at h
  injection h with h
  subst h
  split
  · rename_i hr; exact hg _ (hf s hr hs)
  · exact hs

theorem State.takeHead_eq {s : State} {row : RequestRow} {l : Link} {r : Request} {t : State}
    (h : s.takeHead row l = some (r, t)) :
    ∃ rest, (s.ctl l).inbound = r :: rest ∧ (s.ctl l).canReply = true ∧ r.row = row ∧
      t = s.setCtl l { s.ctl l with inbound := rest } := by
  unfold State.takeHead at h
  split at h
  · rename_i r' rest heq
    split at h
    · rename_i hc
      simp only [Option.some.injEq, Prod.mk.injEq] at h
      obtain ⟨rfl, rfl⟩ := h
      exact ⟨rest, heq, hc.1, hc.2, rfl⟩
    · exact absurd h (by simp)
  · exact absurd h (by simp)

/-- R179: a request of the row stands at the head, and the outbound queue can take its reply. -/
theorem State.takeHead_ready {s : State} {row : RequestRow} {l : Link} {r : Request} {rest : List Request}
    (hin : (s.ctl l).inbound = r :: rest) (hc : (s.ctl l).canReply = true) (hr : r.row = row) :
    s.takeHead row l = some (r, s.setCtl l { s.ctl l with inbound := rest }) := by
  simp [State.takeHead, hin, hc, hr]

/-- R179: a request that is not too short is handed to its block and answered with what the block says. -/
theorem answering_ready {s : State} {row : RequestRow} {l : Link} {r : Request} {rest : List Request}
    (hin : (s.ctl l).inbound = r :: rest) (hc : (s.ctl l).canReply = true) (hr : r.row = row) (hs : r.tooShort = false)
    (act : Request → State → State × Answer) :
    answering row l act s =
      (act r (s.setCtl l { s.ctl l with inbound := rest })).1.reply l r
        (act r (s.setCtl l { s.ctl l with inbound := rest })).2 := by
  simp [answering, State.takeHead_ready hin hc hr, hs]

/-- Anything the block, the queues and the reply leave alone, the taking of a request leaves alone. -/
theorem answering_fixes {β : Type} (g : State → β) (hl : ∀ s l c, g (State.setCtl s l c) = g s) (row : RequestRow) (l : Link)
    (act : Request → State → State × Answer) (hact : ∀ r s, g (act r s).1 = g s) (s : State) :
    g (answering row l act s) = g s := by
  unfold answering
  split
  · rfl
  · rename_i r t h
    obtain ⟨rest, _, _, _, rfl⟩ := State.takeHead_eq h
    split
    · rw [State.reply, hl, hl]
    · rw [State.reply, hl, hact, hl]

/-- A property that no change of a controller and no work of the block breaks, the taking of a request keeps. -/
theorem answering_keeps (I : State → Prop) (hl : ∀ s l c, I s → I (State.setCtl s l c)) (row : RequestRow) (l : Link)
    (act : Request → State → State × Answer) (hact : ∀ r s, s.phase = .running → I s → I (act r s).1) (s : State)
    (hp : s.phase = .running) (hs : I s) : I (answering row l act s) := by
  unfold answering
  split
  · exact hs
  · rename_i r t h
    obtain ⟨rest, _, _, _, rfl⟩ := State.takeHead_eq h
    split
    · exact hl _ _ _ (hl _ _ _ hs)
    · exact hl _ _ _ (hact _ _ hp (hl _ _ _ hs))

/-- The queues stay in order through the taking of a request whose block does no more to them than raise notices. -/
theorem answering_queues (row : RequestRow) (l : Link) (act : Request → State → State × Answer)
    (hact : ∀ r s, State.Raised s (act r s).1) (s : State) (hs : s.QueuesOk) : (answering row l act s).QueuesOk := by
  unfold answering
  split
  · exact hs
  · rename_i r t h
    obtain ⟨rest, hin, hc, _, rfl⟩ := State.takeHead_eq h
    have stable : LinkCtl.Stable fun l' c => c.Ok ∧ (l' = l → c.canReply = true) :=
      ⟨fun _ c m hm hc => ⟨c.pushNotice_ok m hm hc.1, fun e => c.pushNotice_canReply m hm (hc.2 e)⟩,
        fun _ c f hc => ⟨c.flags_ok f hc.1, fun e => hc.2 e⟩⟩
    have h0 : ∀ l', ((s.setCtl l { s.ctl l with inbound := rest }).ctl l').Ok ∧
        (l' = l → ((s.setCtl l { s.ctl l with inbound := rest }).ctl l').canReply = true) := by
      intro l'
      by_cases hl : l' = l
      · subst hl
        rw [State.ctl_setCtl_self]
        refine ⟨(s.ctl l').inbound_ok rest ?_ (hs l'), fun _ => hc⟩
        have := (hs l').inbound
        rw [hin] at this
        exact Nat.le_of_succ_le this
      · rw [State.ctl_setCtl_of_ne _ _ _ _ hl]
        exact ⟨hs l', fun e => absurd e hl⟩
    have reply_ok : ∀ (u : State) (a : Answer),
        (∀ l', (u.ctl l').Ok ∧ (l' = l → (u.ctl l').canReply = true)) → (u.reply l r a).QueuesOk := by
      intro u a hu l'
      by_cases hl : l' = l
      · subst hl
        rw [State.reply, State.ctl_setCtl_self]
        exact LinkCtl.pushReply_ok _ _ rfl (hu l').1 ((hu l').2 rfl)
      · rw [State.reply, State.ctl_setCtl_of_ne _ _ _ _ hl]
        exact (hu l').1
    split
    · exact reply_ok _ _ h0
    · exact reply_ok _ _ (hact _ _ _ stable h0)

/-- R174: the sending keeps the queues in order. -/
theorem State.settle_queues (s : State) (hs : s.QueuesOk) : s.settle.QueuesOk := by
  intro l
  have h := hs l
  unfold State.settle State.ctl
  simp only [Fin.getElem_fin, Vector.getElem_mapIdx]
  split
  · exact LinkCtl.putUp_ok _ _ _ h
  · exact h

theorem State.Raised.queues {s t : State} (h : State.Raised s t) (hs : s.QueuesOk) : t.QueuesOk :=
  h (fun _ c => c.Ok) ⟨fun _ c m hm hc => c.pushNotice_ok m hm hc, fun _ c f hc => c.flags_ok f hc⟩ hs

theorem State.setCtl_queues (s : State) (l : Link) (c : LinkCtl) (hc : c.Ok) (hs : s.QueuesOk) : (s.setCtl l c).QueuesOk := by
  intro l'
  by_cases hl : l' = l
  · subst hl; rw [State.ctl_setCtl_self]; exact hc
  · rw [State.ctl_setCtl_of_ne _ _ _ _ hl]; exact hs l'

end Sys2Proof.Machine
end

