-- ==== Sys2Proof/Laws/Settings.lean ====
section
/-! SUPPORT. What the test of a body of settings says (R188): a body passes when no section has a failing item, the failure it is
answered with is the first of the first failing section, and panes overlap when they share a pixel. -/

namespace Sys2Proof.Machine

theorem panesOverlap_iff {a c : Pane} : panesOverlap a c = true ↔ ∃ q : Px, a.holds q = true ∧ c.holds q = true := by
  simp only [panesOverlap, Pane.holds, Bool.and_eq_true, decide_eq_true_eq]
  constructor
  · rintro ⟨h1, h2⟩
    exact ⟨⟨max a.py c.py, max a.px c.px⟩, by simp only; omega, by simp only; omega⟩
  · rintro ⟨q, h1, h2⟩
    omega

theorem sectionFailure_none {b : Body} {n : Nat} : sectionFailure b n = none ↔ ∀ c ∈ sectionChecks b n, c.2 = true := by
  simp [sectionFailure]

theorem sectionFailure_some {b : Body} {n item : Nat} (h : sectionFailure b n = some item) :
    (item, false) ∈ sectionChecks b n := by
  obtain ⟨⟨i, ok⟩, hf, rfl⟩ := Option.map_eq_some_iff.mp h
  have := List.find?_some hf
  simp only [Bool.not_eq_true'] at this
  subst this
  exact List.mem_of_find?_eq_some hf

theorem Body.firstFailure_none {b : Body} : b.firstFailure = none ↔ ∀ n, 1 ≤ n → n ≤ 8 → sectionFailure b n = none := by
  have : ∀ n, 1 ≤ n ∧ n ≤ 8 ↔ n ∈ [1, 2, 3, 4, 5, 6, 7, 8] := by intro n; simp; omega
  simp only [Body.firstFailure, List.findSome?_eq_none_iff, Option.map_eq_none_iff, ← this]
  exact ⟨fun h n h1 h8 => h n ⟨h1, h8⟩, fun h n hn => h n hn.1 hn.2⟩

theorem Body.valid_iff {b : Body} : b.valid = true ↔ b.firstFailure = none := by
  simp [Body.valid]

end Sys2Proof.Machine
end

