-- ==== Sys2Proof/WellFormed.lean ====
section
/-! DEFINITION. Which commands a sender can send: a packet is of the record its row names (R199), a CAN FD payload has at most
64 bytes, a completed SPI exchange has 36 bytes or more (R177). Every other operand is bounded by its type. `exec` is total all the same. -/

namespace Sys2Proof

open Sys2Proof.Machine in
/-- Whether the command's operands are such as its row names. -/
def Instr.wf : Instr → Bool
  | .frameStartRecord _ p => match classify p with | .frameStart _ => true | _ => false
  | .lineRecord _ p => match classify p with | .line _ _ => true | _ => false
  | .blankingRecord _ p => match classify p with | .blanking _ _ => true | _ => false
  | .canRequestFrame _ _ payload => payload.length ≤ 64
  | .spiExchange half => 36 ≤ half.length
  | _ => true

end Sys2Proof
end

