-- ==== Sys2Proof/Tests/Slice0.lean ====
section
/-! SUPPORT. The model's own tests: ill-formed commands refused, the spec's worked values on one step, and for each statement with
hypotheses a concrete state and operands that meet them. -/

namespace Sys2Proof.Tests

set_option Elab.async false

open Sys2Proof Sys2Proof.Machine

/-! ## Helpers -/

/-- Whether a command answers a next state. -/
def answers (i : Instr) (s : State) : Bool := match exec i s with | .next _ => true | _ => false

/-- The state after a command; the state itself where there is none. -/
def after (i : Instr) (s : State) : State := match exec i s with | .next t => t | _ => s

theorem after_eq {i : Instr} {s : State} (h : answers i s = true) : exec i s = .next (after i s) := by
  unfold answers at h; unfold after; split at h <;> simp_all

/-- The KS-4 running under the built-in defaults. -/
def ran : State := after .settingsLoadNotAcknowledged State.reset

/-- The same with other settings in force. -/
def ranWith (b : Body) : State := { ran with settings := { ran.settings with working := b } }

/-- A request with its field bytes. -/
def req (kind : Nat) (f : List Nat) : Request := { kind := byte kind, tag := 7, len := f.length, carried := f.map byte }

/-- A request alone in a link's inbound queue. -/
def asks (l : Link) (r : Request) (s : State) : State := s.setCtl l { s.ctl l with inbound := [r] }

/-- `State.Ready` as a check. -/
def readyB (s : State) (l : Link) (row : RequestRow) (r : Request) : Bool :=
  decide (s.phase = .running ∧ (s.ctl l).inbound.head? = some r ∧ r.row = row ∧ r.tooShort = false ∧ (s.ctl l).canReply = true)

theorem ready_of {s : State} {l : Link} {row : RequestRow} {r : Request} (h : readyB s l row r = true) : s.Ready l row r := by
  obtain ⟨a, b, c, d, e⟩ := of_decide_eq_true h
  exact ⟨a, b, c, d, e⟩

theorem ready_and {s : State} {l : Link} {row : RequestRow} {r : Request} {p : Prop} (h : readyB s l row r = true ∧ p) :
    s.Ready l row r ∧ p := ⟨ready_of h.1, h.2⟩

/-- `Picture.Ok` as a check. -/
def pictureB (p : Picture) (fill : Option SlotIx) : Bool :=
  decide ((∀ i, (p.slot i).state = .filling ↔ fill = some i) ∧ (∀ i, (p.slot i).state = .latest ↔ p.latest = some i) ∧
    (∀ i, (p.slot i).state = .free ∨ (p.slot i).state = .filling → (p.slot i).holders = Holders.none) ∧
    (∀ i, (p.slot i).state = .superseded → (p.slot i).holders ≠ Holders.none) ∧
    (∀ i j, (p.slot i).holders.recorder = true → (p.slot j).holders.recorder = true → i = j) ∧
    (∀ i, (p.slot i).holders.monitor = true → (p.slot i).holders.recorder = true) ∧
    (∀ i, (p.slot i).holders.copy = true ↔ p.copy.bind Copy.source = some i)) &&
  p.copy.all fun k => decide (k.target = none ∨ k.target = fill)

/-- `State.PicturesOk` of a running state as a check. -/
def picturesB (s : State) : Bool :=
  decide (s.phase = .running ∧ ∀ c, pictureB (s.pict c) (s.recv c).fillSlot = true ∧
    ((s.recv c).fill.all fun f =>
      decide ((s.recv c).lock = .locked ∧ (s.recv c).anchor.isSome = true ∧ (s.recv c).place ≤ 481 ∧
        (f.judged = true ↔ (s.recv c).place = 481) ∧
        (f.judged = true → (s.pict c).copy.bind Copy.target = some f.slot))) = true)

theorem pictures_of {s : State} (h : picturesB s = true) : s.PicturesOk := by
  obtain ⟨hr, h⟩ := of_decide_eq_true h
  refine ⟨fun c => ?_, fun c f hf => ?_, fun hn => absurd hr hn⟩
  · have hc := (h c).1
    unfold pictureB at hc
    rw [Bool.and_eq_true] at hc
    obtain ⟨a, b, d, e, g, i, j⟩ := of_decide_eq_true hc.1
    exact ⟨a, b, d, e, g, i, j, fun k hk => by simpa [hk] using hc.2⟩
  · have hc := (h c).2
    rw [hf] at hc
    obtain ⟨a, b, d, e, w⟩ := of_decide_eq_true hc
    refine ⟨a, b, d, e, fun hj => ?_⟩
    obtain ⟨k, hk, ht⟩ := Option.bind_eq_some_iff.mp (w hj)
    exact ⟨k, hk, ht⟩

theorem pictures_and {s : State} {p : Prop} (h : picturesB s = true ∧ p) : s.PicturesOk ∧ p := ⟨pictures_of h.1, h.2⟩

/-- `State.MemoryOk` as a check. -/
def memoryB (s : State) : Bool :=
  decide ((∀ c i, Memory.wf Config.blankPixel ((s.pict c).slot i).pixels) ∧ Memory.wf Config.blankSetting s.settings.memory.cells)

theorem memory_of {s : State} (h : memoryB s = true) : s.MemoryOk := by
  have hm := of_decide_eq_true h
  exact hm

/-- `State.QueuesOk` as a check. -/
def queuesB (s : State) : Bool :=
  Link.all.all fun l =>
    decide ((s.ctl l).inbound.length ≤ Config.inboundLimit ∧ (s.ctl l).outbound.length ≤ Config.outboundLimit ∧
      (s.ctl l).subjects.Nodup) &&
    (s.ctl l).transit.all fun t => !t.removesHead || (t.msg.isSome && decide ((s.ctl l).outbound.head? = t.msg))

theorem queues_of {s : State} (h : queuesB s = true) : s.QueuesOk := by
  intro l
  have hl := List.all_eq_true.mp h l (by cases l <;> decide)
  rw [Bool.and_eq_true] at hl
  obtain ⟨a, b, c⟩ := of_decide_eq_true hl.1
  exact ⟨a, b, c, fun t ht hr => by simpa [ht, hr] using hl.2⟩

/-- `SettingsBlock.Ok` with R111, as a check. -/
def settingsB (s : State) : Bool :=
  let b := s.settings
  decide ((b.working.valid = true ∧ b.working.wf = true) ∧ b.serviceIn = b.staging.isSome ∧
    (b.state = .valid → b.committed = some b.working) ∧
    (b.state = .defaulted → b.committed = none ∧ b.working = Body.builtIn) ∧ (b.commit.isSome = true → b.state = .modified) ∧
    (b.exitPending = true → b.serviceIn = true ∧ b.commit.isSome = true) ∧ s.vehicle.conds.service = b.serviceIn) &&
  b.staging.all Body.wf && b.committed.all fun x => decide (b.memory.validBody = some x)

theorem settings_of {s : State} (h : settingsB s = true) : s.SettingsOk := by
  unfold settingsB at h
  simp only [Bool.and_eq_true] at h
  obtain ⟨⟨h, hs⟩, hc⟩ := h
  obtain ⟨a, b, c, d, e, f, g⟩ := of_decide_eq_true h
  exact ⟨⟨a, b, fun x hx => by simpa [hx] using hs, c, d, e, f, fun x hx => by simpa [hx] using hc⟩, g⟩

/-- `State.ZonesOk` as a check. -/
def zonesB (s : State) : Bool :=
  decide (∀ z, ((s.zoneRec z).holdTimer.isSome = true ↔ (s.zoneRec z).state = .hold) ∧
    ((s.zoneRec z).dwellTimer.isSome = true ↔ (s.zoneRec z).state = .caution ∨ (s.zoneRec z).state = .warning) ∧
    ((s.zoneRec z).state = .idle ∨ (s.zoneRec z).state = .clear → (s.zoneRec z).dwell = 0 ∧ (s.zoneRec z).acked = false) ∧
    (s.zoneRec z).dwell ≤ 999 ∧ (s.zoneRec z).occupancy ≤ 19 ∧
    ((s.body.zone z).enabled = false → (s.zoneRec z).state = .idle))

theorem zones_of {s : State} (h : zonesB s = true) : s.ZonesOk := fun z => by
  obtain ⟨a, b, c, d, e, f⟩ := of_decide_eq_true h z
  exact ⟨⟨a, b, c, d, e⟩, f⟩

/-- `State.AlertOk` of a running state as a check. -/
def alertB (s : State) : Bool :=
  decide ((s.alert.level = chimeLevelOf s.alert.flags s.alert.copies ∧ s.alert.hzWarn = hzWarnOf s.alert.copies ∧
    s.alert.hzCaution = hzCautionOf s.alert.copies ∧ s.alert.level.hasSegment s.alert.segment = true ∧
    s.alert.segmentTimer.isSome = s.alert.segment.isSome) ∧ s.alert.started = true ∧ s.alert.flags = s.body.chimeFlags ∧
    ∀ z : Zone, s.alert.copies[z] = (s.zoneRec z).face)

theorem alert_of {s : State} (h : alertB s = true) : s.AlertOk := fun _ => by
  obtain ⟨⟨a, b, c, d, e⟩, f⟩ := of_decide_eq_true h
  exact ⟨⟨a, b, c, d, e⟩, f⟩

/-! ## Ill-formed commands -/

theorem test_wf_frame_start : Instr.wf (.frameStartRecord 0 (lineStartMarker ++ [0, 0])) = false := by decide +kernel
theorem test_wf_line : Instr.wf (.lineRecord 0 (lineStartMarker ++ be16 480)) = false := by decide +kernel
theorem test_wf_blanking : Instr.wf (.blankingRecord 0 (lineStartMarker ++ be16 479)) = false := by decide +kernel
theorem test_wf_can_payload : Instr.wf (.canRequestFrame .body 0 (List.replicate 65 0)) = false := by decide +kernel
theorem test_wf_spi_half : Instr.wf (.spiExchange (List.replicate 35 0)) = false := by decide +kernel
theorem test_wf_holds : Instr.wf (.frameStartRecord 3 (frameStartWord ++ [15])) ∧ Instr.wf (.lineRecord 3 (lineStartMarker ++ be16 479)) ∧
    Instr.wf (.blankingRecord 3 (lineStartMarker ++ be16 483 ++ [0, 0])) ∧ Instr.wf (.spiExchange (List.replicate 36 0)) ∧
    Instr.wf (.spiExchange (List.replicate 40 0)) := by
  decide +kernel
theorem test_table_gives_no_bits : decodeTableWord 8 0 = none ∧ State.reset.withFetchWord 8 0 = State.reset := ⟨rfl, rfl⟩

/-! ## Worked values of the spec -/

/-- Table 4-4. -/
def camera1 : Calibration :=
  { calibrated := true, depthAlong := false, x0 := 450, y0 := 0, depthSign := 1, acrossSign := 1
    rungs := [⟨0, 470, 400, 520⟩, ⟨50, 400, 400, 400⟩, ⟨100, 340, 400, 320⟩, ⟨150, 290, 400, 260⟩, ⟨200, 250, 400, 215⟩,
      ⟨250, 218, 400, 185⟩, ⟨300, 192, 400, 160⟩, ⟨350, 172, 400, 140⟩, ⟨400, 156, 400, 125⟩] }

/-- Tables 4-5 and 4-6. -/
theorem test_projection : camera1.see ⟨500, 170⟩ = some ⟨274, 521⟩ ∧ camera1.see ⟨450, 400⟩ = some ⟨156, 400⟩ ∧
    camera1.see ⟨380, 60⟩ = some ⟨388, 131⟩ ∧ camera1.see ⟨900, 30⟩ = none ∧ camera1.see ⟨450, 401⟩ = none := by decide +kernel

/-- 4.3.3. -/
theorem test_projection_corner :
    ({ camera1 with depthAlong := true, x0 := 950, depthSign := -1, acrossSign := -1 } : Calibration).see ⟨800, 40⟩ =
      some ⟨290, 296⟩ := by decide +kernel

/-- Table 9-4. -/
theorem test_blend : (blend 10 170 90, blend 10 40 120, blend 10 170 135, blend 8 235 140) = (140, 70, 157, 188) := by decide

/-- The check values of the two CRCs over the digits 1 to 9, from their generators (R14, R169). -/
theorem test_crcs : crc8 (List.map byte [49, 50, 51, 52, 53, 54, 55, 56, 57]) = 0xF4 ∧
    crc16 (List.map byte [49, 50, 51, 52, 53, 54, 55, 56, 57]) = 0x29B1 := by decide +kernel

theorem test_defaults_valid : Body.builtIn.valid = true ∧ Body.builtIn.wf = true := by decide +kernel

/-- R190: the load finds no valid record in a blank memory. -/
theorem test_load : (after .settingsLoadEnd State.reset).settings.state = .defaulted ∧
    (after .settingsLoadEnd State.reset).settings.committed = none := by decide +kernel

/-- R196: 20 ms under 18.0 V make CRANK; R197: a stopped KS-4 keeps no time. -/
theorem test_supply : (after .supplyFallBelow18V ran).supply.dip = some 20 ∧
    (after .dipTimerExpiry (after .supplyFallBelow18V ran)).supply.state = .crank ∧
    (after .supplyStop ran).idle = after .supplyStop ran := by decide +kernel

theorem test_idle_counts : ran.idle.generator.millis = 1 ∧ (ran.idle.ctl .body).ownerTimer = some 4999 := by decide +kernel

/-- R173: a frame on the default CHASSIS request identifier, taken and answered on the reply identifier (Table 10-2). -/
theorem test_can_request :
    let quiet := { ran with links := ran.links.map fun c => { c with outbound := [], transit := none } }
    let s := after (.stripSet .chassis) (after (.canRequestFrame .chassis 0x310 [7, 9, 8, 0, 0, 0, 1, 0, 0, 0, 2]) quiet)
    s.table.lit[Link.chassis.ix] = 1 ∧ s.table.blink[Link.chassis.ix] = 2 ∧
      (s.ctl .chassis).transit.map (fun t => (t.msg.map OutMsg.bytes, t.ident)) = some (some [0x47, 9, 1, 0], 0x311) := by
  decide +kernel

/-- R176, 12.3: a request in an SPI exchange, and its reply as the KS-4's next half. -/
theorem test_spi_request :
    let quiet := { ran with links := ran.links.map fun c => { c with outbound := [], transit := none } }
    let s := after (.spiExchange ([1, 0x20, 5, 0] ++ List.replicate 32 0)) quiet
    let t := after .spiExchangeStart (after (.unknownKind .detector) s)
    s.attention = false ∧ t.attention = true ∧
      (slaveHalf ((t.ctl .detector).transit.bind Transit.msg)).take 6 = [1, 0x7F, 5, 1, 11, 0] := by
  decide +kernel

/-- R113: a track admitted to place 0. -/
theorem test_track :
    let r := req 0x0A [9, 1, 1, 244, 0, 170, 0, 0, 0, 0, 60]
    ((after (.trackUpdate .detector) (asks .detector r ran)).tracks.places[(0 : Place)]).map (fun k => (k.id, k.x, k.y, k.confidence)) =
      some (9, 500, 170, 60) := by decide +kernel

/-- R85: an OBJECT_PUT of a BOX by handle 31 of CHASSIS reaches slot 31, its layer and thickness clamped. -/
theorem test_object_put :
    let r := req 1 [31, 1, 0, 0x3F, 9, 3, 1, 0, 0, 0, 5, 0, 10, 0, 20, 3, 32, 1, 224, 1, 99]
    ((after (.objectPut .chassis) (asks .chassis r ran)).slot 31).map (fun o => (o.layer, o.blink, o.lifetime, o.shape)) =
      some (7, .slow, 5, .box ⟨10, 20⟩ ⟨799, 479⟩ true 8) := by decide +kernel

/-- 12.3: a message of 9 bytes fills a frame of 12; one of 32 an SPI half, after which the KS-4 sends empty markers. -/
theorem test_padding :
    let nine := replyMsg (req 6 []) ⟨.done, List.replicate 5 9⟩
    let full := replyMsg (req 6 []) ⟨.done, List.replicate 28 9⟩
    (nine.bytes.length, nine.canPayload.length, nine.canPayload.drop 9) = (9, 12, [0, 0, 0]) ∧
      (slaveBytes (some full) 38).drop 32 = [9, 0, 0, 0, 0, 0] := by decide +kernel

/-- R139: a later pane of no width inside an earlier one fails at its width (offset 26 of the view), not at its first byte. -/
theorem test_pane_without_width :
    (Body.builtIn.write 5 1 ([2, 1, 0] ++ be16 0 ++ be16 32 ++ be16 240 ++ be16 32 ++ be16 800 ++ be16 448 ++ [1, 0] ++ be16 0 ++
      be16 0 ++ be16 300 ++ be16 100 ++ be16 0 ++ be16 10)).firstFailure = some (5, 26) := by decide +kernel

/-- R198: a last write result of none is coded 255. R202: the tag line after its 47 bytes. -/
theorem test_none_and_tag_line : WriteResult.code .none = 255 ∧
    ∀ f ∈ (after .outputFrameStart State.reset).frame, f.tagLinePair 0 = (0, 0, 128, 128) ∧ f.tagLinePair 22 = (1, u8At f.tag 45, 128, 128) ∧
      f.tagLinePair 24 = (16, 16, 128, 128) := by decide +kernel

/-- R198: a code beyond its list stands for nothing. -/
theorem test_codes : Gear.ofCode 3 = none ∧ Anchor.ofCode 2 = none ∧ Blink.ofCode 3 = none ∧ TrackClass.ofCode 4 = none ∧
    ObjKind.ofCode 4 = none := by decide

/-- R105: a VEHICLE_STATE at a standstill in reverse. -/
theorem test_vehicle :
    let s := after (.vehicleState .chassis) (asks .chassis (req 8 [0, 0, 2, 4]) ran)
    s.vehicle.conds.moving = false ∧ s.vehicle.conds.reverse = true ∧ s.vehicle.conds.doorOpen = true ∧ s.vehicle.speed = 0 := by
  decide +kernel

/-- R23, R200: the first return word of a camera in SEARCH. -/
theorem test_return_word :
    let r := { Receiver.atReset with lock := .search, returnTimer := some 0 }
    let t := after (.returnTimerExpiry 0) (ran.setRecv 0 r)
    (t.recv 0).lastWord.map (List.take 4) = some [0x81, 0, 32, 0] := by decide +kernel

/-! ## States that meet the hypotheses: cameras -/

/-- A receiver of camera 0 in LOCKED, anchored at cycle position 15. -/
def locked (mode : CheckMode) (place slips : Nat) (fill : Option Fill) : Receiver :=
  { Receiver.atReset with
    lock := .locked, place := place, anchor := some 15, slips := slips, fill := fill, mode := mode
    errorWindow := some 500, returnTimer := some 7, silenceTimer := some 90 }

/-- A fill into slot 0. -/
def fillOf (faulted : List Nat) (failed : Nat) : Fill :=
  { slot := 0, cycle := 15, faulted := faulted, failed := failed, judged := false }

def slotAs (st : SlotState) (h : Holders) : PicSlot := { PicSlot.atReset with state := st, holders := h }

/-- Slot 1 LATEST under both outputs, slot 0 as given, slot 2 as given, slot 3 FREE. -/
def picturesOf (zero : SlotState) (two : PicSlot) (copy : Option Copy) : Picture :=
  { Picture.atReset with
    slots := #v[slotAs zero Holders.none, slotAs .latest ⟨true, true, false⟩, two, slotAs .free Holders.none]
    latest := some 1, age := 2, freshness := .fresh, shownAge := 1, copy := copy }

/-- Camera 0 of the running KS-4 in given hands. -/
def cam0 (r : Receiver) (p : Picture) : State := (ran.setRecv 0 r).setPict 0 p

/-- No fill open. -/
def resting (place slips : Nat) : State :=
  cam0 (locked .trial place slips none) (picturesOf .free (slotAs .free Holders.none) none)

/-- A fill open in slot 0, no copy in flight. -/
def filling (mode : CheckMode) (place slips : Nat) (f : Fill) : State :=
  cam0 (locked mode place slips (some f)) (picturesOf .filling (slotAs .free Holders.none) none)

/-- A fill open in slot 0 and a copy in flight. -/
def copying (two : PicSlot) (k : Copy) : State :=
  cam0 (locked .checked 40 0 (some (fillOf [] 1))) (picturesOf .filling two (some k))

def startPacket (cycle : Nat) : List Byte := frameStartWord ++ [byte cycle]

/-- A short record with a row number: two pixel bytes and the check byte. -/
def rowPacket (row : Nat) (check : Byte) : List Byte := lineStartMarker ++ be16 row ++ [100, 101, check]

/-- What it brings. -/
def rowOf (row : Nat) (check : Byte) : RowRecord := { row := row, isLine := decide (row < 480), body := [100, 101, check] }

theorem witness_GoodFrameStartOpensFill : (resting 484 2).PicturesOk ∧ (resting 484 2).phase = .running ∧
    classify (startPacket 0) = .frameStart 0 ∧ ((resting 484 2).recv 0).lock = .locked ∧
    ((resting 484 2).recv 0).anchor = some 15 ∧ ((resting 484 2).recv 0).place = 484 ∧ 0 = (15 + 1) % 16 :=
  pictures_and (by decide +kernel)

/-- Camera 0 with no fill, in a lock state, at a place, with an anchor or none. -/
def seeking (lock : LockState) (place : Nat) (anchor : Option Nat) : State :=
  cam0 { locked .trial place 0 none with lock := lock, anchor := anchor } (picturesOf .free (slotAs .free Holders.none) none)

/-- R9 at the third slip by place, below it by cycle position; R10 likewise; a fill or an assembly that is spoiled. -/
theorem witness_FrameSlipsAbandonTheFill :
    (filling .checked 480 2 (fillOf [] 0)).PicturesOk ∧ (resting 484 1).PicturesOk ∧ (resting 484 2).PicturesOk ∧
    (filling .checked 480 2 (fillOf [] 0)).phase = .running ∧ ((filling .checked 480 2 (fillOf [] 0)).recv 0).place ≠ 484 ∧
    classify (startPacket 14) = .frameStart 14 ∧ 14 ≠ (15 + 1) % 16 ∧
    rowRecordOf (.lineRecord 0 (rowPacket 0 0)) = some (0, rowOf 0 0) ∧ ((resting 484 1).recv 0).slips + 1 < 3 ∧
    3 ≤ ((resting 484 2).recv 0).slips + 1 ∧ (fillOf [] 0).judged = false ∧
    exec (.frameStartRecord 0 (startPacket 14)) (filling .checked 480 2 (fillOf [] 0)) =
      .next (after (.frameStartRecord 0 (startPacket 14)) (filling .checked 480 2 (fillOf [] 0))) :=
  ⟨pictures_of (by decide +kernel), pictures_of (by decide +kernel), pictures_of (by decide +kernel), by decide +kernel,
    by decide +kernel, by decide +kernel, by decide, by decide +kernel, by decide +kernel, by decide +kernel, rfl,
    after_eq (by decide +kernel)⟩

/-- SILENT, SEARCH, CONFIRM below place 484 and at it, LOCKED without an anchor; a frame-start that proves, one that fails by its
place, one by its cycle position. -/
theorem witness_lock_outside_anchor :
    let lock := fun s : State => ((s.recv 0).lock, (s.recv 0).place, (s.recv 0).anchor)
    (seeking .confirm 484 (some 15)).PicturesOk ∧ (seeking .silent 0 none).phase = .running ∧
      lock (seeking .silent 0 none) = (.silent, 0, none) ∧ lock (seeking .search 0 none) = (.search, 0, none) ∧
      lock (seeking .confirm 483 (some 15)) = (.confirm, 483, some 15) ∧
      lock (seeking .confirm 484 (some 15)) = (.confirm, 484, some 15) ∧ lock (seeking .locked 483 none) = (.locked, 483, none) ∧
      classify (startPacket 0) = .frameStart 0 ∧ 0 = (15 + 1) % 16 ∧ classify (startPacket 1) = .frameStart 1 ∧ 1 ≠ (15 + 1) % 16 ∧
      rowRecordOf (.blankingRecord 0 (rowPacket 480 7)) = some (0, rowOf 480 7) :=
  pictures_and (by decide +kernel)

/-- The first row with no fill, and row 472, where a group boundary falls, in CHECKED mode. -/
theorem witness_LinePlaceRecordWritesItsRow :
    ((resting 0 0).PicturesOk ∧ (resting 0 0).MemoryOk) ∧
    ((filling .checked 472 0 (fillOf [58] 3)).PicturesOk ∧ (filling .checked 472 0 (fillOf [58] 3)).MemoryOk) ∧
    ((resting 0 0).recv 0).fill = none ∧
    ((filling .checked 472 0 (fillOf [58] 3)).recv 0).fill = some (fillOf [58] 3) ∧
    ((filling .checked 472 0 (fillOf [58] 3)).pict 0).copy = none ∧ ((resting 0 0).recv 0).anchor.isSome = true ∧
    rowRecordOf (.lineRecord 0 (rowPacket 472 7)) = some (0, rowOf 472 7) ∧
    rowRecordOf (.blankingRecord 0 (rowPacket 480 7)) = some (0, rowOf 480 7) :=
  ⟨⟨pictures_of (by decide +kernel), memory_of (by decide +kernel)⟩, ⟨pictures_of (by decide +kernel), memory_of (by decide +kernel)⟩,
    by decide +kernel, by decide +kernel, by decide +kernel, by decide +kernel, by decide +kernel, by decide +kernel⟩

/-- A copy of group 3 in flight when row 40 brings the verdict on group 4, and when row 41 does not; a copy of group 58 in flight
when the record in place 481 comes. -/
theorem witness_copy_in_flight :
    let s := copying (slotAs .superseded ⟨false, false, true⟩) ⟨3, some 2, some 0⟩
    let at_ := fun n => s.setRecv 0 { s.recv 0 with place := n }
    let t := cam0 (locked .checked 480 0 (some (fillOf [59] 1))) (picturesOf .filling (slotAs .superseded ⟨false, false, true⟩)
      (some ⟨58, some 2, some 0⟩))
    (s.PicturesOk ∧ s.MemoryOk ∧ (s.recv 0).place = 8 * (4 + 1) ∧ (s.pict 0).copy ≠ none) ∧
      ((at_ 41).PicturesOk ∧ (at_ 41).MemoryOk ∧ ((at_ 41).recv 0).place = 41 ∧ ((at_ 41).pict 0).copy ≠ none) ∧
      t.PicturesOk ∧ (t.recv 0).place = 480 ∧ (t.pict 0).copy ≠ none :=
  ⟨⟨pictures_of (by decide +kernel), memory_of (by decide +kernel), by decide +kernel, by decide +kernel⟩,
    ⟨pictures_of (by decide +kernel), memory_of (by decide +kernel), by decide +kernel, by decide +kernel⟩,
    pictures_of (by decide +kernel), by decide +kernel, by decide +kernel⟩

/-- Group 58, failing by its fault in CHECKED mode; group 0, failing by its fault in TRIAL mode. -/
theorem witness_VerdictJudgesTheGroup :
    ((filling .checked 472 0 (fillOf [58] 3)).PicturesOk ∧ (filling .checked 472 0 (fillOf [58] 3)).MemoryOk) ∧
    ((filling .trial 8 0 (fillOf [0] 0)).PicturesOk ∧ (filling .trial 8 0 (fillOf [0] 0)).MemoryOk) ∧
    (fillOf [58] 3).faulted.contains 58 = true ∧ ((filling .trial 8 0 (fillOf [0] 0)).recv 0).mode ≠ .checked ∧
    rowRecordOf (.lineRecord 0 (rowPacket 8 7)) = some (0, rowOf 8 7) ∧ 472 = 8 * (58 + 1) ∧ 8 = 8 * (0 + 1) :=
  ⟨⟨pictures_of (by decide +kernel), memory_of (by decide +kernel)⟩, ⟨pictures_of (by decide +kernel), memory_of (by decide +kernel)⟩,
    by decide +kernel, by decide +kernel, by decide +kernel, by decide, by decide⟩

/-- R29: all 60 groups failed, in TRIAL, where no copy is asked for; a fill that completes, in UNCHECKED; and group 59 failing by its
fault in CHECKED. -/
theorem witness_LastVerdictSettlesTheFill :
    (filling .trial 480 0 (fillOf [59] 60)).PicturesOk ∧ (filling .unchecked 480 0 (fillOf [] 0)).PicturesOk ∧
    (filling .checked 480 0 (fillOf [59] 3)).PicturesOk ∧ (fillOf [59] 3).faulted.contains 59 = true ∧
    ((filling .trial 480 0 (fillOf [59] 60)).recv 0).mode ≠ .checked ∧
    ((filling .unchecked 480 0 (fillOf [] 0)).recv 0).mode ≠ .checked ∧
    rowRecordOf (.blankingRecord 0 (rowPacket 480 7)) = some (0, rowOf 480 7) ∧
    ((filling .unchecked 480 0 (fillOf [] 0)).body.camera 0).required = false ∧ (fillOf [] 0).failed ≠ 60 :=
  ⟨pictures_of (by decide +kernel), pictures_of (by decide +kernel), pictures_of (by decide +kernel), by decide,
    by decide +kernel, by decide +kernel, by decide +kernel, by decide +kernel, by decide⟩

/-- A status cycle with one byte missing: fifteen 0 bytes but for the gain given. -/
def assembling (gain : Nat) (previous : Option (List Byte)) : State :=
  let s := filling .unchecked 480 0 (fillOf [] 0)
  s.setRecv 0
    { s.recv 0 with assembly := [0, 0, 0, byte gain] ++ List.replicate 11 0, nextPos := 15, previous := previous, mismatches := 2 }

/-- A cycle position out of turn, one in turn before the last, and a whole record: with a field outside its range (a gain of 64),
with none before it, accepted at the commanded gain of 32, and accepted at another. -/
theorem witness_status_cycle :
    let cycle := fun g => [0, 0, 0, byte g] ++ List.replicate 11 (0 : Byte) ++ [7]
    let gather := fun g p => ((assembling g p).recv 0).assembly ++ [(rowOf 480 7).body.getLastD 0]
    (assembling 32 none).PicturesOk ∧ (assembling 64 none).PicturesOk ∧
      ((filling .unchecked 480 0 (fillOf [] 0)).recv 0).nextPos ≠ (fillOf [] 0).cycle ∧
      ({ fillOf [] 0 with cycle := 0 } : Fill).cycle = ((filling .unchecked 480 0 (fillOf [] 0)).recv 0).nextPos ∧
      (fillOf [] 0).cycle = 15 ∧ ((assembling 32 none).recv 0).nextPos = 15 ∧ 63 < u8At (gather 64 none) 3 ∧
      ((assembling 32 none).recv 0).previous ≠ some (gather 32 none) ∧
      ((assembling 32 (some (cycle 32))).recv 0).previous = some (gather 32 (some (cycle 32))) ∧
      ((assembling 32 none).reg 0).gain = u8At (gather 32 none) 3 ∧ ((assembling 31 none).reg 0).gain ≠ u8At (gather 31 none) 3 :=
  ⟨pictures_of (by decide +kernel), pictures_of (by decide +kernel), by decide +kernel⟩

/-- A copy from a SUPERSEDED slot that it alone holds, and one of grey whose fill was abandoned. -/
theorem witness_CopyFinishLandsItsRows :
    let s := copying (slotAs .superseded ⟨false, false, true⟩) ⟨3, some 2, some 0⟩
    let t := copying (slotAs .free Holders.none) ⟨3, none, none⟩
    (s.PicturesOk ∧ s.MemoryOk ∧ s.phase = .running ∧ (s.pict 0).copy = some ⟨3, some 2, some 0⟩) ∧
      t.PicturesOk ∧ t.MemoryOk ∧ t.phase = .running ∧ (t.pict 0).copy = some ⟨3, none, none⟩ :=
  ⟨⟨pictures_of (by decide +kernel), memory_of (by decide +kernel), by decide +kernel, by decide +kernel⟩,
    pictures_of (by decide +kernel), memory_of (by decide +kernel), by decide +kernel, by decide +kernel⟩

/-- A judged fill of camera 0 that waits for the copy of its group 59. -/
def waiting (mode : CheckMode) (trial failed : Nat) : State :=
  let s := cam0 { locked mode 481 0 (some { fillOf [59] failed with judged := true }) with trial := trial }
    (picturesOf .filling (slotAs .free Holders.none) (some ⟨59, some 1, some 0⟩))
  s.setPict 0 { s.pict 0 with slots := (s.pict 0).slots.set 1 (slotAs .latest ⟨true, true, true⟩) }

/-- The end of a judged fill: completed, abandoned with all groups FAILED, and the sixteenth frame of a trial. -/
theorem witness_judged_fill_ends :
    (waiting .checked 0 59).PicturesOk ∧ (waiting .checked 0 60).PicturesOk ∧ (waiting .trial 15 1).PicturesOk ∧
      ((waiting .checked 0 59).recv 0).fill.map Fill.judged = some true ∧ ((waiting .trial 15 1).recv 0).trial = 15 ∧
      rowRecordOf (.blankingRecord 0 (rowPacket 481 7)) = some (0, rowOf 481 7) :=
  ⟨pictures_of (by decide +kernel), pictures_of (by decide +kernel), pictures_of (by decide +kernel), by decide +kernel,
    by decide +kernel, by decide +kernel⟩

/-- The receiver's timers run, with failures at and above the limit of R13; the stop timer runs. -/
theorem witness_receiver_timers :
    let s := filling .checked 100 0 (fillOf [] 0)
    let at_ := fun n => s.setRecv 0 { s.recv 0 with failures := n }
    let stop := s.setReg 0 { s.reg 0 with duty := 20, stopTimer := some 3 }
    (s.phase = .running ∧ (s.recv 0).silenceTimer ≠ none ∧ (s.recv 0).errorWindow ≠ none ∧ (s.recv 0).returnTimer ≠ none) ∧
      ((at_ 1500).recv 0).failures ≤ 1500 ∧ 1500 < ((at_ 1501).recv 0).failures ∧ (stop.reg 0).stopTimer ≠ none ∧
      stop.phase = .running := by decide +kernel

/-- The default window of camera 0 with a mean luma and glare in every group: 40 groups are used; the means at both edges of the
band, glare at its limit and above it, and a window without a GOOD group. -/
theorem witness_metering :
    let cfg := Body.builtIn.camera 0
    let used := fun groups : Vector GroupMark 60 => (List.finRange 60).filter fun i =>
      decide (cfg.rTop ≤ 8 * i.val ∧ 8 * i.val + 7 ≤ cfg.rBot ∧ groups[i] = .good)
    let good : Vector GroupMark 60 := Vector.replicate 60 .good
    let figures := fun y g => (Vector.replicate 60 ⟨6400 * y, g⟩ : Vector Figures 60)
    let reads := fun y g => meter cfg good (figures y g)
    cfg.rTop % 8 = 0 ∧ (used good).length = 40 ∧ used (Vector.replicate 60 .concealed) = [] ∧
      (cfg.target, cfg.tolerance) = (110, 12) ∧ reads 97 0 = some ⟨97, false⟩ ∧ reads 98 0 = some ⟨98, false⟩ ∧
      reads 122 0 = some ⟨122, false⟩ ∧ reads 123 0 = some ⟨123, false⟩ ∧ reads 110 400 = some ⟨110, false⟩ ∧
      reads 110 401 = some ⟨110, true⟩ ∧ (cfg.upInterval, cfg.downInterval) = (4, 2) ∧ 5 ≤ cfg.stopDuty := by decide +kernel

theorem witness_FrameStartJudgesAndSnapshots : (resting 0 0).PicturesOk ∧ (resting 0 0).phase = .running ∧
    State.reset.phase = .loading := pictures_and (by decide +kernel)

/-! ## States that meet the hypotheses: the machine as a whole -/

theorem witness_StepRunsFrontCommand :
    (ran.withPending [.outputFrameStart, .resetN]).pending = .outputFrameStart :: [.resetN] ∧
      (ran.pending = [] ∧ ran.phase ≠ .stopped) ∧ (after .supplyStop ran).pending = [] ∧
      (after .supplyStop ran).phase = .stopped := by
  decide +kernel

/-- A camera without a FREE slot, LOCKED where a frame-start is to open a fill (no run reaches it: O8); and one with a FREE slot. -/
theorem witness_EveryCommandAnswersNext :
    let s := cam0 (locked .trial 484 0 none)
      { picturesOf .superseded (slotAs .superseded Holders.none) none with
        slots := Vector.replicate 4 (slotAs .superseded Holders.none) }
    answers (.frameStartRecord 0 (startPacket 0)) s = false ∧ s.phase = .running ∧
      classify (startPacket 0) = .frameStart 0 ∧ ((s.recv 0).lock, (s.recv 0).place, (s.recv 0).anchor) = (.locked, 484, some 15) ∧
      (s.recv 0).fill = none ∧ (∀ j, ((s.pict 0).slot j).state ≠ .free) ∧
      ((resting 484 0).pict 0).lowestFree = some 0 ∧ answers (.frameStartRecord 0 (startPacket 0)) (resting 484 0) = true :=
  by decide +kernel

theorem witness_UnstartedBlocksTakeNothing : State.reset.phase ≠ .running ∧ onlyRunning (.trackExpiry 15) = true ∧
    (after .supplyStop ran).phase ≠ .running ∧ onlyRunning .commitWriteComplete = true := by decide +kernel

/-- One running state meets every invariant, and its step answers a next state. -/
theorem witness_invariants :
    let s := ran.withPending [.outputFrameStart]
    s.QueuesOk ∧ s.MemoryOk ∧ s.PicturesOk ∧ s.ZonesOk ∧ s.AlertOk ∧ s.SettingsOk ∧ ∃ t, step s = .next t :=
  ⟨queues_of (by decide +kernel), memory_of (by decide +kernel), pictures_of (by decide +kernel), zones_of (by decide +kernel),
    alert_of (by decide +kernel), settings_of (by decide +kernel), after .outputFrameStart ran, after_eq (i := .outputFrameStart) (s := ran) (by decide +kernel)⟩

/-! ## The overlay object table -/

/-- An object of a link. -/
def object (l : Link) (shape : Shape) : ObjRecord :=
  { owner := l, anchor := .screen, cameras := 0xF, outputs := 3, layer := 2, colour := 3, blink := .none, showConds := 0
    lifetime := 0, marked := false, shape := shape }

/-- TEXT of CHASSIS in slot 31, a SEGMENT of it in slot 0, an object of BODY in slot 1. -/
def table : State :=
  ((ran.setSlot 31 (some (object .chassis (.text ⟨10, 20⟩ 1 { TextBody.empty with length := 15, cursor := 15 })))).setSlot 0
    (some (object .chassis (.segment ⟨0, 0⟩ ⟨5, 5⟩ 1)))).setSlot 1 (some (object .body (.segment ⟨0, 0⟩ ⟨5, 5⟩ 1)))

/-- The first half of the CHASSIS map names no sector. -/
def halfMapped : Body := Body.builtIn.write 1 22 [255]

theorem witness_FrameEndCountsDown : table.phase = .running ∧ State.reset.phase = .loading := by decide +kernel

/-- A BOX into an EMPTY slot, and a DISTANCE_MARK over the requester's own object. -/
theorem witness_ObjectPutSetsTheRecord :
    let r := req 1 [30, 1, 1, 0x3F, 9, 3, 2, 0, 0, 0, 5, 0, 10, 0, 20, 3, 32, 1, 224, 1, 99]
    let q := req 1 [31, 3, 7, 1, 9, 3, 0, 0, 0, 0, 5, 0, 10, 0, 20, 3, 32, 1]
    ((asks .chassis r table).Ready .chassis .objectPut r ∧ ObjKind.ofCode (u8At r.fields 1) = some .box ∧
      ObjKind.putLength .box ≤ r.fields.length ∧ u8At r.fields 0 ≤ 31 ∧
      (asks .chassis r table).body.resolve .chassis (u8At r.fields 0) = some 30 ∧ (asks .chassis r table).slot 30 = none ∧
      ObjKind.anchorOf .box (u8At r.fields 2) = some .ground ∧ Blink.ofCode (u8At r.fields 6) = some .fast) ∧
    (asks .chassis q table).Ready .chassis .objectPut q ∧ ObjKind.ofCode (u8At q.fields 1) = some .distanceMark ∧
      ObjKind.putLength .distanceMark ≤ q.fields.length ∧
      (asks .chassis q table).body.resolve .chassis (u8At q.fields 0) = some 31 ∧
      ((asks .chassis q table).slot 31).map ObjRecord.owner = some .chassis ∧
      ObjKind.anchorOf .distanceMark (u8At q.fields 2) = some .ground ∧ Blink.ofCode (u8At q.fields 6) = some .none :=
  ⟨ready_and (by decide +kernel), ready_and (by decide +kernel)⟩

theorem witness_ObjectMoveAndStyleReplaceTheirFields :
    let r := req 2 [0, 1, 1, 1, 1, 1, 1, 1, 1]
    let q := req 3 [31, 15, 2, 7, 1, 255, 3]
    ((asks .chassis r table).Ready .chassis .objectMove r ∧ u8At r.fields 0 ≤ 31 ∧
      (asks .chassis r table).body.resolve .chassis (u8At r.fields 0) = some 0 ∧
      ((asks .chassis r table).slot 0).map ObjRecord.owner = some .chassis) ∧
    (asks .chassis q table).Ready .chassis .objectStyle q ∧ u8At q.fields 0 ≤ 31 ∧
      (asks .chassis q table).body.resolve .chassis (u8At q.fields 0) = some 31 ∧
      ((asks .chassis q table).slot 31).map ObjRecord.owner = some .chassis ∧ Blink.ofCode (u8At q.fields 2) = some .fast :=
  ⟨ready_and (by decide +kernel), ready_and (by decide +kernel)⟩

/-- A cursor beyond the text; two characters at cursor 15, of which one finds no place; and none. -/
theorem witness_ObjectTextWritesAtTheCursor :
    let r := req 4 [31, 0, 200]
    let q := req 4 [31, 1, 2, 95, 96]
    let z := req 4 [31, 1, 0]
    ((asks .chassis r table).Ready .chassis .objectTextSetCursor r ∧ u8At r.fields 1 = 0 ∧
      (asks .chassis r table).body.resolve .chassis (u8At r.fields 0) = some 31 ∧
      ((asks .chassis r table).slot 31).map (fun o => (o.owner, o.shape.kind)) = some (.chassis, .text)) ∧
    ((asks .chassis q table).Ready .chassis .objectTextAppend q ∧ 3 + u8At q.fields 2 ≤ q.fields.length ∧
      u8At q.fields 2 ≤ 16 ∧ 0 < u8At q.fields 2) ∧
    (asks .chassis z table).Ready .chassis .objectTextAppend z ∧ 3 + u8At z.fields 2 ≤ z.fields.length ∧ u8At z.fields 2 = 0 :=
  ⟨ready_and (by decide +kernel), ready_and (by decide +kernel), ready_and (by decide +kernel)⟩

theorem witness_ObjectRemovalsEmptySlots :
    let r := req 5 [31]
    let q := req 6 []
    ((asks .chassis r table).Ready .chassis .objectRemove r ∧
      (asks .chassis r table).body.resolve .chassis (u8At r.fields 0) = some 31 ∧
      ((asks .chassis r table).slot 31).map ObjRecord.owner = some .chassis) ∧
    (asks .chassis q table).Ready .chassis .objectRemoveAll q ∧ ((asks .chassis q table).slot 0).isSome = true :=
  ⟨ready_and (by decide +kernel), ready_and (by decide +kernel)⟩

theorem witness_StripSetReplacesTheSets :
    let r := req 7 [0, 0, 0, 1, 128, 0, 0, 0]
    (asks .detector r table).Ready .detector .stripSet r ∧ table.table.lit[Link.detector.ix] = 0 := ready_and (by decide +kernel)

/-- The five checks of R84, each at a request that fails it first: handle 32; a half that names no sector; an EMPTY slot; another
link's object; text asked of a SEGMENT; a blink of 3; an APPEND of 17. -/
theorem witness_HandleChecksRefuseInOrder :
    let long := req 4 ([31, 1, 17] ++ List.replicate 17 1)
    let blink := req 3 [31, 15, 3, 7, 1, 255, 3]
    let seg := req 4 [0, 0, 2]
    let put := req 1 [1, 1, 1, 0x3F, 9, 3, 2, 0, 0, 0, 5, 0, 10, 0, 20, 3, 32, 1, 224, 1, 99]
    let empty := req 5 [2]
    let high := req 5 [32]
    ((asks .chassis high table).Ready .chassis .objectRemove high ∧ ¬ u8At high.fields 0 ≤ 31) ∧
    ((asks .chassis empty { table with settings := { table.settings with working := halfMapped } }).Ready .chassis
      .objectRemove empty ∧ halfMapped.resolve .chassis (u8At empty.fields 0) = none) ∧
    ((asks .chassis empty table).Ready .chassis .objectRemove empty ∧ (asks .chassis empty table).slot 2 = none) ∧
    ((asks .chassis put table).Ready .chassis .objectPut put ∧ RequestRow.formKnown .objectPut put.fields = true ∧
      ((asks .chassis put table).slot 1).map ObjRecord.owner = some .body) ∧
    ((asks .chassis seg table).Ready .chassis .objectTextSetCursor seg ∧
      RequestRow.formKnown .objectTextSetCursor seg.fields = true ∧
      ((asks .chassis seg table).slot 0).map (fun o => o.shape.kind) = some .segment) ∧
    ((asks .chassis blink table).Ready .chassis .objectStyle blink ∧ RequestRow.valuesKnown .objectStyle blink.fields = false) ∧
    (asks .chassis long table).Ready .chassis .objectTextAppend long ∧
      RequestRow.formKnown .objectTextAppend long.fields = true ∧ RequestRow.valuesKnown .objectTextAppend long.fields = false :=
  ⟨ready_and (by decide +kernel), ready_and (by decide +kernel), ready_and (by decide +kernel), ready_and (by decide +kernel),
    ready_and (by decide +kernel), ready_and (by decide +kernel), ready_and (by decide +kernel)⟩

theorem witness_OwnerSilencePurgesTheLink : table.phase = .running ∧ (table.ctl .chassis).ownerTimer ≠ none ∧
    table.slot 31 ≠ none := by decide +kernel

/-! ## Vehicle state and tracks -/

/-- NEARSIDE_INDICATOR and its off-delay timer as given. -/
def vehicle (on : Bool) (delay : Timer) : State :=
  { ran with vehicle := { ran.vehicle with conds := { ran.vehicle.conds with nearsideIndicator := on }, offDelay := delay } }

/-- The five cases of the nearside flag, with both off-delays; the two refusals. -/
theorem witness_VehicleStateSetsTheConditions :
    let on := req 8 [4, 176, 2, 1]
    let off := req 8 [255, 255, 0, 4]
    let odd := req 8 [0, 0, 3, 0]
    let noDelay := { vehicle true none with settings := { ran.settings with working := Body.builtIn.write 8 1 [0] } }
    ((asks .chassis on (vehicle false none)).Ready .chassis .vehicleState on ∧ Gear.ofCode (u8At on.fields 2) = some .reverse ∧
      (byteAt on.fields 3).getLsbD 0 = true) ∧
    ((asks .chassis off (vehicle true none)).Ready .chassis .vehicleState off ∧ Gear.ofCode (u8At off.fields 2) = some .forward ∧
      (byteAt off.fields 3).getLsbD 0 = false ∧ (vehicle true none).vehicle.conds.nearsideIndicator = true ∧
      (vehicle true none).body.offDelay ≠ 0) ∧
    ((asks .chassis off noDelay).Ready .chassis .vehicleState off ∧ noDelay.body.offDelay = 0) ∧
    ((asks .chassis off (vehicle true (some 5))).Ready .chassis .vehicleState off ∧
      (vehicle true (some 5)).vehicle.offDelay ≠ none) ∧
    ((asks .chassis off (vehicle false none)).Ready .chassis .vehicleState off ∧
      (vehicle false none).vehicle.conds.nearsideIndicator = false) ∧
    ((asks .body on ran).Ready .body .vehicleState on ∧ Link.body ≠ .chassis) ∧
    (asks .chassis odd ran).Ready .chassis .vehicleState odd ∧ Gear.ofCode (u8At odd.fields 2) = none :=
  ⟨ready_and (by decide +kernel), ready_and (by decide +kernel), ready_and (by decide +kernel), ready_and (by decide +kernel),
    ready_and (by decide +kernel), ready_and (by decide +kernel), ready_and (by decide +kernel)⟩

theorem witness_BodyStateSetsLiftAndContacts :
    let r := req 9 [2, 7, 1]
    let a := req 9 [3, 7, 1]
    let b := req 9 [2, 7, 2]
    ((asks .body r ran).Ready .body .bodyState r ∧ u8At r.fields 0 ≤ 2 ∧ u8At r.fields 2 ≤ 1) ∧
    ((asks .chassis r ran).Ready .chassis .bodyState r ∧ Link.chassis ≠ .body) ∧
    ((asks .body a ran).Ready .body .bodyState a ∧ 2 < u8At a.fields 0) ∧
    (asks .body b ran).Ready .body .bodyState b ∧ 1 < u8At b.fields 2 :=
  ⟨ready_and (by decide +kernel), ready_and (by decide +kernel), ready_and (by decide +kernel), ready_and (by decide +kernel)⟩

/-- The three timers run, with the nearside indicator on, so that each expiry changes the conditions. -/
theorem witness_VehicleTimersFallBack :
    let s := { vehicle true (some 0) with
      vehicle := { (vehicle true (some 0)).vehicle with chassisTimer := some 0, bodyTimer := some 0 } }
    s.phase = .running ∧ s.vehicle.offDelay ≠ none ∧ s.vehicle.chassisTimer ≠ none ∧ s.vehicle.bodyTimer ≠ none ∧
      (after .indicatorOffDelayExpiry s).vehicle.conds ≠ s.vehicle.conds := by
  decide +kernel

/-- Track p of DETECTOR, id p + 1, its confidence falling with its place. -/
def track (p : Place) : Track :=
  { source := .detector, id := p.val + 1, cls := .pedestrian, x := 10, y := 20, confidence := 60 - p.val, age := 0 }

/-- A full table: place 15 has the lowest confidence, 45. -/
def full : State := { ran with tracks := { ran.tracks with places := Vector.ofFn fun p => some (track p) } }

/-- Only place 0 is taken. -/
def single : State := { ran with tracks := { ran.tracks with places := ran.tracks.places.set 0 (some (track 0)) } }

/-- A TRACK_UPDATE of a pedestrian. -/
def update (id confidence : Nat) : Request := req 0x0A [id, 0, 0, 10, 0, 20, 0, 0, 0, 0, confidence]

/-- No track of the table is DETECTOR's with that id. -/
def newTo (s : State) (id : Nat) : Bool :=
  s.tracks.places.toList.all fun k => k.all fun e => !(e.source == .detector && e.id == id)

theorem full_place (p : Place) : full.tracks.places[p] = some (track p) := by
  simp [full]

theorem full_ok : full.tracks.Ok := by
  constructor
  · intro p q a b ha hb _ hid
    rw [full_place] at ha hb
    cases ha; cases hb
    simpa [track, Fin.ext_iff] using hid
  · intro p a ha
    rw [full_place] at ha
    cases ha
    revert p
    have h : ∀ p : Place, (1 ≤ (track p).id ∧ (track p).id ≤ 255) ∧ (-300 ≤ (track p).x ∧ (track p).x ≤ 2000) ∧
        (-100 ≤ (track p).y ∧ (track p).y ≤ 1000) ∧ (track p).confidence ≤ 100 ∧ (track p).age ≤ Config.trackLife := by
      decide +kernel
    exact fun p => ⟨(h p).1, (h p).2.1, (h p).2.2.1, (h p).2.2.2.1, (h p).2.2.2.2⟩

/-- A track held already; one below the floor and one at it, of which place 1 is the lowest EMPTY one; one that outranks place 15,
one that does not; id 0, and class 4. -/
theorem witness_TrackUpdateKeepsAdmitsOrEvicts :
    ((asks .detector (update 16 0) full).Ready .detector .trackUpdate (update 16 0) ∧
      TrackClass.ofCode (u8At (update 16 0).fields 1) = some .pedestrian ∧ u8At (update 16 0).fields 0 ≠ 0) ∧
    full.tracks.Ok ∧ full.tracks.places[(15 : Place)] = some (track 15) ∧
    ((asks .detector (update 99 19) single).Ready .detector .trackUpdate (update 99 19) ∧ newTo single 99 = true ∧
      19 < single.body.admissionFloor) ∧
    ((asks .detector (update 99 20) single).Ready .detector .trackUpdate (update 99 20) ∧ single.body.admissionFloor ≤ 20 ∧
      single.tracks.places[(1 : Place)] = none ∧ single.tracks.places[(0 : Place)] ≠ none) ∧
    ((asks .detector (update 99 46) full).Ready .detector .trackUpdate (update 99 46) ∧ newTo full 99 = true ∧
      (track 15).confidence < 46) ∧
    ((asks .detector (update 99 45) full).Ready .detector .trackUpdate (update 99 45) ∧ 45 ≤ (track 15).confidence) ∧
    ((asks .detector (update 0 60) full).Ready .detector .trackUpdate (update 0 60) ∧ u8At (update 0 60).fields 0 = 0) ∧
    ((asks .detector (req 0x0A [1, 4, 0, 0, 0, 0, 0, 0, 0, 0, 0]) full).Ready .detector .trackUpdate
        (req 0x0A [1, 4, 0, 0, 0, 0, 0, 0, 0, 0, 0]) ∧ TrackClass.ofCode 4 = none) ∧
    ∀ q : Place, q ≠ 15 → ∃ f, full.tracks.places[q] = some f ∧ (track 15).confidence < f.confidence :=
  ⟨ready_and (by decide +kernel), full_ok, full_place 15, ready_and (by decide +kernel), ready_and (by decide +kernel),
    ready_and (by decide +kernel), ready_and (by decide +kernel), ready_and (by decide +kernel), ready_and (by decide +kernel), fun q hq => ⟨_, full_place q, by revert q; decide +kernel⟩⟩

theorem witness_TrackExpiryAndDropEmptyThePlace :
    let r := req 0x0B [16]
    ((asks .detector r full).Ready .detector .trackDrop r ∧ (track 15).source = .detector ∧ (track 15).id = u8At r.fields 0) ∧
    full.tracks.Ok ∧ full.tracks.places[(15 : Place)] = some (track 15) ∧ full.phase = .running ∧
    (asks .detector r single).Ready .detector .trackDrop r ∧ newTo single 16 = true :=
  ⟨ready_and (by decide +kernel), full_ok, full_place 15, by decide +kernel, ready_and (by decide +kernel)⟩

/-! ## Zones and the alert output unit -/

/-- A zone of the default record, enabled, its hold time 10; its dwell limit as given. -/
def zoneCfg (limit : Nat) : ZoneSettings := { Body.builtIn.zone 0 with enabled := true, dwellLimit := limit }

/-- A zone's record in a state. -/
def zoneIn (st : ZoneState) (held : Level) (occupancy dwell : Nat) : ZoneRec :=
  { ZoneRec.atReset with
    state := st, held := held, occupancy := occupancy, dwell := dwell
    dwellTimer := if st = .caution ∨ st = .warning then some 100 else none
    holdTimer := if st = .hold then some 900 else none }

/-- One record for each clause; the dwell limit just missed and just met. -/
theorem witness_ZoneEvaluationFollowsTheTable :
    ({ zoneCfg 30 with arm := 2 } : ZoneSettings).arm ≠ 0 ∧ Conditions.atReset.bits &&& (2 : BitVec 9) = 0 ∧ (zoneCfg 30).arm = 0 ∧
    (zoneIn .idle .caution 0 0).occupancy = 0 ∧ (zoneIn .clear .caution 0 0).state = .clear ∧
    (zoneIn .warning .caution 0 9).state = .warning ∧ (zoneCfg 30).holdTime = 10 ∧
    ({ zoneCfg 30 with holdTime := 0 } : ZoneSettings).holdTime = 0 ∧ (zoneIn .hold .warning 0 9).holdTimer ≠ none ∧
    ({ zoneIn .hold .warning 0 9 with holdTimer := none } : ZoneRec).holdTimer = none ∧
    ¬ (zoneCfg 30).dwellLimit ≤ (zoneIn .caution .caution 1 29).dwell ∧
    (zoneCfg 30).dwellLimit ≤ (zoneIn .hold .caution 19 30).dwell ∧ (zoneCfg 30).warnConds = 0 := by decide +kernel

/-- Zone 7 enabled with every contact mapped, CHASSIS holding the acknowledge right. -/
def rear : Body := ((Body.builtIn.write 4 175 [1]).write 4 187 [7]).write 4 194 [1]

theorem witness_OccupancyCountsTracksAndContacts :
    let s := asks .body (req 9 [1, 7, 0]) (ranWith rear)
    exec (.bodyState .body) s = .next (after (.bodyState .body) s) ∧ (after (.bodyState .body) s).tracks ≠ s.tracks ∧
      (s.body.zone 7).enabled = true :=
  ⟨after_eq (by decide +kernel), by decide +kernel, by decide +kernel⟩

/-- Zone 7 in a state under the settings above. -/
def inZone7 (r : ZoneRec) : State := (ranWith rear).setZoneRec 7 r

/-- A hold that ends; a dwell that rises to its limit of 30, and one at 999. -/
theorem witness_ZoneTimersExpire :
    let s := inZone7 (zoneIn .hold .warning 0 9)
    let t := inZone7 (zoneIn .caution .caution 1 29)
    let u := inZone7 (zoneIn .warning .caution 1 999)
    (s.ZonesOk ∧ t.ZonesOk ∧ u.ZonesOk) ∧ (s.phase = .running ∧ (s.zoneRec 7).holdTimer ≠ none) ∧
      ((t.zoneRec 7).dwellTimer ≠ none ∧ (s.body.zone 7).armed s.vehicle.conds = true ∧
        (t.zoneRec 7).dwell + 1 = (t.body.zone 7).dwellLimit) ∧ (u.zoneRec 7).dwellTimer ≠ none :=
  ⟨⟨zones_of (by decide +kernel), zones_of (by decide +kernel), zones_of (by decide +kernel)⟩, by decide +kernel,
    by decide +kernel, by decide +kernel⟩

/-- Zone 7 as above with preferred view 1, and cause 11 of source ZONE_WARNING for that zone and view. -/
def warned : Body := (rear.write 4 196 [1]).write 6 143 [1, 5, 128, 1, 5, 1, 0]

/-- The dwell that rises to its limit is an onset, which raises cause 11 and no other; in HOLD with held WARNING it would be none. -/
theorem witness_onset :
    let s := (ranWith warned).setZoneRec 7 (zoneIn .caution .caution 1 29)
    s.ZonesOk ∧ (s.zoneRec 7).dwellTimer ≠ none ∧ (s.zoneRec 7).Onset ((after (.dwellPeriodEnd 7) s).zoneRec 7) ∧
      (s.body.zone 7).preferredView = some 1 ∧ (s.body.cause 11).RaisedBy 7 1 ∧ ¬ (s.body.cause 10).RaisedBy 7 1 ∧
      ¬ (zoneIn .hold .warning 1 29).Onset (zoneIn .warning .warning 1 29) :=
  ⟨zones_of (by decide +kernel), by decide +kernel, by unfold ZoneRec.Onset; decide +kernel, by decide +kernel,
    by unfold CauseSettings.RaisedBy; decide +kernel, by unfold CauseSettings.RaisedBy; decide +kernel,
    by unfold ZoneRec.Onset; decide +kernel⟩

theorem witness_ZoneAckIsJudgedInOrder :
    let r := req 0x0C [7]
    let q := req 0x0C [8]
    (((asks .chassis (req 0x0C []) ran).ctl .chassis).inbound.head? = some (req 0x0C []) ∧ (ran.ctl .chassis).canReply = true ∧
      (req 0x0C []).tooShort = true ∧ (req 0x0C []).row = .zoneAck) ∧
    ((asks .chassis q ran).Ready .chassis .zoneAck q ∧ 7 < u8At q.fields 0) ∧
    ((asks .body r (ranWith rear)).Ready .body .zoneAck r ∧ (rear.zone 7).ackRights.getLsbD Link.body.ix.val = false) ∧
    ((asks .chassis r (inZone7 (zoneIn .caution .caution 1 1))).Ready .chassis .zoneAck r ∧
      (rear.zone 7).ackRights.getLsbD Link.chassis.ix.val = true) ∧
    (asks .chassis r (inZone7 (zoneIn .hold .warning 0 1))).Ready .chassis .zoneAck r :=
  ⟨by decide +kernel, ready_and (by decide +kernel), ready_and (by decide +kernel), ready_and (by decide +kernel), ready_of (by decide +kernel)⟩

theorem witness_SegmentExpiryEntersTheNext :
    let s := { ran with alert := { ran.alert with level := .warning, segment := some .w2, segmentTimer := some 0 } }
    s.phase = .running ∧ s.alert.segmentTimer ≠ none ∧ s.alert.segment = some .w2 := by decide +kernel

/-- The CHIME line at the default duty of 25 %: W1 falls 100 µs and rises 400 µs after its beginning; C1 falls after 156.25 µs, in its
second millisecond too, which begins 375 µs into a period; C2 and OFF rest low. -/
theorem test_chime_line :
    let a := fun g n => { ran.alert with segment := some g, segmentTimer := some n }
    [0, 99999, 100000, 399999, 400000].map (a .w1 200).line = [true, true, false, false, true] ∧
      [0, 156249, 156250, 624999, 625000].map (a .c1 150).line = [true, true, false, false, true] ∧
      [0, 249999, 250000].map (a .c1 149).line = [false, false, true] ∧ (a .c2 1350).line 0 = false ∧ ran.alert.line 0 = false := by
  decide +kernel

/-- A running state in order in which zone 7 warns: the contacts of BODY under a warn condition that is true after a reset. -/
theorem witness_LinesAndChimeFollowTheZones :
    let s := after (.bodyState .body) (asks .body (req 9 [1, 7, 0]) (ranWith (rear.write 4 188 [0, 64])))
    s.phase = .running ∧ s.AlertOk ∧ (s.zoneRec 7).state = .warning ∧ s.alert.level = .warning :=
  ⟨by decide +kernel, alert_of (by decide +kernel), by decide +kernel, by decide +kernel⟩

/-! ## The view arbiter -/

/-- Cause 11: enabled, LINK_REQUEST, view 1, priority 5, LATCHED. -/
def asked (urgent : Nat) : Body := Body.builtIn.write 6 143 [1, 6, 0, 1, 5, 1, byte urgent]

/-- Cause 11 at a stage, the show timer as given. -/
def atStage (urgent : Nat) (st : Stage) (timer show_ : Timer) : State :=
  let s := ranWith (asked urgent)
  { s with
    arbiter := { s.arbiter with showTimer := show_, causes := s.arbiter.causes.set 11 { stage := st, timer := timer, masks := 0 } } }

/-- The timers run; the cases of R149 come about: a change, a wait, a change by urgency, rest, and the way back. -/
theorem witness_ViewTimersLeadToAChoice :
    let wait := atStage 0 .pending (some 5) (some 700)
    let urgent := atStage 1 .pending (some 5) (some 700)
    let free := atStage 0 .pending (some 5) none
    let rest := atStage 0 .quiet none none
    (wait.phase = .running ∧ wait.arbiter.showTimer ≠ none ∧ (wait.causeRec 11).timer ≠ none) ∧
    ((wait.competes 11 = true ∧ ∀ j : Cause, wait.competes j = true → 11 ≤ j) ∧
      (wait.body.cause 11).view ≠ wait.arbiter.shownView ∧ (wait.body.cause 11).urgent = false) ∧
    (urgent.competes 11 = true ∧ (urgent.body.cause 11).urgent = true) ∧
    (free.competes 11 = true ∧ free.arbiter.showTimer = none) ∧
    ((∀ i, rest.competes i = false) ∧ rest.arbiter.shownView = rest.body.defaultView) ∧
    ({ rest.arbiter with shownView := 1 } : Arbiter).shownView ≠ rest.body.defaultView := by decide +kernel

theorem witness_ViewRequestRaisesItsCause :
    let r := req 0x0D [11]
    let q := req 0x0D [12]
    (((asks .body (req 0x0D []) ran).ctl .body).inbound.head? = some (req 0x0D []) ∧ (ran.ctl .body).canReply = true ∧
      (req 0x0D []).tooShort = true ∧ (req 0x0D []).row = .viewRequest) ∧
    ((asks .body q ran).Ready .body .viewRequest q ∧ 11 < u8At q.fields 0) ∧
    ((asks .body r ran).Ready .body .viewRequest r ∧ (ran.body.cause 11).enabled = false) ∧
    ((asks .body r (ranWith (asked 0))).Ready .body .viewRequest r ∧ ((asked 0).cause 11).enabled = true ∧
      ((asked 0).cause 11).source = .linkRequest) ∧
    (asks .body r (atStage 0 .inService (some 5) none)).Ready .body .viewRequest r ∧
      ((atStage 0 .inService (some 5) none).causeRec 11).stage = .inService :=
  ⟨by decide +kernel, ready_and (by decide +kernel), ready_and (by decide +kernel), ready_and (by decide +kernel), ready_and (by decide +kernel)⟩

theorem witness_ViewMaskSetsAndClears :
    let set_ := req 0x0E [8, 0, 0]
    let odd := req 0x0E [8, 0, 2]
    let clear := req 0x0E [15, 255, 1]
    let s := atStage 0 .inService (some 5) none
    ((asks .body set_ s).Ready .body .viewMaskSet set_ ∧ u8At set_.fields 2 = 0 ∧ (w16At set_.fields 0).getLsbD 11 = true ∧
      (s.causeRec 11).stage = .inService) ∧
    ((asks .body odd s).Ready .body .viewMaskSet odd ∧ u8At odd.fields 2 ≠ 0) ∧
    (asks .body clear s).Ready .body .viewMaskClear clear :=
  ⟨ready_and (by decide +kernel), ready_and (by decide +kernel), ready_of (by decide +kernel)⟩

/-! ## The client links -/

/-- A link's controller replaced in the running KS-4. -/
def withCtl (l : Link) (f : LinkCtl → LinkCtl) : State := ran.setCtl l (f (ran.ctl l))

/-- R173, R175, R178: a frame for another, a short one, one that finds room for the sixteenth request, and one that does not. -/
theorem witness_CanRequestJoinsTheQueue :
    let n := fun k => withCtl .body fun c => { c with inbound := List.replicate k (req 6 []) }
    let off := withCtl .body fun c => { c with busOff := true }
    ran.phase = .running ∧ (0x320 : BitVec 11).toNat = ran.body.canId Link.body.ix.val 0 ∧
      (0x310 : BitVec 11).toNat ≠ ran.body.canId Link.body.ix.val 0 ∧ (off.ctl .body).busOff = true ∧
      ([6, 1] : List Byte).length < 3 ∧ ((n 15).ctl .body).inbound.length < 16 ∧ 16 ≤ ((n 16).ctl .body).inbound.length := by
  decide +kernel

/-- A frame on the bus, none on it, a port in bus-off; messages of 8, 9 and 64 bytes. -/
theorem witness_CanPortSendsTheHead :
    let sending := withCtl .chassis fun c =>
      { c with outbound := [replyMsg (req 6 []) .done], transit := some ⟨some (replyMsg (req 6 []) .done), 0x311, true, false⟩ }
    let off := withCtl .chassis fun c => { c with outbound := [], transit := none, busOff := true }
    (sending.phase = .running ∧ (sending.ctl .chassis).transit ≠ none ∧ (sending.ctl .chassis).busOff = false) ∧
      (off.phase = .running ∧ (off.ctl .chassis).busOff = true ∧ (off.ctl .chassis).transit = none) ∧
      [4, 5, 60].map (fun n => (noticeMsg .zone 0 (List.replicate n 0)).bytes.length) = [8, 9, 64] := by decide +kernel

/-- No exchange; one in progress; a whole half and a short one; the marker bytes; room for the sixteenth request, and none. -/
theorem witness_SpiExchangesMoveMessages :
    let idle := withCtl .detector fun c => { c with transit := none }
    let busy := fun n => withCtl .detector fun c =>
      { c with inbound := List.replicate n (req 6 []), transit := some ⟨none, 0, false, false⟩ }
    State.reset.phase = .loading ∧ (State.reset.ctl .detector).transit = none ∧ idle.phase = .running ∧
      (idle.ctl .detector).transit = none ∧ ((busy 15).ctl .detector).transit = some ⟨none, 0, false, false⟩ ∧
      ((busy 15).ctl .detector).inbound.length < 16 ∧ 16 ≤ ((busy 16).ctl .detector).inbound.length ∧
      36 ≤ (List.replicate 36 (1 : Byte)).length ∧ (List.replicate 35 (1 : Byte)).length < 36 ∧
      byteAt (List.replicate 36 0) 0 = 0 ∧ byteAt (List.replicate 36 1) 0 = 1 ∧ 1 < u8At (List.replicate 36 2) 0 ∧
      (noticeMsg .zone 0 (List.replicate 28 0)).bytes.length = 32 := by
  decide +kernel

/-- A notice that replaces the head; one that joins as the twelfth; a full queue; a reply that makes room. -/
theorem witness_OutboundQueueOrder :
    let note := fun n => noticeMsg .zone n []
    let c := fun n => { LinkCtl.atReset with outbound := (List.range n).map note, transit := some ⟨some (note 0), 0, true, false⟩ }
    (note 0).notice.isSome = true ∧ ((c 11).outbound[0]?).any (fun q => q.notice == (note 0).notice) = true ∧
      (∀ i : Fin 12, ((c 12).outbound[i.val]?).any (fun q => q.notice == (note 12).notice) = false) ∧
      (c 11).outbound.length < 12 ∧ 12 ≤ (c 12).outbound.length ∧ (replyMsg (req 6 []) .done).notice = none ∧
      ((c 12).outbound[0]?).any (fun q => q.notice.isSome) = true := by decide +kernel

/-- Steps that change what the supply monitor, the arbiter, a zone and a camera notify, and an object of CHASSIS in slot 31, its
last lifetime frame drawn, whose least handle is 31. -/
theorem witness_notices :
    let low := { ran with supply := { state := .normal, dip := some 0, recovery := none } }
    let asks11 := asks .body (req 0x0D [11]) (ranWith (asked 1))
    let touched := asks .body (req 9 [1, 7, 0]) (ranWith rear)
    let lost := filling .checked 100 0 (fillOf [] 0)
    let last := ran.setSlot 31 (some { object .chassis (.segment ⟨0, 0⟩ ⟨5, 5⟩ 1) with marked := true, lifetime := 1 })
    (answers .dipTimerExpiry low && answers (.viewRequest .body) asks11 && answers (.bodyState .body) touched &&
        answers (.silenceTimerExpiry 0) lost) = true ∧
      (after .dipTimerExpiry low).supply.state ≠ low.supply.state ∧
      (after (.viewRequest .body) asks11).arbiter.shownView ≠ asks11.arbiter.shownView ∧
      ((after (.bodyState .body) touched).zoneRec 7).face ≠ (touched.zoneRec 7).face ∧
      (after (.silenceTimerExpiry 0) lost).cameraFace 0 ≠ lost.cameraFace 0 ∧
      (Link.all.all fun l => (List.range 6).all fun k => ran.body.wantsNotice l.ix.val k) = true ∧
      last.phase = .running ∧ (last.slot 31).map (fun o => (o.owner, o.marked, o.lifetime)) = some (.chassis, true, 1) ∧
      last.body.resolve .chassis 31 = some 31 ∧ ∀ k : Fin 31, last.body.resolve .chassis k.val ≠ some 31 := by decide +kernel

/-- The query parts at their last arguments and beyond; a length field of 30, one that names more than is carried, one below the
least; an unknown kind. -/
theorem witness_LinkControllersAnswerForThemselves :
    let good := req 0x0F [2, 1]
    let bad := req 0x0F [2, 2]
    let long : Request := { kind := 6, tag := 7, len := 30, carried := List.replicate 61 0 }
    let cut : Request := { kind := 6, tag := 7, len := 2, carried := [0] }
    let brief := req 7 [0, 0, 0, 0, 0, 0, 0]
    let unknown := req 0x16 []
    let head := fun r => decide (((asks .body r ran).ctl .body).inbound.head? = some r)
    ((asks .body good ran).Ready .body .statusQuery good ∧ ((asks .body good ran).queryPart good.fields).isSome = true) ∧
    ((asks .body bad ran).Ready .body .statusQuery bad ∧ (asks .body bad ran).queryPart bad.fields = none) ∧
    (29 < long.len ∧ cut.carried.length < cut.len ∧ brief.len < brief.row.leastLength ∧ long.row = .objectRemoveAll) ∧
    (asks .body long ran).phase = .running ∧ ((asks .body long ran).ctl .body).canReply = true ∧
      (head long && head cut && head brief && head unknown) = true ∧ unknown.row = .unknownKind :=
  ⟨ready_and (by decide +kernel), ready_and (by decide +kernel), by decide +kernel, by decide +kernel⟩

/-- Each part asked for at the last argument it takes, each beyond it, and each that lacks its argument. -/
theorem witness_query_parts :
    let ready := fun f => readyB (asks .body (req 0x0F f) ran) .body .statusQuery (req 0x0F f)
    [[0], [1, 3], [2, 1], [3], [4], [1, 4], [1], [2, 2], [2]].all ready = true ∧
      ∀ f, ready f = true → (asks .body (req 0x0F f) ran).Ready .body .statusQuery (req 0x0F f) :=
  ⟨by decide +kernel, fun _ h => ready_of h⟩

/-! ## Settings -/

/-- The truck stands in neutral. -/
def standing : State :=
  { ran with vehicle := { ran.vehicle with
      conds := { ran.vehicle.conds with moving := false, chassisUnknown := false }, raw := some ⟨0, .neutral, false, false⟩ } }

/-- Service state, the staging copy and the commit in flight as given. -/
def serving (staging : Body) (commit : Timer) (exitPending : Bool) : State :=
  { standing with
    vehicle := { standing.vehicle with conds := { standing.vehicle.conds with service := true } }
    settings :=
      { standing.settings with
        serviceIn := true, staging := some staging, commit := commit, exitPending := exitPending
        state := if commit.isSome then .modified else .defaulted } }

theorem witness_ServiceStateIsEnteredAndLeft :
    let r := req 0x10 []
    let q := req 0x11 []
    ((asks .body r ran).Ready .body .serviceEnter r ∧ Link.body ≠ .chassis) ∧
    ((asks .chassis r ran).Ready .chassis .serviceEnter r ∧ ran.vehicle.speed ≠ 0) ∧
    ((asks .chassis r standing).Ready .chassis .serviceEnter r ∧ standing.vehicle.speed = 0 ∧
      standing.vehicle.raw.map RawChassis.gear ≠ some .reverse) ∧
    ((asks .body q ran).Ready .body .serviceExit q ∧ ran.settings.serviceIn = false) ∧
    ((asks .chassis q (serving Body.builtIn none false)).Ready .chassis .serviceExit q ∧
      (serving Body.builtIn none false).settings.commit = none) ∧
    (asks .chassis q (serving Body.builtIn (some 9) false)).Ready .chassis .serviceExit q :=
  ⟨ready_and (by decide +kernel), ready_and (by decide +kernel), ready_and (by decide +kernel), ready_and (by decide +kernel),
    ready_and (by decide +kernel), ready_of (by decide +kernel)⟩

/-- Speed 1200 reported in service state: MOVING becomes true, without a commit in flight and with one; a fall-back that does the
same; a speed above the maximum of a cause in service; and contacts that change a zone's occupancy. -/
theorem witness_reports_and_fallbacks :
    let r := req 8 [4, 176, 2, 0]
    let free := serving Body.builtIn none false
    let busy := serving Body.builtIn (some 9) false
    let silent := { free with vehicle := { free.vehicle with chassisTimer := some 0 } }
    let shown := { ranWith ((asked 0).write 6 150 (be16 100)) with
      vehicle := standing.vehicle, arbiter := (atStage 0 .inService (some 5) none).arbiter }
    let c := req 9 [0, 7, 0]
    ((asks .chassis r free).Ready .chassis .vehicleState r ∧ free.MovingEnds (after (.vehicleState .chassis) (asks .chassis r free)) ∧
      free.settings.commit = none) ∧
    ((asks .chassis r busy).Ready .chassis .vehicleState r ∧ busy.MovingEnds (after (.vehicleState .chassis) (asks .chassis r busy)) ∧
      busy.settings.commit ≠ none) ∧
    (silent.vehicle.chassisTimer ≠ none ∧ silent.MovingEnds (after .chassisSilenceTimerExpiry silent)) ∧
    ((asks .chassis r shown).Ready .chassis .vehicleState r ∧ (shown.causeRec 11).stage = .inService ∧
      (shown.body.cause 11).maxSpeed = 100 ∧ shown.vehicle.speed ≠ 1200) ∧
    (asks .body c (ranWith rear)).Ready .body .bodyState c ∧ ((ranWith rear).body.zone 7).enabled = true ∧
      ((ranWith rear).zoneRec 7).occupancy ≠ 3 :=
  ⟨⟨ready_of (by decide +kernel), by unfold State.MovingEnds; decide +kernel⟩,
    ⟨ready_of (by decide +kernel), by unfold State.MovingEnds; decide +kernel⟩,
    by unfold State.MovingEnds; decide +kernel, ready_and (by decide +kernel), ready_and (by decide +kernel)⟩

/-- The last byte of section 8 and one past it; 24 bytes and 25; the other refusals. -/
theorem witness_SettingsWriteAndRead :
    let w := req 0x12 [8, 0, 1, 7]
    let past := req 0x12 [8, 0, 2, 7]
    let x := req 0x13 [8, 0, 1, 1]
    let y := req 0x13 [3, 0, 0, 25]
    let s := serving Body.builtIn none false
    ((asks .chassis w s).Ready .chassis .settingsWrite w ∧ u16At w.fields 1 + (w.fields.length - 3) ≤ sectionLength 8 ∧
      s.settings.staging = some Body.builtIn ∧ Body.builtIn.wf = true) ∧
    ((asks .chassis past s).Ready .chassis .settingsWrite past ∧
      ¬ u16At past.fields 1 + (past.fields.length - 3) ≤ sectionLength 8) ∧
    ((asks .body w s).Ready .body .settingsWrite w ∧ (asks .chassis w ran).Ready .chassis .settingsWrite w ∧
      (asks .chassis w (serving Body.builtIn (some 9) false)).Ready .chassis .settingsWrite w) ∧
    ((asks .detector x ran).Ready .detector .settingsRead x ∧ u16At x.fields 1 + u8At x.fields 3 ≤ sectionLength 8) ∧
    (asks .detector y ran).Ready .detector .settingsRead y ∧ ¬ u8At y.fields 3 ≤ 24 :=
  ⟨ready_and (by decide +kernel), ready_and (by decide +kernel),
    ⟨ready_of (by decide +kernel), ready_of (by decide +kernel), ready_of (by decide +kernel)⟩, ready_and (by decide +kernel),
    ready_and (by decide +kernel)⟩

/-- Staging copies that pass, one of them with a zone in it, one that fails at section 8's last item, and the refusals, out of service
too. -/
theorem witness_CommitPutsTheStagingCopyInForce :
    let r := req 0x14 []
    let bad := Body.builtIn.write 8 0 [0]
    ((asks .chassis r (serving Body.builtIn none false)).Ready .chassis .settingsCommit r ∧ Body.builtIn.valid = true) ∧
    ((asks .chassis r (serving rear none false)).Ready .chassis .settingsCommit r ∧ rear.valid = true ∧
      (rear.zone 7).enabled = true ∧ (rear.zone 7).preferredView = none) ∧
    ((asks .chassis r (serving bad none false)).Ready .chassis .settingsCommit r ∧ bad.firstFailure = some (8, 0)) ∧
    (asks .chassis r (serving Body.builtIn (some 1) false)).Ready .chassis .settingsCommit r ∧
    (asks .body r (serving Body.builtIn none false)).Ready .body .settingsCommit r ∧
    (asks .body r ran).Ready .body .settingsCommit r ∧
    (asks .chassis r ran).Ready .chassis .settingsCommit r ∧ (asks .chassis r ran).settings.serviceIn = false ∧
      (asks .chassis r ran).settings.staging = none :=
  ⟨ready_and (by decide +kernel), ready_and (by decide +kernel), ready_and (by decide +kernel), ready_of (by decide +kernel),
    ready_of (by decide +kernel), ready_of (by decide +kernel), ready_and (by decide +kernel)⟩

theorem witness_CommitWriteEnds :
    let s := serving Body.builtIn (some 1) false
    let t := serving Body.builtIn (some 1) true
    (s.SettingsOk ∧ t.SettingsOk) ∧ s.MemoryOk ∧ s.phase = .running ∧ s.settings.commit ≠ none ∧
      s.settings.exitPending = false ∧ t.settings.exitPending = true :=
  ⟨⟨settings_of (by decide +kernel), settings_of (by decide +kernel)⟩, memory_of (by decide +kernel), by decide +kernel⟩

theorem witness_SettingsRecordRoundTrip : Body.builtIn.wf = true ∧ (Body.builtIn.write 3 319 [255]).wf = true := by decide +kernel

/-- The built-in defaults with cause 4 enabled, REVERSE, and naming view 1, which is not defined. -/
def noView : Body := Body.builtIn.write 6 52 [1, 0, 0, 1, 0, 0, 0]

/-- The spec's example of R188: sections 1 to 5 and causes 0 to 3 keep their rules, cause 4 names a view that is not defined. -/
theorem witness_first_failure :
    (∀ n, 1 ≤ n → n ≤ 5 → noView.SectionKeeps n) ∧ (∀ i : Cause, i.val < 4 → noView.CauseKeeps i) ∧
      (noView.cause 4).enabled = true ∧ noView.u8 6 52 = 1 ∧ noView.u8 6 53 ≤ 6 ∧ ¬ noView.NamesView (noView.cause 4).view := by
  have ids : ∀ i : Fin 2, ∀ j : Fin 3, 0 ≤ noView.canId i j ∧ noView.canId i j ≤ 0x7FF ∧
      ∀ k : Fin 3, k < j → noView.canId i k ≠ noView.canId i j := by decide +kernel
  have h1 : noView.LinksKeep :=
    { idents := fun i j hi hj => ⟨(ids ⟨i, hi⟩ ⟨j, hj⟩).1, (ids ⟨i, hi⟩ ⟨j, hj⟩).2.1,
        fun k hk => (ids ⟨i, hi⟩ ⟨j, hj⟩).2.2 ⟨k, by omega⟩ hk⟩
      silence := by unfold Body.Word; decide +kernel
      owners := by intro l; cases l <;> decide +kernel
      sectors := fun l h hh => by
        have := (by decide +kernel : ∀ l ∈ Link.all, ∀ h : Fin 2,
          noView.u8 1 (22 + 2 * l.ix.val + h.val) < 6 ∨ noView.u8 1 (22 + 2 * l.ix.val + h.val) = 255)
        exact this l (by cases l <;> decide) ⟨h, hh⟩
      differ := fun l s hs he => by
        have := (by decide +kernel : ∀ l ∈ Link.all, noView.sectorEntry l 0 ≠ noView.sectorEntry l 1)
        exact this l (by cases l <;> decide) (hs.trans he.symm) }
  have h2 : ∀ c, noView.CameraKeeps c := fun c => by
    constructor <;> (try simp only [Body.YesNo, Body.Byte, Body.Word]) <;> revert c <;> decide +kernel
  refine ⟨fun n h5 h6 => ?_, fun i hi => ?_, by decide +kernel, by decide +kernel, by decide +kernel, ?_⟩
  · have h3 : ∀ c, noView.CalibrationKeeps c := fun c => by
      have no : ∀ c : Camera, noView.u8 3 (80 * c.val) = 0 := by decide +kernel
      have : noView.u8 3 (80 * c.val) ≠ 1 := by rw [no]; decide
      exact ⟨by unfold Body.YesNo; rw [no]; decide, fun h => absurd h this, fun h => absurd h this, fun h => absurd h this,
        fun h => absurd h this⟩
    have h4 : ∀ z, noView.ZoneKeeps z := fun z => by
      have none : ∀ z, (noView.zone z).preferredView = none := by decide +kernel
      refine ⟨?_, ?_, ?_, ?_, ?_, ?_, fun v hv => by simp [none] at hv, ?_⟩ <;> (try simp only [Body.YesNo, Body.Word]) <;> revert z <;>
        decide +kernel
    have h5' : ∀ v, v < 8 → noView.ViewKeeps v := fun v hv => by
      have pane : noView.PaneKeeps 0 0 :=
        ⟨by unfold Body.Byte; decide +kernel, by unfold Body.YesNo; decide +kernel, by decide +kernel, by decide +kernel,
          by decide +kernel, by decide +kernel, fun j hj => by omega⟩
      have other : ∀ v : Fin 8, v ≠ 0 → noView.viewDefined v = false := by decide +kernel
      have yes : ∀ v : Fin 8, noView.u8 5 (44 * v.val) ≤ 1 := by decide +kernel
      refine ⟨yes ⟨v, hv⟩, fun h => ?_, fun h k hk => ?_⟩ <;> by_cases h0 : v = 0
      · subst h0; unfold Body.Byte; decide +kernel
      · exact absurd (other ⟨v, hv⟩ (by simpa [Fin.ext_iff] using h0)) (by simp [h])
      · subst h0
        have one : noView.u8 5 (44 * 0 + 1) = 1 := by decide +kernel
        rw [one] at hk
        obtain rfl : k = 0 := by omega
        exact pane
      · exact absurd (other ⟨v, hv⟩ (by simpa [Fin.ext_iff] using h0)) (by simp [h])
    match n, h5, h6 with
    | 1, _, _ => exact h1
    | 2, _, _ => exact h2
    | 3, _, _ => exact h3
    | 4, _, _ => exact ⟨h4, by decide +kernel⟩
    | 5, _, _ => exact h5'
  · have off : ∀ i : Cause, i.val < 4 → (noView.cause i).enabled = false := by decide +kernel
    have no : ∀ i : Cause, i.val < 4 → noView.u8 6 (13 * i.val) ≤ 1 := by decide +kernel
    have := off i hi
    constructor <;> first | exact no i hi | (intro h; simp [this] at h)
  · unfold Body.NamesView; decide +kernel

/-! ## Resets, supply, projection -/

/-- RESET_N and RESET find a sending in progress, service state, a frame being drawn and notices wanted. -/
theorem witness_resets :
    let r := req 0x15 []
    let sending := (serving Body.builtIn none false).setCtl .detector
      { (ran.ctl .detector) with transit := some ⟨none, 0, false, false⟩ }
    (State.reset.phase = .loading ∧ ran.phase ≠ .stopped ∧ ran.phase = .running ∧ ran.resetLineHigh = true ∧
      (after .resetN ran).resetLineHigh = false ∧ State.reset.settings.memory.validBody = none) ∧
    (sending.phase = .running ∧ sending.resetLineHigh = true ∧ (sending.ctl .detector).transit.isSome = true ∧
      sending.settings.serviceIn = true ∧ (after .outputFrameStart sending).frame.isSome = true) ∧
    (asks .chassis r sending).Ready .chassis .reset r ∧
    (asks .chassis r ran).Ready .chassis .reset r ∧ (asks .body r ran).Ready .body .reset r :=
  ⟨by decide +kernel, by decide +kernel, ready_of (by decide +kernel), ready_of (by decide +kernel), ready_of (by decide +kernel)⟩

/-- R195: the reply of a RESET on an idle CHASSIS port, lost to a RESET_N that comes after it. -/
theorem test_reset_reply_lost :
    let s := after (.reset .chassis) (asks .chassis (req 0x15 []) ran)
    (s.busFrame .chassis).map Prod.snd = some [0x55, 7, 1, 0] ∧ (after .resetN s).busFrame .chassis = none ∧
      ((after .resetN s).ctl .chassis).outbound = [] := by decide +kernel

theorem witness_SupplyMonitorFollowsTheThresholds :
    let s := { ran with supply := { state := .normal, dip := some 0, recovery := none } }
    let t := { ran with supply := { state := .crank, dip := none, recovery := some 0 } }
    s.phase ≠ .stopped ∧ s.supply.dip ≠ none ∧ t.phase ≠ .stopped ∧ t.supply.recovery ≠ none := by decide +kernel

theorem witness_ProjectionStaysInThePicture : camera1.Ok := by
  have h : camera1.rungs.length = 9 ∧ (∀ i : Fin 9, 0 ≤ (camera1.rung i).row ∧ (camera1.rung i).row ≤ 479) ∧
      (∀ i : Fin 9, 0 ≤ (camera1.rung i).centre ∧ (camera1.rung i).centre ≤ 799) ∧
      (∀ i : Fin 9, 0 ≤ (camera1.rung i).scale ∧ (camera1.rung i).scale ≤ 1000) ∧
      ∀ i : Fin 8, (camera1.rung i).depth < (camera1.rung (i + 1)).depth := by decide +kernel
  exact ⟨h.1, fun i hi => h.2.1 ⟨i, by omega⟩, fun i hi => h.2.2.1 ⟨i, by omega⟩, fun i hi => h.2.2.2.1 ⟨i, by omega⟩,
    fun i hi => h.2.2.2.2 ⟨i, hi⟩⟩

/-- Camera 0 with a picture, in the frame that starts: RECORDER's first pane is FRESH. -/
def drawn : State := after .outputFrameStart (resting 0 0)

/-- The same with a picture five frames old: STALE. -/
def drawnLate : State :=
  after .outputFrameStart ((resting 0 0).setPict 0 { (resting 0 0).pict 0 with age := 5 })

/-- The same drawn black from row 240 of either output. -/
def blackened : State := { drawn with frame := drawn.frame.map fun f => { f with blackFrom := some (240, 240) } }

/-- The pane of RECORDER at a pixel, and whether no figure covers it there. -/
def paneAt (s : State) (q : Px) : List (Camera × Bool × Bool × Bool) :=
  s.frame.toList.flatMap fun f => match f.body with
    | .starting _ => []
    | .running k => ((k.panesOf .recorder).find? fun p => p.holds q).toList.map fun p =>
        (p.camera, p.half, (k.figures .recorder f.number p).all fun g => !g.covers q, p.border q)

/-- The freshness, the border and whether the figures after it leave a pixel of RECORDER alone. -/
def borderAt (s : State) (q : Px) : List (Freshness × Bool × Bool) :=
  s.frame.toList.flatMap fun f => match f.body with
    | .starting _ => []
    | .running k => ((k.panesOf .recorder).find? fun p => p.holds q).toList.map fun p =>
        (k.cameras[p.camera].freshness, p.border q, (p.sixth k.cameras[p.camera]).tail.all fun g => !g.covers q)

/-- No frame; a STARTING frame; a RUNNING frame under valid settings, with a pixel within a pane that no figure covers, one on its
border, one in no pane, one on either side of the row from which a frame is black; a camera whose picture is lost. -/
theorem witness_composition :
    let k := fun s : State => s.frame.toList.flatMap fun f => match f.body with
      | .starting _ => []
      | .running k => [(k.settings.valid, k.cameras[(0 : Camera)].freshness, (k.cameras[(0 : Camera)].slotOf .recorder).isSome,
          k.cameras[(3 : Camera)].freshness, (k.panesOf .monitor).all fun p => !p.holds ⟨100, 10⟩)]
    ran.frame = none ∧ (after .outputFrameStart State.reset).frame.isSome = true ∧ k (after .outputFrameStart State.reset) = [] ∧
      k drawn = [(true, .fresh, true, .lost, true)] ∧ paneAt drawn ⟨100, 100⟩ = [(0, true, true, false)] ∧
      paneAt drawn ⟨1, 100⟩ = [(0, true, false, true)] ∧ paneAt drawn ⟨250, 410⟩ = [(3, true, true, false)] ∧
      (blackened.frame.bind Frame.blackFrom) = some (240, 240) := by decide +kernel

/-- The three rows of Table 9-3, each at a border pixel that badge and text leave alone. -/
theorem witness_borders : borderAt drawn ⟨1, 100⟩ = [(.fresh, true, true)] ∧ borderAt drawnLate ⟨1, 100⟩ = [(.stale, true, true)] ∧
    borderAt drawn ⟨241, 500⟩ = [(.lost, true, true)] := by decide +kernel

end Sys2Proof.Tests
end

section
/-! SUPPORT. One camera at a time: the homes of a camera's parts, and what each operation on a camera leaves alone beside that
camera and the links. -/

namespace Sys2Proof.Machine

/-! ## Homes -/

@[simp] theorem State.setRecv_setRecv (s : State) (c : Camera) (a b : Receiver) :
    (s.setRecv c a).setRecv c b = s.setRecv c b := by
  simp [State.setRecv]

@[simp] theorem State.setRecv_recv (s : State) (c : Camera) : s.setRecv c (s.recv c) = s := by
  simp [State.setRecv, State.recv]

@[simp] theorem State.setPict_pict (s : State) (c : Camera) : s.setPict c (s.pict c) = s := by
  simp [State.setPict, State.pict]

@[simp] theorem State.noteCamera_keeps (c : Camera) (b s : State) :
    (State.noteCamera c b s).phase = s.phase ∧ (State.noteCamera c b s).supply = s.supply ∧
    (State.noteCamera c b s).body = s.body ∧ (State.noteCamera c b s).recv = s.recv ∧
    (State.noteCamera c b s).pict = s.pict ∧ (State.noteCamera c b s).reg = s.reg ∧
    (State.noteCamera c b s).pending = s.pending := by
  unfold State.noteCamera
  split <;> simp

/-! ## Everything beside one camera and the links -/

/-- Everything but the link controllers and one camera's receiver, picture and regulator. -/
def State.besideCamera (c : Camera) (s : State) : State :=
  { ((s.setRecv c Receiver.atReset).setPict c Picture.atReset).setReg c (State.reset.reg c) with links := State.reset.links }

theorem State.besideCameras_of_besideCamera {c : Camera} {s t : State} (h : t.besideCamera c = s.besideCamera c) :
    t.besideCameras = s.besideCameras :=
  (congrArg State.besideCameras h :)

theorem State.otherCameras_of_besideCamera {c : Camera} {s t : State} (h : t.besideCamera c = s.besideCamera c) :
    s.OtherCameras t c := by
  intro d hd
  have hr : ∀ u : State, (u.besideCamera c).recv d = u.recv d := fun u => u.recv_setRecv_of_ne c d Receiver.atReset hd
  have hp : ∀ u : State, (u.besideCamera c).pict d = u.pict d := fun u => u.pict_setPict_of_ne c d Picture.atReset hd
  have hg : ∀ u : State, (u.besideCamera c).reg d = u.reg d := fun u => u.reg_setReg_of_ne c d (State.reset.reg c) hd
  rw [← hr t, ← hp t, ← hg t, h, hr, hp, hg]
  exact ⟨rfl, rfl, rfl⟩

@[simp] theorem State.besideCamera_setRecv (s : State) (c : Camera) (r : Receiver) :
    (s.setRecv c r).besideCamera c = s.besideCamera c := by
  simp [State.besideCamera]

@[simp] theorem State.besideCamera_setPict (s : State) (c : Camera) (p : Picture) :
    (s.setPict c p).besideCamera c = s.besideCamera c := by
  simp [State.besideCamera, State.setPict, State.setRecv]

@[simp] theorem State.besideCamera_setReg (s : State) (c : Camera) (g : Regulator) :
    (s.setReg c g).besideCamera c = s.besideCamera c := by
  simp [State.besideCamera, State.setPict, State.setRecv, State.setReg]

@[simp] theorem State.besideCamera_raise (s : State) (c : Camera) (k : NoticeKind) (n : Nat) (f : List Byte) :
    (s.raise k n f).besideCamera c = s.besideCamera c := rfl

@[simp] theorem State.besideCamera_settle (s : State) (c : Camera) : s.settle.besideCamera c = s.besideCamera c := rfl

@[simp] theorem State.besideCamera_noteCamera (s b : State) (c : Camera) :
    (State.noteCamera c b s).besideCamera c = s.besideCamera c := by
  unfold State.noteCamera
  split <;> simp

@[simp] theorem State.besideCamera_workHeater (s : State) (c : Camera) :
    (s.workHeater c).besideCamera c = s.besideCamera c :=
  s.besideCamera_setReg c _

@[simp] theorem State.besideCamera_accept (s : State) (c : Camera) (a : StatusRecord) :
    (s.accept c a).besideCamera c = s.besideCamera c := by
  unfold State.accept
  dsimp only
  split <;> simp

@[simp] theorem State.besideCamera_cycleComplete (s : State) (c : Camera) (b : List Byte) :
    (s.cycleComplete c b).besideCamera c = s.besideCamera c := by
  unfold State.cycleComplete
  dsimp only
  repeat' split
  all_goals simp

@[simp] theorem State.besideCamera_addStatusByte (s : State) (c : Camera) (k : Nat) (b : Byte) :
    (s.addStatusByte c k b).besideCamera c = s.besideCamera c := by
  unfold State.addStatusByte
  dsimp only
  repeat' split
  all_goals simp

@[simp] theorem State.besideCamera_abandonFill (s : State) (c : Camera) :
    (s.abandonFill c).besideCamera c = s.besideCamera c := by
  unfold State.abandonFill
  dsimp only
  split <;> simp

@[simp] theorem State.besideCamera_completeFill (s : State) (c : Camera) (f : Fill) :
    (s.completeFill c f).besideCamera c = s.besideCamera c := by
  simp [State.completeFill]

@[simp] theorem State.besideCamera_endFill (s : State) (c : Camera) (f : Fill) :
    (s.endFill c f).besideCamera c = s.besideCamera c := by
  unfold State.endFill
  dsimp only
  split <;> simp

@[simp] theorem State.besideCamera_finishCopy (s : State) (c : Camera) :
    (s.finishCopy c).besideCamera c = s.besideCamera c := by
  unfold State.finishCopy
  dsimp only
  repeat' split
  all_goals simp

@[simp] theorem State.besideCamera_leaveLocked (s : State) (c : Camera) :
    (s.leaveLocked c).besideCamera c = s.besideCamera c := by
  simp [State.leaveLocked]

@[simp] theorem State.besideCamera_openFill (s : State) (c : Camera) (k : Nat) :
    (s.openFill c k).besideCamera c = s.besideCamera c := by
  unfold State.openFill
  dsimp only
  split <;> simp

@[simp] theorem State.besideCamera_slip (s : State) (c : Camera) : (s.slip c).besideCamera c = s.besideCamera c := by
  simp [State.slip]

@[simp] theorem State.besideCamera_sendWord (s : State) (c : Camera) : (s.sendWord c).besideCamera c = s.besideCamera c := by
  simp [State.sendWord]

@[simp] theorem State.besideCamera_failGroup (s : State) (c : Camera) (f : Fill) (g : Nat) :
    (s.failGroup c f g).besideCamera c = s.besideCamera c := by
  simp [State.failGroup]

@[simp] theorem State.besideCamera_judgeGroup (s : State) (c : Camera) (f : Fill) (g : Nat) (k : Byte) :
    (s.judgeGroup c f g k).besideCamera c = s.besideCamera c := by
  unfold State.judgeGroup
  repeat' split
  all_goals simp

@[simp] theorem State.besideCamera_writeRow (s : State) (c : Camera) (f : Fill) (n : Nat) (k : RowRecord) :
    (s.writeRow c f n k).besideCamera c = s.besideCamera c := by
  simp [State.writeRow]

@[simp] theorem State.besideCamera_markJudged (s : State) (c : Camera) :
    (s.markJudged c).besideCamera c = s.besideCamera c := by
  simp [State.markJudged]

@[simp] theorem State.besideCamera_endIfDone (s : State) (c : Camera) :
    (s.endIfDone c).besideCamera c = s.besideCamera c := by
  unfold State.endIfDone
  split <;> simp

@[simp] theorem State.besideCamera_lineInFill (s : State) (c : Camera) (n : Nat) (k : RowRecord) :
    (s.lineInFill c n k).besideCamera c = s.besideCamera c := by
  unfold State.lineInFill
  dsimp only
  repeat' split
  all_goals simp

@[simp] theorem State.besideCamera_lastInFill (s : State) (c : Camera) (k : RowRecord) :
    (s.lastInFill c k).besideCamera c = s.besideCamera c := by
  unfold State.lastInFill
  dsimp only
  split <;> simp

@[simp] theorem State.besideCamera_takePlace (s : State) (c : Camera) (n : Nat) (k : RowRecord) :
    (s.takePlace c n k).besideCamera c = s.besideCamera c := by
  unfold State.takePlace
  repeat' split
  all_goals simp

@[simp] theorem State.besideCamera_dropToSearch (s : State) (c : Camera) :
    (s.dropToSearch c).besideCamera c = s.besideCamera c := by
  simp [State.dropToSearch]

@[simp] theorem State.besideCamera_searchTakes (s : State) (c : Camera) (k : Nat) :
    (s.searchTakes c k).besideCamera c = s.besideCamera c := by
  simp [State.searchTakes]

@[simp] theorem State.besideCamera_confirmFails (s : State) (c : Camera) :
    (s.confirmFails c).besideCamera c = s.besideCamera c := by
  simp [State.confirmFails]

@[simp] theorem State.besideCamera_enterLocked (s : State) (c : Camera) (k : Nat) :
    (s.enterLocked c k).besideCamera c = s.besideCamera c := by
  simp [State.enterLocked]

@[simp] theorem State.besideCamera_frameSlip (s : State) (c : Camera) (k : Nat) :
    (s.frameSlip c k).besideCamera c = s.besideCamera c := by
  unfold State.frameSlip
  dsimp only
  split <;> simp

@[simp] theorem State.besideCamera_missingFrameStart (s : State) (c : Camera) :
    (s.missingFrameStart c).besideCamera c = s.besideCamera c := by
  unfold State.missingFrameStart
  dsimp only
  split <;> simp

@[simp] theorem State.besideCamera_frameStart (s : State) (c : Camera) (k : Nat) :
    (s.frameStart c k).besideCamera c = s.besideCamera c := by
  unfold State.frameStart
  dsimp only
  repeat' split
  all_goals simp

@[simp] theorem State.besideCamera_wake (s : State) (c : Camera) : (s.wake c).besideCamera c = s.besideCamera c := by
  unfold State.wake
  dsimp only
  split <;> simp

@[simp] theorem State.besideCamera_rowRecord (s : State) (c : Camera) (k : RowRecord) :
    (s.rowRecord c k).besideCamera c = s.besideCamera c := by
  unfold State.rowRecord
  dsimp only
  repeat' split
  all_goals simp

@[simp] theorem State.besideCamera_rowArrives (s : State) (c : Camera) (k : RowRecord) :
    (s.rowArrives c k).besideCamera c = s.besideCamera c := by
  simp [State.rowArrives]

@[simp] theorem State.besideCamera_fallSilent (s : State) (c : Camera) :
    (s.fallSilent c).besideCamera c = s.besideCamera c := by
  unfold State.fallSilent
  dsimp only
  split <;> simp

@[simp] theorem State.besideCamera_windowEnd (s : State) (c : Camera) :
    (s.windowEnd c).besideCamera c = s.besideCamera c := by
  unfold State.windowEnd
  dsimp only
  repeat' split
  all_goals simp

end Sys2Proof.Machine
end

section
/-! SUPPORT. The picture memory of one camera: what its slots read as after each operation, and the bytes of a row and a group. -/

namespace Sys2Proof.Machine

/-! ## Slots -/

@[simp] theorem Picture.setSlot_keeps (p : Picture) (i : SlotIx) (x : PicSlot) :
    (p.setSlot i x).latest = p.latest ∧ (p.setSlot i x).age = p.age ∧ (p.setSlot i x).freshness = p.freshness ∧
    (p.setSlot i x).shownAge = p.shownAge ∧ (p.setSlot i x).copy = p.copy := ⟨rfl, rfl, rfl, rfl, rfl⟩

theorem Picture.slot_setSlot (p : Picture) (i j : SlotIx) (x : PicSlot) :
    (p.setSlot i x).slot j = if j = i then x else p.slot j := by
  by_cases h : j = i
  · simp [Picture.slot, Picture.setSlot, h]
  · have hv : i.val ≠ j.val := fun e => h (Fin.ext e).symm
    simp [Picture.slot, Picture.setSlot, h, hv]

@[simp] theorem Picture.slot_setSlot_self (p : Picture) (i : SlotIx) (x : PicSlot) : (p.setSlot i x).slot i = x := by
  simp [Picture.slot_setSlot]

theorem Picture.slot_setSlot_of_ne (p : Picture) {i j : SlotIx} (x : PicSlot) (h : j ≠ i) :
    (p.setSlot i x).slot j = p.slot j := by
  simp [Picture.slot_setSlot, h]

theorem Holders.count_eq_zero {h : Holders} : h.count = 0 ↔ h = Holders.none := by
  obtain ⟨a, b, d⟩ := h
  cases a <;> cases b <;> cases d <;> decide

/-! ## Fills opened, abandoned and completed -/

theorem Picture.lowestFree_eq_none {p : Picture} : p.lowestFree = none ↔ ∀ j, (p.slot j).state ≠ .free := by
  simp [Picture.lowestFree]

theorem Picture.lowestFree_eq_some {p : Picture} {i : SlotIx} :
    p.lowestFree = some i ↔ (p.slot i).state = .free ∧ ∀ j < i, (p.slot j).state ≠ .free := by
  simp only [Picture.lowestFree, List.find?_eq_some_iff_getElem, List.getElem_finRange, List.length_finRange, beq_iff_eq,
    Bool.not_eq_true', beq_eq_false_iff_ne]
  constructor
  · rintro ⟨hi, n, hn, rfl, hlt⟩
    exact ⟨hi, fun j hj => hlt j.val hj⟩
  · rintro ⟨hi, hlt⟩
    exact ⟨hi, i.val, i.isLt, rfl, fun j hj => hlt ⟨j, by omega⟩ hj⟩

/-- Why a slot of a camera without an open fill is not FREE: it is LATEST (0), or RECORDER (1) or a copy (2) holds it. -/
def Picture.keeper (p : Picture) (i : SlotIx) : Fin 3 :=
  if (p.slot i).state = .latest then 0 else if (p.slot i).holders.recorder = true then 1 else 2

/-- R26: each reason keeps one slot at most; MONITOR holds no slot that RECORDER does not. -/
theorem Picture.Ok.keeper_injective {p : Picture} (h : p.Ok none) (hfree : ∀ j, (p.slot j).state ≠ .free) :
    Function.Injective p.keeper := by
  have copied : ∀ i, (p.slot i).state ≠ .latest → (p.slot i).holders.recorder = false →
      p.copy.bind Copy.source = some i := by
    intro i hl hr
    have hs : (p.slot i).state = .superseded := by
      have hf := hfree i
      have hg : (p.slot i).state ≠ .filling := fun e => absurd ((h.filling i).mp e) (by simp)
      cases hst : (p.slot i).state <;> simp_all
    have hm : (p.slot i).holders.monitor = false := Bool.eq_false_iff.mpr fun e => by simp [h.monitor i e] at hr
    rw [← h.copy i]
    by_contra hc
    exact h.held i hs (by
      cases hh : (p.slot i).holders
      simp_all [Holders.none])
  intro i j hij
  unfold Picture.keeper at hij
  by_cases hi : (p.slot i).state = .latest <;> by_cases hj : (p.slot j).state = .latest
  · exact Option.some.inj (((h.latest i).mp hi).symm.trans ((h.latest j).mp hj))
  · simp only [hi, hj, if_true, if_false] at hij
    split at hij <;> exact absurd hij (by decide)
  · simp only [hi, hj, if_true, if_false] at hij
    split at hij <;> exact absurd hij (by decide)
  · simp only [hi, hj, if_false] at hij
    by_cases ri : (p.slot i).holders.recorder = true <;> by_cases rj : (p.slot j).holders.recorder = true
    · exact h.recorder i j ri rj
    · simp [ri, rj] at hij
    · simp [ri, rj] at hij
    · exact Option.some.inj ((copied i hi (by simpa using ri)).symm.trans (copied j hj (by simpa using rj)))

/-- R27: with no fill open a camera has a FREE slot: of the four slots one at most is LATEST, and of the SUPERSEDED ones, all held,
one at most is RECORDER's (MONITOR has none of its own) and one at most the copy's. -/
theorem Picture.Ok.lowestFree_isSome {p : Picture} (h : p.Ok none) : ∃ i, p.lowestFree = some i := by
  refine Option.ne_none_iff_exists'.mp fun hnone => ?_
  have hfree := Picture.lowestFree_eq_none.mp hnone
  obtain ⟨i, j, hne, hij⟩ := Fintype.exists_ne_map_eq_of_card_lt p.keeper (by decide)
  exact hne (h.keeper_injective hfree hij)

theorem Picture.openFill_slot_self (p : Picture) (i : SlotIx) :
    (p.openFill i).slot i =
      { p.slot i with state := .filling, groups := Vector.replicate 60 .good, figures := Vector.replicate 60 ⟨0, 0⟩ } :=
  p.slot_setSlot_self i _

theorem Picture.openFill_slot_of_ne (p : Picture) {i j : SlotIx} (h : j ≠ i) : (p.openFill i).slot j = p.slot j :=
  p.slot_setSlot_of_ne _ h

@[simp] theorem Picture.abandon_keeps (p : Picture) (i : SlotIx) :
    (p.abandon i).latest = p.latest ∧ (p.abandon i).age = p.age ∧ (p.abandon i).freshness = p.freshness :=
  ⟨rfl, rfl, rfl⟩

theorem Picture.abandon_slot_self (p : Picture) (i : SlotIx) : ((p.abandon i).slot i).state = .free :=
  congrArg PicSlot.state (p.slot_setSlot_self i _)

theorem Picture.abandon_slot_of_ne (p : Picture) {i j : SlotIx} (h : j ≠ i) : (p.abandon i).slot j = p.slot j :=
  p.slot_setSlot_of_ne _ h

@[simp] theorem Picture.complete_sets (p : Picture) (i : SlotIx) :
    (p.complete i).latest = some i ∧ (p.complete i).age = 0 ∧ (p.complete i).freshness = .fresh := ⟨rfl, rfl, rfl⟩

/-- R29: the completed slot is LATEST, the LATEST before it retires, the others stay. -/
theorem Picture.complete_slot (p : Picture) {i : SlotIx} (j : SlotIx) (hi : p.latest ≠ some i) :
    (p.complete i).slot j =
      if j = i then { p.slot i with state := .latest } else if p.latest = some j then (p.slot j).retire else p.slot j := by
  cases hl : p.latest with
  | none =>
    have eq : (p.complete i).slot j = (p.setSlot i { p.slot i with state := .latest }).slot j := by
      simp only [Picture.complete, hl]; rfl
    simp [eq, Picture.slot_setSlot]
  | some l =>
    have hne : i ≠ l := fun e => hi (hl.trans (congrArg some e.symm))
    have eq : (p.complete i).slot j =
        ((p.setSlot l (p.slot l).retire).setSlot i { p.slot i with state := .latest }).slot j := by
      simp only [Picture.complete, hl, Ne.symm hne, if_false, Picture.slot_setSlot_of_ne p _ hne]; rfl
    rw [eq, Picture.slot_setSlot, Picture.slot_setSlot]
    by_cases hj : j = l
    · simp [hj]
    · simp [hj, Ne.symm hj]

theorem PicSlot.retire_eq (x : PicSlot) :
    x.retire = { x with state := if x.holders = Holders.none then .free else .superseded } := by
  simp only [PicSlot.retire, Holders.count_eq_zero]

/-! ## Concealment copies -/

@[simp] theorem Picture.release_keeps (p : Picture) (i : SlotIx) (k : Holder) :
    (p.release i k).latest = p.latest ∧ (p.release i k).age = p.age ∧ (p.release i k).freshness = p.freshness := by
  unfold Picture.release
  split <;> simp

@[simp] theorem Picture.landCopy_keeps (p : Picture) (k : Copy) :
    (p.landCopy k).latest = p.latest ∧ (p.landCopy k).age = p.age ∧ (p.landCopy k).freshness = p.freshness := by
  unfold Picture.landCopy
  split <;> simp

@[simp] theorem Picture.finishCopy_keeps (p : Picture) :
    p.finishCopy.latest = p.latest ∧ p.finishCopy.age = p.age ∧ p.finishCopy.freshness = p.freshness := by
  unfold Picture.finishCopy
  repeat' split
  all_goals simp

@[simp] theorem Picture.finishCopy_copy (p : Picture) : p.finishCopy.copy = none := by
  unfold Picture.finishCopy
  split
  · assumption
  · rfl

theorem Picture.finishCopy_of_no_copy {p : Picture} (h : p.copy = none) : p.finishCopy = p := by
  simp [Picture.finishCopy, h]

/-- R32: a slot's rows land where it is the target. -/
theorem Picture.landCopy_slot (p : Picture) (k : Copy) (j : SlotIx) :
    (p.landCopy k).slot j =
      if k.target = some j then
        { p.slot j with pixels := Memory.store Config.blankPixel (p.slot j).pixels (12800 * k.group) (p.copyBytes k) }
      else p.slot j := by
  unfold Picture.landCopy
  split
  · rename_i i hi
    rw [Picture.slot_setSlot]
    by_cases h : j = i
    · subst h; simp [hi]
    · have h' : ¬ i = j := fun e => h e.symm
      simp [hi, h, h']
  · rename_i hn; simp [hn]

theorem Picture.release_slot (p : Picture) (i j : SlotIx) (k : Holder) :
    (p.release i k).slot j = if j = i ∧ (p.slot i).holders.has k = true then (p.slot i).release k else p.slot j := by
  unfold Picture.release
  split
  · rename_i h; simp [Picture.slot_setSlot, h]
  · rename_i h; simp [h]

/-- R32, R33: a slot after the copy in flight has finished: its rows where it is the target, its hold gone where it is the source. -/
theorem Picture.finishCopy_slot {p : Picture} {k : Copy} (hk : p.copy = some k) (j : SlotIx) :
    p.finishCopy.slot j =
      if k.source = some j ∧ (p.slot j).holders.copy = true then ((p.landCopy k).slot j).release .copy
      else (p.landCopy k).slot j := by
  have holders : ∀ i, ((p.landCopy k).slot i).holders = (p.slot i).holders := by
    intro i; rw [Picture.landCopy_slot]; split <;> rfl
  have unmarked : ∀ q : Picture, ({ q with copy := none } : Picture).slot j = q.slot j := fun _ => rfl
  simp only [Picture.finishCopy, hk, unmarked]
  cases hsrc : k.source with
  | none => simp
  | some i =>
    simp only [Picture.release_slot, holders, Holders.has, Option.some.injEq]
    by_cases h : j = i
    · simp [h]
    · simp [h, Ne.symm h]

theorem PicSlot.release_state_of_ne {x : PicSlot} (k : Holder) (h : x.state ≠ .superseded) :
    (x.release k).state = x.state := by
  simp [PicSlot.release, h]

/-- After the copy in flight has finished no slot is held for a copy. -/
theorem Picture.Ok.finishCopy_unheld {p : Picture} {fill : Option SlotIx} (h : p.Ok fill) (j : SlotIx) :
    (p.finishCopy.slot j).holders.copy = false := by
  cases hk : p.copy with
  | none =>
    rw [Picture.finishCopy_of_no_copy hk]
    exact Bool.eq_false_iff.mpr fun e => by simpa [hk] using (h.copy j).mp e
  | some k =>
    have hj := h.copy j
    rw [Picture.finishCopy_slot hk]
    split
    · rfl
    · rename_i hn
      have hf : (p.slot j).holders.copy = false := Bool.eq_false_iff.mpr fun e => hn ⟨by simpa [hk] using hj.mp e, e⟩
      rw [Picture.landCopy_slot]
      split <;> exact hf

/-- A slot that is not SUPERSEDED keeps its state as the copy in flight finishes. -/
theorem Picture.finishCopy_state {p : Picture} {j : SlotIx} (h : (p.slot j).state ≠ .superseded) :
    (p.finishCopy.slot j).state = (p.slot j).state := by
  cases hk : p.copy with
  | none => rw [Picture.finishCopy_of_no_copy hk]
  | some k =>
    have landed : ((p.landCopy k).slot j).state = (p.slot j).state := by rw [Picture.landCopy_slot]; split <;> rfl
    rw [Picture.finishCopy_slot hk]
    split
    · rw [PicSlot.release_state_of_ne _ (by rwa [landed]), landed]
    · exact landed

theorem Picture.finishCopy_pixels_wf {p : Picture} (h : ∀ i, Memory.wf Config.blankPixel (p.slot i).pixels) (j : SlotIx) :
    Memory.wf Config.blankPixel (p.finishCopy.slot j).pixels := by
  cases hk : p.copy with
  | none => rw [Picture.finishCopy_of_no_copy hk]; exact h j
  | some k =>
    have landed : Memory.wf Config.blankPixel ((p.landCopy k).slot j).pixels := by
      rw [Picture.landCopy_slot]
      split
      · exact Memory.store_wf _ _ _ _ (h j)
      · exact h j
    rw [Picture.finishCopy_slot hk]
    split <;> exact landed

end Sys2Proof.Machine
end

section
/-! SUPPORT. The bytes of a record in a line place: the row written, its figures, and the groups it leaves as they are. -/

namespace Sys2Proof.Machine

/-! ## Memory -/

/-- A load of bytes that all lie outside the bytes stored. -/
theorem Memory.load_store_of_disjoint (d : Byte) (m : Memory) (base : Nat) (bs : List Byte) (at_ n : Nat)
    (h : Memory.wf d m) (hd : ∀ i < n, ¬ (base ≤ at_ + i ∧ at_ + i < base + bs.length)) :
    Memory.load d (Memory.store d m base bs) at_ n = Memory.load d m at_ n := by
  apply List.ext_getElem (by simp)
  intro i hi hi'
  have hn : i < n := by simpa using hi
  have read := Memory.load_getD d (Memory.store d m base bs) at_ n i (Memory.store_wf d m base bs h) hn
  rw [Memory.read_store, if_neg (hd i hn), ← Memory.load_getD d m at_ n i h hn] at read
  rwa [List.getD_eq_getElem _ _ hi, List.getD_eq_getElem _ _ hi'] at read

/-! ## The row of a record (R2) -/

/-- The pixel bytes a record supplies, 1600 or not. -/
def RowRecord.supplied (k : RowRecord) : List Byte := if k.isLine then k.body.dropLast else []

theorem RowRecord.pixels_eq (k : RowRecord) :
    k.pixels = k.supplied.take 1600 ++ List.replicate (1600 - (k.supplied.take 1600).length) 128 := by
  unfold RowRecord.pixels RowRecord.supplied linePixels
  split
  · rfl
  · rw [List.take_nil]

@[simp] theorem RowRecord.pixels_length (k : RowRecord) : k.pixels.length = 1600 := by
  rw [RowRecord.pixels_eq]
  simp only [List.length_append, List.length_take, List.length_replicate]
  omega

/-- R2: byte i of the row written is the one supplied, 128 where none is. -/
theorem RowRecord.pixels_getD (k : RowRecord) {i : Nat} (hi : i < 1600) (d : Byte) :
    k.pixels.getD i d = k.supplied.getD i 128 := by
  rw [RowRecord.pixels_eq]
  by_cases h : i < k.supplied.length
  · rw [List.getD_append _ _ _ _ (by simp; omega)]
    simp [List.getD_eq_getElem?_getD, hi, h]
  · rw [List.getD_append_right _ _ _ _ (by simp; omega)]
    simp only [List.getD_eq_getElem?_getD, List.length_take]
    rw [List.getElem?_replicate_of_lt (by omega), List.getElem?_eq_none (by omega)]
    rfl

/-! ## Its figures (R28) -/

/-- The Y samples of 2n bytes are its bytes of odd index. -/
theorem ySamples_eq (n : Nat) (bs : List Byte) (h : bs.length = 2 * n) (d : Byte) :
    ySamples bs = (List.range n).map fun j => bs.getD (2 * j + 1) d := by
  induction n generalizing bs with
  | zero => rw [List.length_eq_zero_iff.mp h]; rfl
  | succ n ih =>
    match bs, h with
    | cb :: y :: rest, h =>
      have hr : rest.length = 2 * n := by simp only [List.length_cons] at h; omega
      rw [List.range_succ_eq_map, ySamples, ih rest hr]
      simp [List.map_map, Function.comp_def, Nat.mul_succ]

/-- The luma of sample j of the row a record writes. -/
def RowRecord.luma (k : RowRecord) (j : Nat) : Nat := (k.supplied.getD (2 * j + 1) 128).toNat

theorem RowRecord.rowFigures_pixels (k : RowRecord) :
    rowFigures k.pixels =
      ⟨((List.range 800).map k.luma).sum, (List.range 800).countP fun j => 248 ≤ k.luma j⟩ := by
  have samples : ySamples k.pixels = (List.range 800).map fun j => k.supplied.getD (2 * j + 1) 128 := by
    rw [ySamples_eq 800 k.pixels (by simp) 0]
    refine List.map_congr_left fun j hj => k.pixels_getD ?_ 0
    have := List.mem_range.mp hj
    omega
  rw [rowFigures, samples, List.map_map, List.countP_map]
  rfl

/-! ## A slot after its row is written -/

theorem PicSlot.writeRow_keeps (x : PicSlot) (row : Nat) (bs : List Byte) :
    (x.writeRow row bs).state = x.state ∧ (x.writeRow row bs).holders = x.holders ∧
    (x.writeRow row bs).groups = x.groups := ⟨rfl, rfl, rfl⟩

/-- R2: the bytes of row r are those of the record, every other byte stays. -/
theorem PicSlot.read_writeRow (x : PicSlot) (r : Nat) (k : RowRecord) (a : Nat) :
    Memory.read Config.blankPixel (x.writeRow r k.pixels).pixels a =
      if 1600 * r ≤ a ∧ a < 1600 * (r + 1) then k.supplied.getD (a - 1600 * r) 128
      else Memory.read Config.blankPixel x.pixels a := by
  show Memory.read _ (Memory.store _ _ _ _) a = _
  rw [Memory.read_store, k.pixels_length]
  by_cases h : 1600 * r ≤ a ∧ a < 1600 * (r + 1)
  · rw [if_pos h, if_pos (by omega), k.pixels_getD (by omega)]
  · rw [if_neg h, if_neg (by omega)]

/-- R28: the row's luma and glare join its group's. -/
theorem PicSlot.writeRow_figures (x : PicSlot) (r : Nat) (k : RowRecord) (g : Fin 60) :
    (x.writeRow r k.pixels).figures[g] =
      if g.val = r / 8 then
        { luma := (x.figures[g]).luma + ((List.range 800).map k.luma).sum
          glare := (x.figures[g]).glare + (List.range 800).countP fun j => 248 ≤ k.luma j }
      else x.figures[g] := by
  simp only [PicSlot.writeRow, Fin.getElem_fin, Vector.getElem_mapIdx, k.rowFigures_pixels, Figures.add]

/-- A row of another group leaves a group's bytes as they are. -/
theorem PicSlot.group_writeRow (x : PicSlot) {r g : Nat} (k : RowRecord) (hg : r / 8 ≠ g)
    (h : Memory.wf Config.blankPixel x.pixels) : (x.writeRow r k.pixels).group g = x.group g :=
  Memory.load_store_of_disjoint _ _ _ _ _ _ h fun i hi => by rw [k.pixels_length]; omega

end Sys2Proof.Machine
end

section
/-! SUPPORT. The receiver of one camera: what a fill's abandonment, a slip, an entry to SEARCH, a wake and the opening of a fill leave
in the receiver, the picture and the regulator. -/

namespace Sys2Proof.Machine

/-! ## The receiver alone -/

@[simp] theorem Receiver.fillEnded_keeps (r : Receiver) (q : Bool) :
    (r.fillEnded q).lock = r.lock ∧ (r.fillEnded q).place = r.place ∧ (r.fillEnded q).anchor = r.anchor ∧
    (r.fillEnded q).slips = r.slips ∧ (r.fillEnded q).fill = r.fill ∧ (r.fillEnded q).errorWindow = r.errorWindow ∧
    (r.fillEnded q).failures = r.failures ∧ (r.fillEnded q).degraded = r.degraded ∧
    (r.fillEnded q).assembly = r.assembly ∧ (r.fillEnded q).nextPos = r.nextPos ∧
    (r.fillEnded q).previous = r.previous ∧ (r.fillEnded q).accepted = r.accepted ∧
    (r.fillEnded q).mismatches = r.mismatches ∧ (r.fillEnded q).notFollowing = r.notFollowing ∧
    (r.fillEnded q).failedGroups = r.failedGroups := by
  unfold Receiver.fillEnded
  split
  · split <;> simp
  · simp

@[simp] theorem Receiver.spoil_keeps (r : Receiver) :
    r.spoil.lock = r.lock ∧ r.spoil.place = r.place ∧ r.spoil.anchor = r.anchor ∧ r.spoil.slips = r.slips ∧
    r.spoil.fill = r.fill ∧ r.spoil.accepted = r.accepted :=
  ⟨rfl, rfl, rfl, rfl, rfl, rfl⟩

/-- R20: nothing is left of the status cycle that was being assembled. -/
def Receiver.Spoiled (r : Receiver) : Prop := r.assembly = [] ∧ r.nextPos = 0 ∧ r.previous = none

/-! ## The abandonment of a fill (R30) -/

theorem State.abandonFill_of_no_fill {s : State} {c : Camera} (h : (s.recv c).fill = none) : s.abandonFill c = s := by
  simp [State.abandonFill, h]

theorem State.abandonFill_of_fill {s : State} {c : Camera} {f : Fill} (h : (s.recv c).fill = some f) :
    s.abandonFill c =
      (s.setPict c ((s.pict c).abandon f.slot)).setRecv c
        (({ (if f.judged then s.recv c else (s.recv c).spoil) with fill := none } : Receiver).fillEnded
          (s.body.camera c).required) := by
  simp [State.abandonFill, h]

@[simp] theorem State.abandonFill_keeps (s : State) (c : Camera) :
    (s.abandonFill c).phase = s.phase ∧ (s.abandonFill c).body = s.body ∧ (s.abandonFill c).reg = s.reg := by
  unfold State.abandonFill
  dsimp only
  split <;> simp

@[simp] theorem State.abandonFill_recv (s : State) (c : Camera) :
    ((s.abandonFill c).recv c).fill = none ∧ ((s.abandonFill c).recv c).lock = (s.recv c).lock ∧
    ((s.abandonFill c).recv c).place = (s.recv c).place ∧ ((s.abandonFill c).recv c).anchor = (s.recv c).anchor ∧
    ((s.abandonFill c).recv c).slips = (s.recv c).slips ∧
    ((s.abandonFill c).recv c).accepted = (s.recv c).accepted := by
  cases h : (s.recv c).fill with
  | none => simp [State.abandonFill_of_no_fill h, h]
  | some f => rw [State.abandonFill_of_fill h]; split <;> simp

/-- R20: the abandonment of a fill before its place 481 was taken spoils the assembly. -/
theorem State.abandonFill_spoiled {s : State} {c : Camera} {f : Fill} (h : (s.recv c).fill = some f)
    (hj : f.judged = false) : ((s.abandonFill c).recv c).Spoiled := by
  rw [State.abandonFill_of_fill h]
  simp [hj, Receiver.Spoiled, Receiver.spoil]

theorem State.abandonFill_assembly (s : State) (c : Camera) :
    ((s.abandonFill c).recv c).Spoiled ∨ ((s.abandonFill c).recv c).assembly = (s.recv c).assembly := by
  cases h : (s.recv c).fill with
  | none => exact .inr (by rw [State.abandonFill_of_no_fill h])
  | some f =>
    cases hj : f.judged with
    | false => exact .inl (State.abandonFill_spoiled h hj)
    | true => exact .inr (by simp [State.abandonFill_of_fill h, hj])

/-- R30: the camera's picture memory p is that of s with the slot of an open fill FREE and every other slot as it was. -/
structure State.FillFreed (s : State) (c : Camera) (p : Picture) : Prop where
  freed : ∀ f, (s.recv c).fill = some f → (p.slot f.slot).state = .free
  others : ∀ j, (s.recv c).fillSlot ≠ some j → p.slot j = (s.pict c).slot j
  latest : p.latest = (s.pict c).latest
  age : p.age = (s.pict c).age
  freshness : p.freshness = (s.pict c).freshness

theorem State.abandonFill_freed (s : State) (c : Camera) : s.FillFreed c ((s.abandonFill c).pict c) := by
  cases h : (s.recv c).fill with
  | none =>
    rw [State.abandonFill_of_no_fill h]
    exact ⟨fun f hf => by simp [h] at hf, fun _ _ => rfl, rfl, rfl, rfl⟩
  | some f =>
    have pict : (s.abandonFill c).pict c = (s.pict c).abandon f.slot := by simp [State.abandonFill_of_fill h]
    rw [pict]
    refine ⟨fun g hg => ?_, fun j hj => Picture.abandon_slot_of_ne _ fun e => hj ?_, rfl, rfl, rfl⟩
    · rw [h] at hg
      obtain rfl := Option.some.inj hg
      exact Picture.abandon_slot_self _ _
    · simp [Receiver.fillSlot, h, e]

/-! ## LOCKED is left (R11), SEARCH is entered (R6) -/

@[simp] theorem State.leaveLocked_recv (s : State) (c : Camera) :
    (s.leaveLocked c).recv c = ((s.abandonFill c).recv c).leaveLocked := by
  simp [State.leaveLocked]

@[simp] theorem State.leaveLocked_keeps (s : State) (c : Camera) :
    (s.leaveLocked c).pict = (s.abandonFill c).pict ∧ (s.leaveLocked c).reg = s.reg ∧ (s.leaveLocked c).body = s.body := by
  simp [State.leaveLocked]

@[simp] theorem State.dropToSearch_recv (s : State) (c : Camera) :
    (s.dropToSearch c).recv c = (((s.abandonFill c).recv c).leaveLocked).enterSearch := by
  simp [State.dropToSearch]

@[simp] theorem State.dropToSearch_keeps (s : State) (c : Camera) :
    (s.dropToSearch c).pict = (s.abandonFill c).pict ∧ (s.dropToSearch c).reg = s.reg := by
  simp [State.dropToSearch]

@[simp] theorem State.searchTakes_recv (s : State) (c : Camera) (k : Nat) :
    (s.searchTakes c k).recv c = { s.recv c with lock := .confirm, anchor := some k, place := 0 } := by
  simp [State.searchTakes]

@[simp] theorem State.searchTakes_keeps (s : State) (c : Camera) (k : Nat) :
    (s.searchTakes c k).pict = s.pict ∧ (s.searchTakes c k).reg = s.reg := by
  simp [State.searchTakes]

@[simp] theorem State.confirmFails_recv (s : State) (c : Camera) :
    (s.confirmFails c).recv c = (s.recv c).enterSearch := by
  simp [State.confirmFails]

@[simp] theorem State.confirmFails_keeps (s : State) (c : Camera) :
    (s.confirmFails c).pict = s.pict ∧ (s.confirmFails c).reg = s.reg := by
  simp [State.confirmFails]

/-! ## SILENT is left (R5), a return word is sent (R23) -/

@[simp] theorem State.sendWord_recv (s : State) (c : Camera) :
    (s.sendWord c).recv c = { s.recv c with lastWord := some (s.returnWord c), returnTimer := some Config.returnPeriod } := by
  simp [State.sendWord]

@[simp] theorem State.sendWord_keeps (s : State) (c : Camera) :
    (s.sendWord c).pict = s.pict ∧ (s.sendWord c).reg = s.reg := by
  simp [State.sendWord]

/-- R4: the receiver after a record has restarted its silence timer. -/
def Receiver.heard (r : Receiver) : Receiver := { r with silenceTimer := some Config.silencePeriod }

@[simp] theorem Receiver.heard_keeps (r : Receiver) :
    r.heard.lock = r.lock ∧ r.heard.place = r.place ∧ r.heard.anchor = r.anchor ∧ r.heard.slips = r.slips ∧
    r.heard.fill = r.fill ∧ r.heard.mode = r.mode ∧ r.heard.failures = r.failures ∧ r.heard.assembly = r.assembly ∧
    r.heard.nextPos = r.nextPos ∧ r.heard.previous = r.previous ∧ r.heard.accepted = r.accepted ∧
    r.heard.mismatches = r.mismatches ∧ r.heard.notFollowing = r.notFollowing ∧
    r.heard.failedGroups = r.failedGroups ∧ ∀ cycle, r.heard.expects cycle = r.expects cycle :=
  ⟨rfl, rfl, rfl, rfl, rfl, rfl, rfl, rfl, rfl, rfl, rfl, rfl, rfl, rfl, fun _ => rfl⟩

theorem State.wake_of_not_silent {s : State} {c : Camera} (h : (s.recv c).lock ≠ .silent) :
    s.wake c = s.setRecv c (s.recv c).heard := by
  simp [State.wake, h, Receiver.heard]

theorem State.wake_recv {s : State} {c : Camera} (h : (s.recv c).lock ≠ .silent) : (s.wake c).recv c = (s.recv c).heard := by
  simp [State.wake_of_not_silent h]

/-- R5: the receiver of a camera whose first record wakes it from SILENT. -/
def Receiver.woken (r : Receiver) (word : List Byte) : Receiver :=
  { r with
    lock := .search, place := 0, anchor := none, mode := .trial, trial := 0, silenceTimer := some Config.silencePeriod
    returnTimer := some Config.returnPeriod, lastWord := some word }

/-- R5, R23: the word sent is that of SEARCH. -/
theorem State.wake_of_silent {s : State} {c : Camera} (h : (s.recv c).lock = .silent) :
    ∃ u : State, (u.recv c).lock = .search ∧ (s.wake c).recv c = (s.recv c).woken (u.returnWord c) := by
  refine ⟨State.noteCamera c s
    (s.setRecv c ({ s.recv c with silenceTimer := some Config.silencePeriod } : Receiver).enterSearch), ?_, ?_⟩
  · simp [Receiver.enterSearch]
  · simp [State.wake, h, Receiver.woken, Receiver.enterSearch]

@[simp] theorem State.wake_keeps (s : State) (c : Camera) : (s.wake c).pict = s.pict ∧ (s.wake c).reg = s.reg := by
  unfold State.wake
  dsimp only
  split <;> simp

/-! ## Slips (R9, R10) -/

theorem State.slip_recv (s : State) (c : Camera) :
    (s.slip c).recv c =
      { (if ((s.abandonFill c).recv c).assembly = [] then (s.abandonFill c).recv c
          else ((s.abandonFill c).recv c).spoil) with slips := (s.recv c).slips + 1 } := by
  simp [State.slip]

@[simp] theorem State.slip_recv_fields (s : State) (c : Camera) :
    ((s.slip c).recv c).fill = none ∧ ((s.slip c).recv c).lock = (s.recv c).lock ∧
    ((s.slip c).recv c).slips = (s.recv c).slips + 1 := by
  rw [State.slip_recv]
  split <;> simp

@[simp] theorem State.slip_keeps (s : State) (c : Camera) :
    (s.slip c).pict = (s.abandonFill c).pict ∧ (s.slip c).reg = s.reg := by
  simp [State.slip]

/-- R9: a slipped frame-start; the third slip goes through SEARCH to CONFIRM. -/
theorem State.frameSlip_recv (s : State) (c : Camera) (cycle : Nat) :
    (s.frameSlip c cycle).recv c =
      if 3 ≤ (s.recv c).slips + 1 then
        { ((s.slip c).recv c).leaveLocked.enterSearch with lock := .confirm, anchor := some cycle, place := 0 }
      else { (s.slip c).recv c with anchor := some cycle, place := 0 } := by
  have fill : ((State.noteCamera c s (s.slip c)).recv c).fill = none := by simp
  unfold State.frameSlip
  simp only [State.slip_recv_fields]
  split <;> simp [State.abandonFill_of_no_fill fill]

@[simp] theorem State.frameSlip_keeps (s : State) (c : Camera) (cycle : Nat) :
    (s.frameSlip c cycle).pict = (s.abandonFill c).pict ∧ (s.frameSlip c cycle).reg = s.reg := by
  have fill : ((State.noteCamera c s (s.slip c)).recv c).fill = none := by simp
  unfold State.frameSlip
  dsimp only
  split <;> simp [State.abandonFill_of_no_fill fill]

/-- R10: a missing frame-start; the third slip goes to SEARCH. -/
theorem State.missingFrameStart_recv (s : State) (c : Camera) :
    (s.missingFrameStart c).recv c =
      if 3 ≤ (s.recv c).slips + 1 then ((s.slip c).recv c).leaveLocked.enterSearch
      else { (s.slip c).recv c with anchor := none, place := 1 } := by
  have fill : ((State.noteCamera c s (s.slip c)).recv c).fill = none := by simp
  unfold State.missingFrameStart
  simp only [State.slip_recv_fields]
  split <;> simp [State.abandonFill_of_no_fill fill]

@[simp] theorem State.missingFrameStart_keeps (s : State) (c : Camera) :
    (s.missingFrameStart c).pict = (s.abandonFill c).pict ∧ (s.missingFrameStart c).reg = s.reg := by
  have fill : ((State.noteCamera c s (s.slip c)).recv c).fill = none := by simp
  unfold State.missingFrameStart
  dsimp only
  split <;> simp [State.abandonFill_of_no_fill fill]

/-- R20: a slip spoils the status cycle where a fill was open before its place 481, and where a byte was assembled. -/
theorem State.slip_spoiled {s : State} {c : Camera}
    (h : (∃ f, (s.recv c).fill = some f ∧ f.judged = false) ∨ (s.recv c).assembly ≠ []) : ((s.slip c).recv c).Spoiled := by
  have spoiled : ((s.abandonFill c).recv c).Spoiled ∨ ((s.abandonFill c).recv c).assembly ≠ [] := by
    rcases h with ⟨f, hf, hj⟩ | ha
    · exact .inl (State.abandonFill_spoiled hf hj)
    · exact (s.abandonFill_assembly c).imp_right fun e hn => ha (e.symm.trans hn)
  rw [State.slip_recv]
  split
  · rename_i hnil
    exact spoiled.resolve_right fun hne => hne hnil
  · exact ⟨rfl, rfl, rfl⟩

/-! ## A fill is opened (R27) -/

/-- R20, R27: a receiver whose fill is opened into a slot; a cycle position other than the next one spoils the assembly. -/
def Receiver.opened (r : Receiver) (i : SlotIx) (cycle : Nat) : Receiver :=
  { (if cycle = r.nextPos then r else r.spoil) with
    fill := some { slot := i, cycle := cycle, faulted := [], failed := 0, judged := false } }

theorem Receiver.opened_keeps (r : Receiver) (i : SlotIx) (cycle : Nat) :
    (r.opened i cycle).lock = r.lock ∧ (r.opened i cycle).anchor = r.anchor ∧ (r.opened i cycle).place = r.place ∧
    (r.opened i cycle).slips = r.slips := by
  unfold Receiver.opened
  split <;> simp

theorem State.openFill_of_no_fill {s : State} {c : Camera} {i : SlotIx} (cycle : Nat) (h : (s.recv c).fill = none)
    (hi : (s.pict c).lowestFree = some i) :
    s.openFill c cycle =
      (s.setPict c ((s.pict c).openFill i)).setRecv c ((s.recv c).opened i cycle) := by
  simp [State.openFill, State.abandonFill_of_no_fill h, hi, Receiver.opened]

/-- R27: with no fill open the lowest FREE slot takes the fill. -/
theorem State.openFill_lowest {s : State} {c : Camera} (cycle : Nat) (hf : (s.recv c).fill = none)
    (hok : (s.pict c).Ok none) :
    ∃ i, ((s.pict c).slot i).state = .free ∧ (∀ j < i, ((s.pict c).slot j).state ≠ .free) ∧
      (s.openFill c cycle).recv c = (s.recv c).opened i cycle ∧
      (s.openFill c cycle).pict c = (s.pict c).openFill i ∧ (s.openFill c cycle).reg = s.reg := by
  obtain ⟨i, hi⟩ := hok.lowestFree_isSome
  obtain ⟨free, lowest⟩ := Picture.lowestFree_eq_some.mp hi
  refine ⟨i, free, lowest, ?_⟩
  simp [State.openFill_of_no_fill cycle hf hi]

theorem Receiver.expects_iff {r : Receiver} {cycle : Nat} :
    r.expects cycle = true ↔ r.place = 484 ∧ ∃ a, r.anchor = some a ∧ cycle = (a + 1) % 16 := by
  cases h : r.anchor <;> simp [Receiver.expects, h]

/-- R27: in order, a camera never lacks the slot for a fill that a frame-start opens. -/
theorem State.PicturesOk.noSlotFor {s : State} (h : s.PicturesOk) (c : Camera) (cycle : Nat) :
    s.noSlotFor c cycle = false := by
  cases hf : (s.recv c).fill with
  | some f => simp [State.noSlotFor, hf]
  | none =>
    have ok : (s.pict c).Ok none := by simpa [Receiver.fillSlot, hf] using h.slots c
    obtain ⟨i, hi⟩ := ok.lowestFree_isSome
    simp [State.noSlotFor, hi]

theorem State.noSlotFor_of_not_opens {s : State} {c : Camera} {cycle : Nat} (h : (s.recv c).opensFill cycle = false) :
    s.noSlotFor c cycle = false := by
  simp [State.noSlotFor, h]

/-! ## The commands -/

theorem exec_of_rowRecordOf {i : Instr} {c : Camera} {k : RowRecord} (h : rowRecordOf i = some (c, k)) (s : State) :
    exec i s = whileRunning s fun s => s.rowArrives c k := by
  unfold rowRecordOf at h
  split at h
  · rename_i c' packet
    split at h
    · rename_i row body hc
      obtain ⟨rfl, rfl⟩ := Prod.mk.inj (Option.some.inj h)
      simp [exec, execLineRecord, hc]
    · cases h
  · rename_i c' packet
    split at h
    · rename_i row body hc
      obtain ⟨rfl, rfl⟩ := Prod.mk.inj (Option.some.inj h)
      simp [exec, execBlankingRecord, hc]
    · cases h
  · cases h

/-- From s to t camera c has become what it is in u; nothing else has changed but the links. -/
structure State.CameraMoved (s t : State) (c : Camera) (u : State) : Prop where
  recv : t.recv c = u.recv c
  pict : t.pict c = u.pict c
  reg : t.reg c = u.reg c
  cameras : s.OtherCameras t c
  rest : t.besideCameras = s.besideCameras

theorem State.cameraMoved_settle {s u : State} {c : Camera} (h : u.besideCamera c = s.besideCamera c) :
    s.CameraMoved u.settle c u :=
  have beside : u.settle.besideCamera c = s.besideCamera c := (u.besideCamera_settle c).trans h
  ⟨rfl, rfl, rfl, State.otherCameras_of_besideCamera beside, State.besideCameras_of_besideCamera beside⟩

theorem State.CameraMoved.onlyReceiver {s t u : State} {c : Camera} (h : s.CameraMoved t c u)
    (pict : u.pict = s.pict) (reg : u.reg = s.reg) : s.OnlyReceiver t c :=
  ⟨h.pict.trans (congrFun pict c), h.reg.trans (congrFun reg c), h.cameras, h.rest⟩

theorem exec_rowRecord {i : Instr} {c : Camera} {k : RowRecord} {s : State} (h : rowRecordOf i = some (c, k))
    (hr : s.phase = .running) : ∃ t, exec i s = .next t ∧ s.CameraMoved t c (s.rowArrives c k) :=
  ⟨_, (exec_of_rowRecordOf h s).trans (whileRunning_running hr _), State.cameraMoved_settle (s.besideCamera_rowArrives c k)⟩

theorem exec_frameStartRecord {c : Camera} {packet : List Byte} {cycle : Nat} {s : State}
    (h : classify packet = .frameStart cycle) (hr : s.phase = .running) (hf : s.noSlotFor c cycle = false) :
    ∃ t, exec (.frameStartRecord c packet) s = .next t ∧ s.CameraMoved t c ((s.wake c).frameStart c cycle) := by
  refine ⟨_, ?_, State.cameraMoved_settle (u := (s.wake c).frameStart c cycle) (by simp)⟩
  simp [exec, execFrameStartRecord, h, hf, whileRunning_running hr]

theorem exec_silenceTimerExpiry {s : State} (c : Camera) (hr : s.phase = .running) :
    ∃ t, exec (.silenceTimerExpiry c) s = .next t ∧ s.CameraMoved t c (s.fallSilent c) :=
  ⟨_, whileRunning_running hr fun s => s.fallSilent c, State.cameraMoved_settle (by simp)⟩

theorem exec_errorWindowEnd {s : State} (c : Camera) (hr : s.phase = .running) :
    ∃ t, exec (.errorWindowEnd c) s = .next t ∧ s.CameraMoved t c (s.windowEnd c) :=
  ⟨_, whileRunning_running hr fun s => s.windowEnd c, State.cameraMoved_settle (by simp)⟩

theorem exec_returnTimerExpiry {s : State} {c : Camera} (hr : s.phase = .running) (ht : (s.recv c).returnTimer ≠ none) :
    ∃ t, exec (.returnTimerExpiry c) s = .next t ∧ s.CameraMoved t c (s.sendWord c) := by
  refine ⟨_, ?_, State.cameraMoved_settle (u := s.sendWord c) (by simp)⟩
  simp [exec, execReturnTimerExpiry, whileRunning_running hr, ht]

theorem exec_stopTimerExpiry {s : State} {c : Camera} (hr : s.phase = .running) (ht : (s.reg c).stopTimer ≠ none) :
    ∃ t, exec (.stopTimerExpiry c) s = .next t ∧
      s.CameraMoved t c (s.setReg c { s.reg c with duty := 0, stopTimer := none }) := by
  refine ⟨_, ?_, State.cameraMoved_settle (u := s.setReg c { s.reg c with duty := 0, stopTimer := none }) (by simp)⟩
  simp [exec, execStopTimerExpiry, whileRunning_running hr, Regulator.stopExpiry, ht]

end Sys2Proof.Machine
end

section
/-! The expiries of a receiver's timers, the end of an error window, the metering of a frame (O21, O22, O23). -/

namespace Sys2Proof.Machine

/-! ## Silence and error windows -/

theorem State.fallSilent_recv {s : State} {c : Camera} (h : (s.recv c).silenceTimer ≠ none) :
    (s.fallSilent c).recv c = (((s.abandonFill c).recv c).leaveLocked).enterSilent := by
  simp [State.fallSilent, h, State.workHeater]

theorem State.fallSilent_pict {s : State} {c : Camera} (h : (s.recv c).silenceTimer ≠ none) :
    (s.fallSilent c).pict c = (s.abandonFill c).pict c := by
  simp [State.fallSilent, h]

/-- R53: without an accepted record the heater demand is off. -/
theorem State.fallSilent_reg {s : State} {c : Camera} (h : (s.recv c).silenceTimer ≠ none) :
    (s.fallSilent c).reg c = { s.reg c with heater := false } := by
  simp [State.fallSilent, h, State.workHeater, heaterDemand, Receiver.enterSilent]

/-- Settles O21: entry to SILENT clears what it clears, whatever the abandonment of the fill left. -/
theorem silenceExpiryEntersSilent : Obligations.SilenceExpiryEntersSilent := by
  intro s c hrun htimer
  obtain ⟨t, next, moved⟩ := exec_silenceTimerExpiry c hrun
  have freed := s.abandonFill_freed c
  refine ⟨t, next, ?_⟩
  rw [moved.recv, moved.pict, moved.reg, State.fallSilent_recv htimer, State.fallSilent_pict htimer,
    State.fallSilent_reg htimer]
  exact ⟨rfl, (s.abandonFill_recv c).1, rfl, rfl, rfl, rfl, rfl, rfl, rfl, rfl, rfl, rfl, rfl, rfl, rfl, rfl, rfl,
    freed.freed, freed.others, freed.latest, freed.age, freed.freshness, moved.rest, moved.cameras⟩

/-- R13: with at most 1500 failures the window restarts. -/
theorem State.windowEnd_of_le {s : State} {c : Camera} (h : (s.recv c).errorWindow ≠ none)
    (hf : (s.recv c).failures ≤ 1500) :
    (s.windowEnd c).recv c =
        { s.recv c with degraded := decide (60 < (s.recv c).failures), failures := 0, errorWindow := some 1000 } ∧
      (s.windowEnd c).pict c = s.pict c ∧ (s.windowEnd c).reg c = s.reg c := by
  simp [State.windowEnd, h, Nat.not_lt.mpr hf]

/-- R13: above 1500 failures LOCKED is left for SEARCH. -/
theorem State.windowEnd_of_gt {s : State} {c : Camera} (h : (s.recv c).errorWindow ≠ none)
    (hf : 1500 < (s.recv c).failures) : s.windowEnd c = s.dropToSearch c := by
  simp [State.windowEnd, h, hf]

/-- Settles O22, by the two outcomes of the window. -/
theorem errorWindowEndJudgesFailures : Obligations.ErrorWindowEndJudgesFailures := by
  intro s c hrun hwindow
  obtain ⟨t, next, moved⟩ := exec_errorWindowEnd c hrun
  refine ⟨t, next, ?_, moved.rest, moved.cameras, fun hle => ?_, fun hgt => ?_⟩
  · rw [moved.reg]
    rcases Nat.lt_or_ge 1500 (s.recv c).failures with hgt | hle
    · simp [State.windowEnd_of_gt hwindow hgt]
    · exact (State.windowEnd_of_le hwindow hle).2.2
  · obtain ⟨recv, pict, -⟩ := State.windowEnd_of_le hwindow hle
    exact ⟨moved.recv.trans recv, moved.pict.trans pict⟩
  · have freed := s.abandonFill_freed c
    obtain ⟨fill, -, -, -, -, accepted⟩ := s.abandonFill_recv c
    rw [moved.recv, moved.pict, State.windowEnd_of_gt hwindow hgt, State.dropToSearch_recv, (s.dropToSearch_keeps c).1]
    exact ⟨rfl, fill, rfl, rfl, rfl, rfl, rfl, rfl, rfl, rfl, rfl, rfl, rfl, accepted, freed.freed, freed.others,
      freed.latest, freed.age⟩

/-! ## The return word -/

/-- Byte 0 of a return word (R200): the lock state in bits 1-0, the heater demand in bit 6, the search in bit 7. -/
def lockByte (lock : LockState) (heater : Bool) : Byte :=
  byte (lock.code % 4) ||| (if heater then 0x40#8 else 0) |||
    (if lock = .search ∨ lock = .confirm then 0x80#8 else 0)

theorem lockByte_bits (lock : LockState) (heater : Bool) :
    (lockByte lock heater).extractLsb' 0 2 = BitVec.ofNat 2 lock.code ∧ (lockByte lock heater).extractLsb' 2 4 = 0 ∧
    (lockByte lock heater).getLsbD 6 = heater ∧
    (lockByte lock heater).getLsbD 7 = decide (lock = .search ∨ lock = .confirm) := by
  cases lock <;> cases heater <;> decide

theorem Regulator.handedDuty_eq (u : SupplyState) (g : Regulator) :
    g.handedDuty u = if u = .crank then 0 else g.duty := by
  cases u <;> rfl

theorem Regulator.handedHeater_eq (u : SupplyState) (g : Regulator) :
    g.handedHeater u = (decide (u = .normal) && g.heater) := by
  cases u <;> rfl

theorem State.returnWord_eq (s : State) (c : Camera) :
    s.returnWord c =
      let front :=
        [lockByte (s.recv c).lock ((s.reg c).handedHeater s.supply.state), byte (s.recv c).failedGroups,
          byte (s.reg c).gain, byte ((s.reg c).handedDuty s.supply.state)]
      front ++ [crc8 front] := rfl

/-! ## Metering (R45 to R49, R55) -/

/-- R43, R45: where the window begins at a group, the groups used are those whose rows all lie in it. -/
theorem usedGroups_eq (cfg : CameraSettings) (groups : Vector GroupMark 60) (h : cfg.rTop % 8 = 0) :
    usedGroups cfg groups =
      (List.finRange 60).filter fun i =>
        decide (cfg.rTop ≤ 8 * i.val ∧ 8 * i.val + 7 ≤ cfg.rBot ∧ groups[i] = .good) := by
  unfold usedGroups
  refine List.filter_congr fun i _ => Bool.eq_iff_iff.mpr ?_
  simp only [Bool.and_eq_true, decide_eq_true_eq, beq_iff_eq, and_assoc]
  constructor
  · rintro ⟨h1, h2, h3⟩; exact ⟨by omega, by omega, h3⟩
  · rintro ⟨h1, h2, h3⟩; exact ⟨by omega, by omega, h3⟩

/-- R46: the reading of a frame over the groups used. -/
def readingOf (used : List (Fin 60)) (figures : Vector Figures 60) : Reading :=
  { mean := ((used.map fun i => figures[i].luma).sum + 6400 * used.length / 2) / (6400 * used.length)
    glare := decide (6400 * used.length / 16 < (used.map fun i => figures[i].glare).sum) }

theorem meter_eq (cfg : CameraSettings) (groups : Vector GroupMark 60) (figures : Vector Figures 60) :
    meter cfg groups figures =
      if usedGroups cfg groups = [] then none else some (readingOf (usedGroups cfg groups) figures) := by
  simp [meter, readingOf]

/-- R45, R55: a regulator that has read a frame, its streaks cleared. -/
def Regulator.afterReading (g : Regulator) (m : Reading) : Regulator := { g with reading := some m, low := 0, high := 0 }

theorem Regulator.takeFrame_unread {cfg : CameraSettings} {groups : Vector GroupMark 60} (u : SupplyState)
    (figures : Vector Figures 60) (g : Regulator) (h : usedGroups cfg groups = []) :
    g.takeFrame cfg u groups figures = g := by
  simp [Regulator.takeFrame, meter_eq, h]

theorem Regulator.takeFrame_crank {cfg : CameraSettings} {groups : Vector GroupMark 60} (figures : Vector Figures 60)
    (g : Regulator) (h : usedGroups cfg groups ≠ []) :
    g.takeFrame cfg .crank groups figures = g.afterReading (readingOf (usedGroups cfg groups) figures) := by
  simp [Regulator.takeFrame, meter_eq, h, Regulator.clearStreaks, Regulator.afterReading]

theorem Regulator.takeFrame_normal {cfg : CameraSettings} {groups : Vector GroupMark 60} (figures : Vector Figures 60)
    (g : Regulator) (h : usedGroups cfg groups ≠ []) :
    g.takeFrame cfg .normal groups figures =
      ({ g with reading := some (readingOf (usedGroups cfg groups) figures) } : Regulator).classify cfg
        (readingOf (usedGroups cfg groups) figures) := by
  simp [Regulator.takeFrame, meter_eq, h]

/-- R47: the four classes of a reading: in the band, low, high, glare; and what each does to streaks and step. -/
theorem Regulator.classify_cases (cfg : CameraSettings) (g : Regulator) (m : Reading) :
    let read := g.afterReading m
    let low := ¬ m.glare = true ∧ m.mean + cfg.tolerance < cfg.target
    let high := ¬ m.glare = true ∧ cfg.target + cfg.tolerance < m.mean
    let up := low ∧ cfg.upInterval ≤ g.low + 1
    let down := m.glare = true ∨ (high ∧ cfg.downInterval ≤ g.high + 1)
    let u := ({ g with reading := some m } : Regulator).classify cfg m
    (¬ m.glare = true → ¬ low → ¬ high → u = read) ∧ (low → ¬ up → u = { read with low := g.low + 1 }) ∧
    (high → ¬ down → u = { read with high := g.high + 1 }) ∧ (up → u = read.stepUp cfg) ∧ (down → u = read.stepDown cfg) := by
  intro read low high up down u
  have apart : ¬ (m.mean + cfg.tolerance < cfg.target ∧ cfg.target + cfg.tolerance < m.mean) := by omega
  by_cases hg : m.glare = true
  · have hu : u = read.stepDown cfg := by simp [u, Regulator.classify, hg, Regulator.clearStreaks, read, Regulator.afterReading]
    exact ⟨fun h => absurd hg h, fun h => absurd hg h.1, fun h => absurd hg h.1, fun h => absurd hg h.1.1, fun _ => hu⟩
  by_cases hl : m.mean + cfg.tolerance < cfg.target
  · have hh : ¬ high := fun h => apart ⟨hl, h.2⟩
    refine ⟨fun _ h => absurd ⟨hg, hl⟩ h, fun _ hup => ?_, fun h => absurd h hh, fun hup => ?_,
      fun h => h.elim (absurd · hg) fun h => absurd h.1 hh⟩
    · have hn : ¬ cfg.upInterval ≤ g.low + 1 := fun e => hup ⟨⟨hg, hl⟩, e⟩
      simp [u, Regulator.classify, hg, hl, hn, read, Regulator.afterReading]
    · simp [u, Regulator.classify, hg, hl, hup.2, Regulator.clearStreaks, read, Regulator.afterReading]
  by_cases hh : cfg.target + cfg.tolerance < m.mean
  · refine ⟨fun _ _ h => absurd ⟨hg, hh⟩ h, fun h => absurd h.2 hl, fun _ hd => ?_, fun h => absurd h.1.2 hl, fun hd => ?_⟩
    · have hn : ¬ cfg.downInterval ≤ g.high + 1 := fun e => hd (.inr ⟨⟨hg, hh⟩, e⟩)
      simp [u, Regulator.classify, hg, hl, hh, hn, read, Regulator.afterReading]
    · have he := (hd.resolve_left hg).2
      simp [u, Regulator.classify, hg, hl, hh, he, Regulator.clearStreaks, read, Regulator.afterReading]
  · refine ⟨fun _ _ _ => ?_, fun h => absurd h.2 hl, fun h => absurd h.2 hh, fun h => absurd h.1.2 hl,
      fun h => h.elim (absurd · hg) fun h => absurd h.1.2 hh⟩
    simp [u, Regulator.classify, hg, hl, hh, Regulator.clearStreaks, read, Regulator.afterReading]

theorem Regulator.stepUp_cases (cfg : CameraSettings) (g : Regulator) :
    (g.gain < cfg.gainCeiling → g.stepUp cfg = { g with stopTimer := none, gain := g.gain + 1 }) ∧
    (cfg.gainCeiling ≤ g.gain → cfg.fitted = true → g.duty = 0 →
      g.stepUp cfg = { g with stopTimer := none, duty := cfg.startDuty }) ∧
    (cfg.gainCeiling ≤ g.gain → 1 ≤ g.duty → g.duty ≤ 99 →
      g.stepUp cfg = { g with stopTimer := none, duty := min (g.duty + 5) 100 }) ∧
    (cfg.gainCeiling ≤ g.gain → (cfg.fitted = false ∧ g.duty = 0) ∨ 100 ≤ g.duty →
      g.stepUp cfg = { g with stopTimer := none }) := by
  refine ⟨fun h => ?_, fun h hf hd => ?_, fun h h1 h2 => ?_, fun h hd => ?_⟩
  · simp [Regulator.stepUp, h]
  · simp [Regulator.stepUp, Nat.not_lt.mpr h, hf, hd]
  · have h0 : g.duty ≠ 0 := by omega
    simp [Regulator.stepUp, Nat.not_lt.mpr h, h0, h1, h2]
  · have h1 : ¬ (cfg.fitted = true ∧ g.duty = 0) := by
      rintro ⟨hf, h0⟩
      rcases hd with ⟨hf', -⟩ | hd
      · simp [hf] at hf'
      · omega
    have h2 : ¬ (1 ≤ g.duty ∧ g.duty ≤ 99) := by omega
    simp only [Regulator.stepUp, Nat.not_lt.mpr h, h1, h2, if_false]

theorem Regulator.stepDown_cases (cfg : CameraSettings) (g : Regulator) (h5 : 5 ≤ cfg.stopDuty) :
    (cfg.stopDuty < g.duty → g.stepDown cfg = { g with duty := max (g.duty - 5) cfg.stopDuty }) ∧
    (g.duty = cfg.stopDuty → g.stopTimer = none → cfg.stopTime ≠ 0 →
      g.stepDown cfg = { g with stopTimer := some (100 * cfg.stopTime) }) ∧
    (g.duty = cfg.stopDuty → g.stopTimer = none → cfg.stopTime = 0 → g.stepDown cfg = { g with duty := 0 }) ∧
    (g.duty ≤ cfg.stopDuty → g.stopTimer ≠ none → g.stepDown cfg = g) ∧
    (g.duty = 0 → g.stopTimer = none → cfg.gainFloor < g.gain → g.stepDown cfg = { g with gain := g.gain - 1 }) ∧
    (g.duty = 0 → g.stopTimer = none → g.gain ≤ cfg.gainFloor → g.stepDown cfg = g) := by
  refine ⟨fun h => ?_, fun h ht h0 => ?_, fun h ht h0 => ?_, fun h ht => ?_, fun h ht hg => ?_, fun h ht hg => ?_⟩
  · simp [Regulator.stepDown, h]
  · simp [Regulator.stepDown, h, ht, h0, tenths]
  · simp [Regulator.stepDown, h, ht, h0]
  · simp [Regulator.stepDown, Nat.not_lt.mpr h, ht]
  · have hs : ¬ 0 = cfg.stopDuty := by omega
    simp [Regulator.stepDown, h, ht, hs, hg]
  · have hs : ¬ 0 = cfg.stopDuty := by omega
    simp [Regulator.stepDown, h, ht, hs, Nat.not_lt.mpr hg]

/-- R23: the return timer's expiry. -/
theorem returnTimerExpiry_sends {s : State} {c : Camera} (hrun : s.phase = .running) (ht : (s.recv c).returnTimer ≠ none) :
    ∃ t b0, exec (.returnTimerExpiry c) s = .next t ∧
      (let front :=
        [b0, byte (s.recv c).failedGroups, byte (s.reg c).gain,
          byte (if s.supply.state = .crank then 0 else (s.reg c).duty)]
       t.recv c = { s.recv c with lastWord := some (front ++ [crc8 front]), returnTimer := some 33 }) ∧
      b0.extractLsb' 0 2 = BitVec.ofNat 2 (s.recv c).lock.code ∧ b0.extractLsb' 2 4 = 0 ∧
      b0.getLsbD 6 = (decide (s.supply.state = .normal) && (s.reg c).heater) ∧
      b0.getLsbD 7 = decide ((s.recv c).lock = .search ∨ (s.recv c).lock = .confirm) ∧
      t.pict c = s.pict c ∧ t.reg c = s.reg c ∧ t.besideCameras = s.besideCameras ∧ s.OtherCameras t c := by
  obtain ⟨lock, zero, heater, search⟩ := lockByte_bits (s.recv c).lock ((s.reg c).handedHeater s.supply.state)
  obtain ⟨t, next, moved⟩ := exec_returnTimerExpiry hrun ht
  refine ⟨t, _, next, ?_, lock, zero, heater.trans (Regulator.handedHeater_eq _ _), search, ?_, ?_, moved.rest,
    moved.cameras⟩
  · rw [moved.recv]
    simp [State.returnWord_eq, Regulator.handedDuty_eq]
  · rw [moved.pict]; simp
  · rw [moved.reg]; simp

/-- R50: the stop timer's expiry. -/
theorem stopTimerExpiry_stops {s : State} {c : Camera} (hrun : s.phase = .running) (ht : (s.reg c).stopTimer ≠ none) :
    ∃ t, exec (.stopTimerExpiry c) s = .next t ∧ t.reg c = { s.reg c with duty := 0, stopTimer := none } ∧
      t.recv c = s.recv c ∧ t.pict c = s.pict c ∧ t.besideCameras = s.besideCameras ∧ s.OtherCameras t c := by
  obtain ⟨t, next, moved⟩ := exec_stopTimerExpiry hrun ht
  exact ⟨t, next, moved.reg.trans (by simp), moved.recv.trans (by simp), moved.pict.trans (by simp), moved.rest, moved.cameras⟩

/-- Settles O23: the word and the stop by their expiries, the metering by the class of the reading and the step that falls due. -/
theorem returnAndStopTimersExpire : Obligations.ReturnAndStopTimersExpire := by
  refine ⟨⟨fun s c hrun ht => returnTimerExpiry_sends hrun ht, fun s c hrun ht => stopTimerExpiry_stops hrun ht⟩, ?_⟩
  intro cfg supply groups figures g htop used n mean glare u read low high up down
  have husd : usedGroups cfg groups = used := usedGroups_eq cfg groups htop
  refine ⟨fun h => g.takeFrame_unread supply figures (husd.trans h), ?_, ?_⟩
  · rintro hne rfl
    have hu := g.takeFrame_crank (cfg := cfg) (groups := groups) figures (husd ▸ hne)
    rwa [husd] at hu
  · rintro hne rfl
    have hu : u = _ := g.takeFrame_normal (cfg := cfg) (groups := groups) figures (husd ▸ hne)
    rw [husd] at hu
    have hglare : (readingOf used figures).glare = true ↔ glare := decide_eq_true_iff
    obtain ⟨inBand, isLow, isHigh, stepsUp, stepsDown⟩ := Regulator.classify_cases cfg g (readingOf used figures)
    simp only [hglare, ← hu] at inBand isLow isHigh stepsUp stepsDown
    refine ⟨inBand, isLow, isHigh, fun hup => ?_, fun hdown h5 => ?_⟩
    · rw [stepsUp hup]
      exact Regulator.stepUp_cases cfg read
    · rw [stepsDown hdown]
      exact Regulator.stepDown_cases cfg read h5

end Sys2Proof.Machine
end

section
/-! Frame-start records, and line and blanking records at place 484 or outside LOCKED with an anchor (R5 to R10): O15, O16. -/

namespace Sys2Proof.Machine

/-! ## What the order of the pictures says of an open fill -/

theorem State.PicturesOk.no_fill_of_place {s : State} {c : Camera} (h : s.PicturesOk) (hp : (s.recv c).place = 484) :
    (s.recv c).fill = none :=
  Option.eq_none_iff_forall_ne_some.mpr fun f hf => by
    have := (h.fills c f hf).place
    omega

/-- A fill is judged at place 481 and not before. -/
theorem State.PicturesOk.unjudged {s : State} {c : Camera} {f : Fill} (h : s.PicturesOk) (hf : (s.recv c).fill = some f)
    (hp : (s.recv c).place ≠ 481) : f.judged = false :=
  Bool.eq_false_iff.mpr fun e => hp (((h.fills c f hf).judged).mp e)

theorem State.PicturesOk.ok_of_no_fill {s : State} {c : Camera} (h : s.PicturesOk) (hf : (s.recv c).fill = none) :
    (s.pict c).Ok none := by
  simpa [Receiver.fillSlot, hf] using h.slots c

/-! ## Records by the lock state (R6 to R10) -/

section
variable {s : State} {c : Camera} {cycle : Nat}

theorem State.frameStart_search (h : (s.recv c).lock = .search) : s.frameStart c cycle = s.searchTakes c cycle := by
  simp [State.frameStart, h]

theorem State.frameStart_proves (h : (s.recv c).lock = .confirm) (he : (s.recv c).expects cycle = true) :
    s.frameStart c cycle = s.enterLocked c cycle := by
  simp [State.frameStart, h, he]

theorem State.frameStart_restarts (h : (s.recv c).lock = .confirm) (he : (s.recv c).expects cycle = false) :
    s.frameStart c cycle = (s.confirmFails c).searchTakes c cycle := by
  simp [State.frameStart, h, he]

theorem State.frameStart_anchors (h : (s.recv c).lock = .locked) (ha : (s.recv c).anchor = none) :
    s.frameStart c cycle = s.setRecv c { s.recv c with anchor := some cycle, place := 0 } := by
  simp [State.frameStart, h, ha]

theorem State.frameStart_good (h : (s.recv c).lock = .locked) (he : (s.recv c).expects cycle = true) :
    s.frameStart c cycle =
      State.noteCamera c s
        ((s.setRecv c { s.recv c with anchor := some cycle, place := 0, slips := 0 }).openFill c cycle) := by
  obtain ⟨-, a, ha, -⟩ := Receiver.expects_iff.mp he
  simp [State.frameStart, h, he, ha]

theorem State.frameStart_slips (h : (s.recv c).lock = .locked) (ha : (s.recv c).anchor ≠ none)
    (he : (s.recv c).expects cycle = false) : s.frameStart c cycle = s.frameSlip c cycle := by
  simp [State.frameStart, h, he, ha]

variable {k : RowRecord}

theorem State.rowRecord_search (h : (s.recv c).lock = .search) : s.rowRecord c k = s := by
  simp [State.rowRecord, h]

theorem State.rowRecord_confirms (h : (s.recv c).lock = .confirm) (hp : (s.recv c).place ≠ 484) :
    s.rowRecord c k = s.setRecv c { s.recv c with place := (s.recv c).place + 1 } := by
  simp [State.rowRecord, h, hp]

theorem State.rowRecord_fails (h : (s.recv c).lock = .confirm) (hp : (s.recv c).place = 484) :
    s.rowRecord c k = s.confirmFails c := by
  simp [State.rowRecord, h, hp]

theorem State.rowRecord_missing (h : (s.recv c).lock = .locked) (hp : (s.recv c).place = 484) :
    s.rowRecord c k = s.missingFrameStart c := by
  simp [State.rowRecord, h, hp]

theorem State.rowRecord_unanchored (h : (s.recv c).lock = .locked) (hp : (s.recv c).place ≠ 484)
    (ha : (s.recv c).anchor = none) :
    s.rowRecord c k = s.setRecv c { s.recv c with place := (s.recv c).place + 1 } := by
  simp [State.rowRecord, h, hp, ha]

end

/-! ## A fill opened by a frame-start (O15, and the last step of O16's CONFIRM) -/

/-- R27: in u camera c is as in s, but that its receiver had become r and a fill was then opened in the lowest FREE slot i. -/
structure State.FillOpened (s u : State) (c : Camera) (r : Receiver) (cycle : Nat) (i : SlotIx) : Prop where
  free : ((s.pict c).slot i).state = .free
  lowest : ∀ j < i, ((s.pict c).slot j).state ≠ .free
  recv : u.recv c = r.opened i cycle
  pict : u.pict c = (s.pict c).openFill i
  reg : u.reg c = s.reg c

/-- A state u that differs from s in the camera's receiver alone opens a fill, and a notice may follow. -/
theorem State.fillOpened {s u b : State} {c : Camera} {r : Receiver} (cycle : Nat) (hok : s.PicturesOk)
    (hfill : (s.recv c).fill = none) (recv : u.recv c = r) (hr : r.fill = none) (pict : u.pict c = s.pict c)
    (reg : u.reg c = s.reg c) : ∃ i, s.FillOpened (State.noteCamera c b (u.openFill c cycle)) c r cycle i := by
  obtain ⟨i, free, lowest, recv', pict', reg'⟩ := State.openFill_lowest (s := u) (c := c) cycle (recv ▸ hr)
    (pict ▸ hok.ok_of_no_fill hfill)
  exact ⟨i, pict ▸ free, pict ▸ lowest, by simp [recv', recv], by simp [pict', pict], by simp [reg', reg]⟩

/-- R8: a good frame-start in LOCKED. -/
theorem State.frameStart_good_opens {s : State} {c : Camera} {cycle : Nat} (hok : s.PicturesOk)
    (hlock : (s.recv c).lock = .locked) (he : (s.recv c).expects cycle = true) :
    ∃ i, s.FillOpened ((s.wake c).frameStart c cycle) c
      { (s.recv c).heard with anchor := some cycle, place := 0, slips := 0 } cycle i := by
  have hfill := hok.no_fill_of_place (Receiver.expects_iff.mp he).1
  have awake : (s.wake c).recv c = (s.recv c).heard := State.wake_recv (by simp [hlock])
  rw [State.frameStart_good (by simp [awake, hlock]) (by simp [awake, he])]
  exact State.fillOpened cycle hok hfill (by simp [awake]) (by simp [hfill]) (by simp) (by simp)

/-- R7: the frame-start that proves CONFIRM. -/
theorem State.frameStart_proves_opens {s : State} {c : Camera} {cycle : Nat} (hok : s.PicturesOk)
    (hlock : (s.recv c).lock = .confirm) (he : (s.recv c).expects cycle = true) :
    ∃ i, s.FillOpened ((s.wake c).frameStart c cycle) c
      { (s.recv c).heard with
        lock := .locked, anchor := some cycle, place := 0, slips := 0, errorWindow := some Config.errorWindowPeriod
        failures := 0 } cycle i := by
  have hfill := hok.no_fill_of_place (Receiver.expects_iff.mp he).1
  have awake : (s.wake c).recv c = (s.recv c).heard := State.wake_recv (by simp [hlock])
  rw [State.frameStart_proves (by simp [awake, hlock]) (by simp [awake, he])]
  exact State.fillOpened cycle hok hfill (by simp [awake]) (by simp [hfill]) (by simp) (by simp)

/-- Settles O15: the good frame-start takes the branch of R8, and the fill it opens takes the lowest FREE slot. -/
theorem goodFrameStartOpensFill : Obligations.GoodFrameStartOpensFill := by
  intro s c packet cycle a hrun hok hpacket hlock hanchor hplace hcycle
  obtain ⟨i, opened⟩ := State.frameStart_good_opens hok hlock (Receiver.expects_iff.mpr ⟨hplace, a, hanchor, hcycle⟩)
  obtain ⟨t, next, moved⟩ := exec_frameStartRecord hpacket hrun (hok.noSlotFor c cycle)
  obtain ⟨lock, anchor, place, slips⟩ := Receiver.opened_keeps
    { (s.recv c).heard with anchor := some cycle, place := 0, slips := 0 } i cycle
  refine ⟨i, t, next, opened.free, opened.lowest, ?_⟩
  rw [moved.recv, moved.pict, moved.reg, opened.recv, opened.pict, opened.reg]
  exact ⟨lock.trans hlock, anchor, place, slips, rfl, Picture.openFill_slot_self _ _,
    fun j hj => Picture.openFill_slot_of_ne _ hj, rfl, rfl, rfl, rfl, moved.cameras, moved.rest⟩

/-! ## Slips (the first two parts of O16, and its last) -/

theorem State.FillFreed.of_wake {s : State} {c : Camera} {p : Picture} (hl : (s.recv c).lock ≠ .silent)
    (h : (s.wake c).FillFreed c p) : s.FillFreed c p := by
  have awake := State.wake_recv hl
  have pict : (s.wake c).pict c = s.pict c := by simp
  obtain ⟨freed, others, latest, age, freshness⟩ := h
  rw [awake] at freed others
  rw [pict] at others latest age freshness
  exact ⟨freed, others, latest, age, freshness⟩

/-- R9: a frame-start that is not good, in LOCKED with an anchor. -/
theorem State.frameStart_slips_awake {s : State} {c : Camera} {cycle a : Nat} (hlock : (s.recv c).lock = .locked)
    (ha : (s.recv c).anchor = some a) (hn : (s.recv c).place ≠ 484 ∨ cycle ≠ (a + 1) % 16) :
    (s.wake c).frameStart c cycle = (s.wake c).frameSlip c cycle := by
  have awake : (s.wake c).recv c = (s.recv c).heard := State.wake_recv (by simp [hlock])
  have he : (s.recv c).expects cycle = false := Bool.eq_false_iff.mpr fun e => by
    obtain ⟨hp, a', ha', hc⟩ := Receiver.expects_iff.mp e
    rw [ha] at ha'
    obtain rfl := Option.some.inj ha'
    exact hn.elim (absurd hp) (absurd hc)
  exact State.frameStart_slips (by simp [awake, hlock]) (by simp [awake, ha]) (by simp [awake, he])

/-- R10: a line or blanking record at place 484 in LOCKED. -/
theorem State.rowArrives_missing {s : State} {c : Camera} {k : RowRecord} (hlock : (s.recv c).lock = .locked)
    (hp : (s.recv c).place = 484) : s.rowArrives c k = (s.wake c).missingFrameStart c := by
  have awake : (s.wake c).recv c = (s.recv c).heard := State.wake_recv (by simp [hlock])
  exact State.rowRecord_missing (by simp [awake, hlock]) (by simp [awake, hp])

theorem slippedFrameStart {s : State} {c : Camera} {packet : List Byte} {cycle a : Nat}
    (hrun : s.phase = .running) (hok : s.PicturesOk) (hpacket : classify packet = .frameStart cycle)
    (hlock : (s.recv c).lock = .locked) (ha : (s.recv c).anchor = some a)
    (hn : (s.recv c).place ≠ 484 ∨ cycle ≠ (a + 1) % 16) :
    ∃ t, exec (.frameStartRecord c packet) s = .next t ∧ (t.recv c).fill = none ∧ (t.recv c).anchor = some cycle ∧
      (t.recv c).place = 0 ∧
      ((s.recv c).slips + 1 < 3 → (t.recv c).lock = .locked ∧ (t.recv c).slips = (s.recv c).slips + 1) ∧
      (3 ≤ (s.recv c).slips + 1 →
        (t.recv c).lock = .confirm ∧ (t.recv c).slips = 0 ∧ (t.recv c).mode = .trial ∧ (t.recv c).trial = 0) ∧
      (∀ f, (s.recv c).fill = some f → ((t.pict c).slot f.slot).state = .free) ∧
      (∀ j, (s.recv c).fillSlot ≠ some j → (t.pict c).slot j = (s.pict c).slot j) ∧
      (t.pict c).latest = (s.pict c).latest ∧ (t.pict c).age = (s.pict c).age ∧ t.reg c = s.reg c ∧ s.OtherCameras t c ∧
      t.besideCameras = s.besideCameras := by
  have hl : (s.recv c).lock ≠ .silent := by simp [hlock]
  obtain ⟨t, next, moved⟩ := exec_frameStartRecord hpacket hrun (hok.noSlotFor c cycle)
  rw [State.frameStart_slips_awake hlock ha hn] at moved
  have freed := ((s.wake c).abandonFill_freed c).of_wake hl
  obtain ⟨fill, lock, slips⟩ := (s.wake c).slip_recv_fields c
  have recv := moved.recv.trans ((s.wake c).frameSlip_recv c cycle)
  have heardLock : ((s.wake c).recv c).lock = .locked := by simp [State.wake_recv hl, hlock]
  have heardSlips : ((s.wake c).recv c).slips = (s.recv c).slips := by simp [State.wake_recv hl]
  rw [heardSlips] at recv slips
  refine ⟨t, next, ?_⟩
  rw [recv, moved.pict, moved.reg, ((s.wake c).frameSlip_keeps c cycle).1]
  refine ⟨?_, ?_, ?_, fun h => ?_, fun h => ?_, freed.freed, freed.others, freed.latest, freed.age, by simp,
    moved.cameras, moved.rest⟩
  · split
    · exact fill
    · exact fill
  · split <;> rfl
  · split <;> rfl
  · rw [if_neg (Nat.not_le.mpr h)]; exact ⟨lock.trans heardLock, slips⟩
  · rw [if_pos h]; exact ⟨rfl, rfl, rfl, rfl⟩

theorem missedFrameStart {s : State} {i : Instr} {c : Camera} {k : RowRecord} (hi : rowRecordOf i = some (c, k))
    (hrun : s.phase = .running) (hlock : (s.recv c).lock = .locked) (hp : (s.recv c).place = 484) :
    ∃ t, exec i s = .next t ∧ (t.recv c).fill = none ∧ (t.recv c).anchor = none ∧
      ((s.recv c).slips + 1 < 3 →
        (t.recv c).lock = .locked ∧ (t.recv c).slips = (s.recv c).slips + 1 ∧ (t.recv c).place = 1) ∧
      (3 ≤ (s.recv c).slips + 1 → (t.recv c).lock = .search ∧ (t.recv c).slips = 0 ∧ (t.recv c).mode = .trial) ∧
      (t.pict c).latest = (s.pict c).latest ∧ (t.pict c).age = (s.pict c).age ∧ t.reg c = s.reg c ∧ s.OtherCameras t c ∧
      t.besideCameras = s.besideCameras := by
  have hl : (s.recv c).lock ≠ .silent := by simp [hlock]
  obtain ⟨t, next, moved⟩ := exec_rowRecord hi hrun
  rw [State.rowArrives_missing hlock hp] at moved
  have freed := ((s.wake c).abandonFill_freed c).of_wake hl
  obtain ⟨fill, lock, slips⟩ := (s.wake c).slip_recv_fields c
  have recv := moved.recv.trans ((s.wake c).missingFrameStart_recv c)
  have heardLock : ((s.wake c).recv c).lock = .locked := by simp [State.wake_recv hl, hlock]
  have heardSlips : ((s.wake c).recv c).slips = (s.recv c).slips := by simp [State.wake_recv hl]
  rw [heardSlips] at recv slips
  refine ⟨t, next, ?_⟩
  rw [recv, moved.pict, moved.reg, ((s.wake c).missingFrameStart_keeps c).1]
  refine ⟨?_, ?_, fun h => ?_, fun h => ?_, freed.latest, freed.age, by simp, moved.cameras, moved.rest⟩
  · split
    · exact fill
    · exact fill
  · split <;> rfl
  · rw [if_neg (by omega)]; exact ⟨lock.trans heardLock, slips, rfl⟩
  · rw [if_pos h]; exact ⟨rfl, rfl, rfl⟩

/-- R20: either slip spoils the status cycle, where a fill was open before its place 481 or a byte was assembled. -/
theorem slips_spoil {s : State} {c : Camera} (cycle : Nat) (hl : (s.recv c).lock ≠ .silent)
    (h : (∃ f, (s.recv c).fill = some f ∧ f.judged = false) ∨ (s.recv c).assembly ≠ []) :
    (((s.wake c).frameSlip c cycle).recv c).Spoiled ∧ (((s.wake c).missingFrameStart c).recv c).Spoiled := by
  have spoiled : (((s.wake c).slip c).recv c).Spoiled := State.slip_spoiled (by simpa [State.wake_recv hl] using h)
  constructor
  · rw [State.frameSlip_recv]
    split
    · exact ⟨rfl, rfl, rfl⟩
    · exact spoiled
  · rw [State.missingFrameStart_recv]
    split
    · exact ⟨rfl, rfl, rfl⟩
    · exact spoiled

/-! ## The frame lock outside LOCKED with an anchor (the middle parts of O16) -/

/-- R200: the word sent in SEARCH. -/
theorem State.returnWord_search {u : State} {c : Camera} (h : (u.recv c).lock = .search) :
    (u.returnWord c).length = 5 ∧ (byteAt (u.returnWord c) 0).extractLsb' 0 2 = 1 ∧
    (byteAt (u.returnWord c) 0).getLsbD 7 = true := by
  obtain ⟨lock, -, -, search⟩ := lockByte_bits (u.recv c).lock ((u.reg c).handedHeater u.supply.state)
  refine ⟨rfl, ?_, ?_⟩
  · exact lock.trans (by rw [h]; rfl)
  · exact search.trans (by simp [h])

section
variable {s : State} {c : Camera} {i : Instr} {k : RowRecord} {packet : List Byte} {cycle : Nat}

theorem rowRecord_in_silent (hi : rowRecordOf i = some (c, k)) (hrun : s.phase = .running)
    (hl : (s.recv c).lock = .silent) :
    ∃ t w, exec i s = .next t ∧ s.OnlyReceiver t c ∧ t.recv c = (s.recv c).woken w ∧
      w.length = 5 ∧ (byteAt w 0).extractLsb' 0 2 = 1 ∧ (byteAt w 0).getLsbD 7 = true := by
  obtain ⟨u, hu, awake⟩ := State.wake_of_silent hl
  have done : s.rowArrives c k = s.wake c := State.rowRecord_search (by rw [awake]; rfl)
  obtain ⟨t, next, moved⟩ := exec_rowRecord hi hrun
  rw [done] at moved
  exact ⟨t, u.returnWord c, next, moved.onlyReceiver (by simp) (by simp), moved.recv.trans awake, State.returnWord_search hu⟩

theorem rowRecord_in_search (hi : rowRecordOf i = some (c, k)) (hrun : s.phase = .running)
    (hl : (s.recv c).lock = .search) :
    ∃ t, exec i s = .next t ∧ s.OnlyReceiver t c ∧ t.recv c = (s.recv c).heard := by
  have awake : (s.wake c).recv c = (s.recv c).heard := State.wake_recv (by simp [hl])
  have done : s.rowArrives c k = s.wake c := State.rowRecord_search (by simp [awake, hl])
  obtain ⟨t, next, moved⟩ := exec_rowRecord hi hrun
  rw [done] at moved
  exact ⟨t, next, moved.onlyReceiver (by simp) (by simp), moved.recv.trans (by simp [awake])⟩

theorem rowRecord_counts_confirm (hi : rowRecordOf i = some (c, k)) (hrun : s.phase = .running)
    (hl : (s.recv c).lock = .confirm) (hp : (s.recv c).place ≠ 484) :
    ∃ t, exec i s = .next t ∧ s.OnlyReceiver t c ∧
      t.recv c = { (s.recv c).heard with place := (s.recv c).place + 1 } := by
  have awake : (s.wake c).recv c = (s.recv c).heard := State.wake_recv (by simp [hl])
  have done : s.rowArrives c k = _ := State.rowRecord_confirms (by simp [awake, hl]) (by simp [awake, hp])
  obtain ⟨t, next, moved⟩ := exec_rowRecord hi hrun
  rw [done] at moved
  exact ⟨t, next, moved.onlyReceiver (by simp) (by simp), moved.recv.trans (by simp [awake])⟩

theorem rowRecord_fails_confirm (hi : rowRecordOf i = some (c, k)) (hrun : s.phase = .running)
    (hl : (s.recv c).lock = .confirm) (hp : (s.recv c).place = 484) :
    ∃ t, exec i s = .next t ∧ s.OnlyReceiver t c ∧ t.recv c = (s.recv c).heard.enterSearch := by
  have awake : (s.wake c).recv c = (s.recv c).heard := State.wake_recv (by simp [hl])
  have done : s.rowArrives c k = _ := State.rowRecord_fails (by simp [awake, hl]) (by simp [awake, hp])
  obtain ⟨t, next, moved⟩ := exec_rowRecord hi hrun
  rw [done] at moved
  exact ⟨t, next, moved.onlyReceiver (by simp) (by simp), moved.recv.trans (by simp [awake])⟩

theorem rowRecord_counts_unanchored (hi : rowRecordOf i = some (c, k)) (hrun : s.phase = .running)
    (hl : (s.recv c).lock = .locked) (ha : (s.recv c).anchor = none) (hp : (s.recv c).place ≠ 484) :
    ∃ t, exec i s = .next t ∧ s.OnlyReceiver t c ∧
      t.recv c = { (s.recv c).heard with place := (s.recv c).place + 1 } := by
  have awake : (s.wake c).recv c = (s.recv c).heard := State.wake_recv (by simp [hl])
  have done : s.rowArrives c k = _ :=
    State.rowRecord_unanchored (by simp [awake, hl]) (by simp [awake, hp]) (by simp [awake, ha])
  obtain ⟨t, next, moved⟩ := exec_rowRecord hi hrun
  rw [done] at moved
  exact ⟨t, next, moved.onlyReceiver (by simp) (by simp), moved.recv.trans (by simp [awake])⟩

theorem frameStart_in_silent (hc : classify packet = .frameStart cycle) (hrun : s.phase = .running)
    (hl : (s.recv c).lock = .silent) :
    ∃ t w, exec (.frameStartRecord c packet) s = .next t ∧ s.OnlyReceiver t c ∧
      t.recv c = { (s.recv c).woken w with lock := .confirm, anchor := some cycle, place := 0 } := by
  obtain ⟨u, -, awake⟩ := State.wake_of_silent hl
  have done : (s.wake c).frameStart c cycle = _ := State.frameStart_search (by rw [awake]; rfl)
  obtain ⟨t, next, moved⟩ := exec_frameStartRecord hc hrun
    (State.noSlotFor_of_not_opens (c := c) (by simp [Receiver.opensFill, hl]))
  rw [done] at moved
  exact ⟨t, u.returnWord c, next, moved.onlyReceiver (by simp) (by simp), moved.recv.trans (by simp [awake])⟩

theorem frameStart_in_search (hc : classify packet = .frameStart cycle) (hrun : s.phase = .running)
    (hl : (s.recv c).lock = .search) :
    ∃ t, exec (.frameStartRecord c packet) s = .next t ∧ s.OnlyReceiver t c ∧
      t.recv c = { (s.recv c).heard with lock := .confirm, anchor := some cycle, place := 0 } := by
  have awake : (s.wake c).recv c = (s.recv c).heard := State.wake_recv (by simp [hl])
  have done : (s.wake c).frameStart c cycle = _ := State.frameStart_search (by simp [awake, hl])
  obtain ⟨t, next, moved⟩ := exec_frameStartRecord hc hrun
    (State.noSlotFor_of_not_opens (c := c) (by simp [Receiver.opensFill, hl]))
  rw [done] at moved
  exact ⟨t, next, moved.onlyReceiver (by simp) (by simp), moved.recv.trans (by simp [awake])⟩

theorem frameStart_restarts_confirm (hc : classify packet = .frameStart cycle) (hrun : s.phase = .running)
    (hl : (s.recv c).lock = .confirm) (he : (s.recv c).expects cycle = false) :
    ∃ t, exec (.frameStartRecord c packet) s = .next t ∧ s.OnlyReceiver t c ∧
      t.recv c = { (s.recv c).heard.enterSearch with lock := .confirm, anchor := some cycle, place := 0 } := by
  have awake : (s.wake c).recv c = (s.recv c).heard := State.wake_recv (by simp [hl])
  have done : (s.wake c).frameStart c cycle = _ := State.frameStart_restarts (by simp [awake, hl]) (by simp [awake, he])
  obtain ⟨t, next, moved⟩ := exec_frameStartRecord hc hrun
    (State.noSlotFor_of_not_opens (c := c) (by simp [Receiver.opensFill, he]))
  rw [done] at moved
  exact ⟨t, next, moved.onlyReceiver (by simp) (by simp), moved.recv.trans (by simp [awake])⟩

theorem frameStart_anchors_locked (hc : classify packet = .frameStart cycle) (hrun : s.phase = .running)
    (hl : (s.recv c).lock = .locked) (ha : (s.recv c).anchor = none) :
    ∃ t, exec (.frameStartRecord c packet) s = .next t ∧ s.OnlyReceiver t c ∧
      t.recv c = { (s.recv c).heard with anchor := some cycle, place := 0 } := by
  have awake : (s.wake c).recv c = (s.recv c).heard := State.wake_recv (by simp [hl])
  have done : (s.wake c).frameStart c cycle = _ := State.frameStart_anchors (by simp [awake, hl]) (by simp [awake, ha])
  obtain ⟨t, next, moved⟩ := exec_frameStartRecord hc hrun
    (State.noSlotFor_of_not_opens (c := c) (by simp [Receiver.opensFill, Receiver.expects, ha]))
  rw [done] at moved
  exact ⟨t, next, moved.onlyReceiver (by simp) (by simp), moved.recv.trans (by simp [awake])⟩

end

/-- Settles O16, record by record and lock state by lock state. -/
theorem frameSlipsAbandonTheFill : Obligations.FrameSlipsAbandonTheFill := by
  refine ⟨⟨fun s c packet cycle a hrun hok hpacket hlock ha hn => slippedFrameStart hrun hok hpacket hlock ha hn,
    fun s i c k hi hrun _ hlock hp => missedFrameStart hi hrun hlock hp⟩, ?_, ?_, ?_⟩
  · intro s i c k hi hrun r
    exact ⟨fun hl => rowRecord_in_silent hi hrun hl, fun hl => rowRecord_in_search hi hrun hl,
      fun hl hp => rowRecord_counts_confirm hi hrun hl (Nat.ne_of_lt hp), fun hl hp => rowRecord_fails_confirm hi hrun hl hp,
      fun hl ha hp => rowRecord_counts_unanchored hi hrun hl ha (Nat.ne_of_lt hp)⟩
  · intro s c packet cycle hrun hc r proves
    have proves_iff : r.expects cycle = true ↔ proves := Receiver.expects_iff
    refine ⟨fun hl => frameStart_in_silent hc hrun hl, fun hl => frameStart_in_search hc hrun hl, fun hl hn => ?_,
      fun hl hp hok => ?_, fun hl ha => frameStart_anchors_locked hc hrun hl ha⟩
    · obtain ⟨t, next, only, recv⟩ := frameStart_restarts_confirm hc hrun hl
        (Bool.eq_false_iff.mpr fun e => hn (proves_iff.mp e))
      refine ⟨t, next, only, recv.trans ?_⟩
      rw [← hl]; rfl
    · obtain ⟨i, opened⟩ := State.frameStart_proves_opens hok hl (proves_iff.mpr hp)
      obtain ⟨t, next, moved⟩ := exec_frameStartRecord hc hrun (hok.noSlotFor c cycle)
      refine ⟨i, t, next, opened.free, opened.lowest, ?_⟩
      rw [moved.recv, moved.pict, moved.reg, opened.recv, opened.pict, opened.reg]
      refine ⟨?_, Picture.openFill_slot_self _ _, fun j hj => Picture.openFill_slot_of_ne _ hj, rfl, rfl, rfl,
        moved.cameras, moved.rest⟩
      by_cases hn : cycle = (s.recv c).nextPos
      · simp [Receiver.opened, Receiver.heard, r, hn]
      · simp [Receiver.opened, Receiver.heard, Receiver.spoil, r, hn]
  · intro s t i c hrun hok hlock hi next spoils
    have hl : (s.recv c).lock ≠ .silent := by simp [hlock]
    rcases hi with ⟨packet, cycle, a, rfl, hc, ha, hn⟩ | ⟨k, hk, hp⟩
    · obtain ⟨u, next', moved⟩ := exec_frameStartRecord hc hrun (hok.noSlotFor c cycle)
      obtain rfl := Host.Outcome.next.inj (next.symm.trans next')
      rw [State.frameStart_slips_awake hlock ha hn] at moved
      rw [moved.recv]
      exact (slips_spoil cycle hl spoils).1
    · obtain ⟨u, next', moved⟩ := exec_rowRecord hk hrun
      obtain rfl := Host.Outcome.next.inj (next.symm.trans next')
      rw [State.rowArrives_missing hlock hp] at moved
      rw [moved.recv]
      exact (slips_spoil 0 hl spoils).2

end Sys2Proof.Machine
end

section
/-! Line and blanking records in the line places of a frame, and the verdicts on groups 0 to 58 (R2, R14, R15, R18, R31): O17, O18. -/

namespace Sys2Proof.Machine

/-! ## A copy starts (R31) -/

@[simp] theorem Picture.startCopy_keeps (p : Picture) (g : Nat) (i : SlotIx) :
    (p.startCopy g i).latest = p.latest ∧ (p.startCopy g i).age = p.age ∧ (p.startCopy g i).freshness = p.freshness := by
  unfold Picture.startCopy Picture.hold
  dsimp only
  split <;> simp

theorem Picture.startCopy_copy (p : Picture) (g : Nat) (i : SlotIx) :
    (p.startCopy g i).copy = some { group := g, source := p.latest, target := some i } := rfl

theorem Picture.hold_slot (p : Picture) (i j : SlotIx) (k : Holder) :
    (p.hold i k).slot j = if j = i then { p.slot i with holders := (p.slot i).holders.put k true } else p.slot j :=
  p.slot_setSlot i j _

/-- R31: LATEST is held, the group of the target is marked CONCEALED, and nothing else of a slot changes. -/
theorem Picture.startCopy_slot (p : Picture) (g : Nat) (i j : SlotIx) :
    (p.startCopy g i).slot j =
      { p.slot j with
        holders := if p.latest = some j then (p.slot j).holders.put .copy true else (p.slot j).holders
        groups := if j = i then ((p.slot j).mark g .concealed).groups else (p.slot j).groups } := by
  have unmarked : ∀ (q : Picture) (k : Option Copy), ({ q with copy := k } : Picture).slot j = q.slot j := fun _ _ => rfl
  simp only [Picture.startCopy, unmarked]
  cases hl : p.latest with
  | none => by_cases hj : j = i <;> simp [Picture.slot_setSlot, hj, PicSlot.mark]
  | some l =>
    by_cases hj : j = i
    · subst hj
      by_cases h : j = l
      · simp [Picture.hold_slot, h, PicSlot.mark]
      · simp [Picture.hold_slot, h, Ne.symm h, PicSlot.mark]
    · by_cases h : j = l
      · simp [Picture.slot_setSlot_of_ne, Picture.hold_slot, h ▸ hj, h]
      · simp [Picture.slot_setSlot_of_ne, Picture.hold_slot, hj, h, Ne.symm h]

/-! ## A verdict (R14, R15, R18) -/

section
variable {s : State} {c : Camera} {f : Fill} {g : Nat} {check : Byte}

theorem State.groupPasses_iff :
    s.groupPasses c f g check = true ↔ f.faulted.contains g = false ∧ crc8 (((s.pict c).slot f.slot).group g) = check := by
  simp [State.groupPasses]

theorem State.judgeGroup_fails (hm : (s.recv c).mode = .checked) (hp : s.groupPasses c f g check = false) :
    s.judgeGroup c f g check = s.failGroup c f g := by
  simp [State.judgeGroup, hm, hp]

/-- R15: any other verdict leaves all but the mode, which a pass in TRIAL makes CHECKED. -/
theorem State.judgeGroup_stays (h : s.groupPasses c f g check = true ∨ (s.recv c).mode ≠ .checked) :
    s.judgeGroup c f g check =
      s.setRecv c
        { s.recv c with
          mode := if s.groupPasses c f g check = true ∧ (s.recv c).mode = .trial then .checked else (s.recv c).mode } := by
  have same : ({ s.recv c with mode := (s.recv c).mode } : Receiver) = s.recv c := rfl
  cases hm : (s.recv c).mode with
  | trial =>
    by_cases hp : s.groupPasses c f g check = true
    · simp [State.judgeGroup, hm, hp]
    · rw [hm] at same; simp [State.judgeGroup, hm, hp, same]
  | checked =>
    have hp : s.groupPasses c f g check = true := h.resolve_right (absurd hm)
    rw [hm] at same
    simp [State.judgeGroup, hm, hp, same]
  | unchecked => rw [hm] at same; simp [State.judgeGroup, hm, same]

theorem State.failGroup_recv (s : State) (c : Camera) (f : Fill) (g : Nat) :
    (s.failGroup c f g).recv c =
      { s.recv c with failures := (s.recv c).failures + 1, fill := some { f with failed := f.failed + 1 } } := by
  simp [State.failGroup]

theorem State.failGroup_pict (s : State) (c : Camera) (f : Fill) (g : Nat) :
    (s.failGroup c f g).pict c = (s.pict c).startCopy g f.slot := by
  simp [State.failGroup]

end

/-! ## A record that LOCKED counts towards its frame (R1) -/

/-- The state in which a record has been heard and its place counted. -/
def State.counted (s : State) (c : Camera) : State :=
  s.setRecv c { (s.recv c).heard with place := (s.recv c).place + 1 }

@[simp] theorem State.counted_recv (s : State) (c : Camera) :
    (s.counted c).recv c = { (s.recv c).heard with place := (s.recv c).place + 1 } := by
  simp [State.counted]

@[simp] theorem State.counted_keeps (s : State) (c : Camera) :
    (s.counted c).pict = s.pict ∧ (s.counted c).reg = s.reg ∧ (s.counted c).body = s.body ∧
    (s.counted c).supply = s.supply := by
  simp [State.counted]

theorem State.rowArrives_takes {s : State} {c : Camera} (k : RowRecord) (hl : (s.recv c).lock = .locked)
    (ha : (s.recv c).anchor.isSome = true) (hp : (s.recv c).place ≠ 484) :
    s.rowArrives c k =
      State.noteCamera c (s.counted c) ((s.counted c).takePlace c ((s.recv c).place + 1) k) := by
  have hn : (s.recv c).anchor ≠ none := fun e => by simp [e] at ha
  simp [State.rowArrives, State.rowRecord, State.wake_of_not_silent (s := s) (c := c) (by simp [hl]), hl, hp, hn,
    State.counted]

theorem State.takePlace_no_fill {s : State} {c : Camera} {n : Nat} {k : RowRecord} (h : (s.recv c).fill = none) :
    s.takePlace c n k = s := by
  simp [State.takePlace, h]

theorem State.takePlace_line {s : State} {c : Camera} {n : Nat} {k : RowRecord} {f : Fill}
    (h : (s.recv c).fill = some f) (hn : n + 1 ≤ 480) : s.takePlace c (n + 1) k = s.lineInFill c n k := by
  simp [State.takePlace, h, hn]

/-- A fill that has not been judged is still open when a copy in flight finishes. -/
theorem State.finishCopy_unjudged {s : State} {c : Camera} {f : Fill} (h : (s.recv c).fill = some f)
    (hj : f.judged = false) : s.finishCopy c = s.setPict c (s.pict c).finishCopy := by
  cases hk : (s.pict c).copy with
  | none => simp [State.finishCopy, hk, Picture.finishCopy_of_no_copy hk]
  | some k => simp [State.finishCopy, hk, h, hj]

/-! ## A row written (R2) -/

/-- A fill after the record of row r, its group marked where the record has a sequence fault. -/
def Fill.afterRow (f : Fill) (r : Nat) (k : RowRecord) : Fill := if k.faulty r then f.fault (r / 8) else f

theorem Fill.afterRow_keeps (f : Fill) (r : Nat) (k : RowRecord) :
    (f.afterRow r k).slot = f.slot ∧ (f.afterRow r k).failed = f.failed := by
  unfold Fill.afterRow
  split <;> exact ⟨rfl, rfl⟩

theorem Fill.afterRow_faulted (f : Fill) (r : Nat) (k : RowRecord) :
    (f.afterRow r k).faulted =
      if k.row ≠ r ∨ k.isLine = false ∨ k.body.length < 1601 then (r / 8) :: f.faulted else f.faulted := by
  have hiff : k.faulty r = true ↔ k.row ≠ r ∨ k.isLine = false ∨ k.body.length < 1601 := by
    simp [RowRecord.faulty, lineShort, or_assoc]
  unfold Fill.afterRow
  by_cases h : k.row ≠ r ∨ k.isLine = false ∨ k.body.length < 1601
  · rw [if_pos h, if_pos (hiff.mpr h)]; rfl
  · rw [if_neg h, if_neg fun e => h (hiff.mp e)]

theorem Fill.afterRow_contains (f : Fill) {r g : Nat} (k : RowRecord) (h : g ≠ r / 8) :
    (f.afterRow r k).faulted.contains g = f.faulted.contains g := by
  unfold Fill.afterRow
  split
  · simp [Fill.fault, h]
  · rfl

/-- A verdict falls due with the record of row r: the row begins a group after the first (R18). -/
abbrev verdictDue (r : Nat) : Prop := r % 8 = 0 ∧ 8 ≤ r

section
variable {s : State} {c : Camera} {f : Fill} {r : Nat} {k : RowRecord}

theorem State.writeRow_recv : (s.writeRow c f r k).recv c = { s.recv c with fill := some (f.afterRow r k) } := by
  simp [State.writeRow, Fill.afterRow]

theorem State.writeRow_pict :
    (s.writeRow c f r k).pict c =
      (s.pict c).setSlot f.slot (((s.pict c).slot f.slot).writeRow r k.pixels) := by
  simp [State.writeRow]

theorem State.writeRow_reg : (s.writeRow c f r k).reg = s.reg := by
  simp [State.writeRow]

theorem State.lineInFill_not_due (hf : (s.recv c).fill = some f) (hd : ¬ verdictDue r) :
    s.lineInFill c r k = s.writeRow c f r k := by
  have hd' : (r % 8 == 0 && decide (8 ≤ r)) = false := by simpa [verdictDue] using hd
  simp [State.lineInFill, hd', hf]

theorem State.lineInFill_due (hf : (s.recv c).fill = some f) (hj : f.judged = false) (hd : verdictDue r) :
    s.lineInFill c r k =
      ((s.setPict c (s.pict c).finishCopy).writeRow c f r k).judgeGroup c (f.afterRow r k) (r / 8 - 1) k.check := by
  have hd' : (r % 8 == 0 && decide (8 ≤ r)) = true := by simpa [verdictDue] using hd
  simp [State.lineInFill, hd', State.finishCopy_unjudged hf hj, hf, State.writeRow_recv]

/-- The row just written is of another group than the one judged, which passes or fails as it stood. -/
theorem State.groupPasses_writeRow (hd : verdictDue r)
    (hwf : Memory.wf Config.blankPixel ((s.pict c).slot f.slot).pixels) :
    (s.writeRow c f r k).groupPasses c (f.afterRow r k) (r / 8 - 1) k.check =
      (!f.faulted.contains (r / 8 - 1) && crc8 (((s.pict c).slot f.slot).group (r / 8 - 1)) == k.check) := by
  obtain ⟨-, h8⟩ := hd
  have other : r / 8 - 1 ≠ r / 8 := by omega
  rw [State.groupPasses, State.writeRow_pict, (f.afterRow_keeps r k).1, Picture.slot_setSlot_self,
    PicSlot.group_writeRow _ k (Ne.symm other) hwf, Fill.afterRow_contains f k other]

end

/-! ## What a verdict leaves of the rows -/

/-- The picture memories p and q agree on the bytes, the states and the figures of every slot. -/
def Picture.SameRows (p q : Picture) : Prop :=
  ∀ j, (p.slot j).pixels = (q.slot j).pixels ∧ (p.slot j).state = (q.slot j).state ∧
    (p.slot j).figures = (q.slot j).figures

theorem Picture.startCopy_sameRows (p : Picture) (g : Nat) (i : SlotIx) : (p.startCopy g i).SameRows p := by
  intro j
  rw [Picture.startCopy_slot]
  exact ⟨rfl, rfl, rfl⟩

theorem State.judgeGroup_sameRows (s : State) (c : Camera) (f : Fill) (g : Nat) (check : Byte) :
    ((s.judgeGroup c f g check).pict c).SameRows (s.pict c) := by
  by_cases h : s.groupPasses c f g check = true ∨ (s.recv c).mode ≠ .checked
  · rw [State.judgeGroup_stays h]
    exact fun _ => ⟨rfl, rfl, rfl⟩
  · obtain ⟨hp, hm⟩ := not_or.mp h
    rw [State.judgeGroup_fails (Classical.not_not.mp hm) (by simpa using hp), State.failGroup_pict]
    exact Picture.startCopy_sameRows _ _ _

theorem State.judgeGroup_reg (s : State) (c : Camera) (f : Fill) (g : Nat) (check : Byte) :
    (s.judgeGroup c f g check).reg = s.reg := by
  unfold State.judgeGroup State.failGroup
  repeat' split
  all_goals simp

/-- R18: a verdict leaves the place and the fill, but that a failing group in CHECKED mode is counted in it. -/
theorem State.judgeGroup_recv {s : State} {c : Camera} {f : Fill} (g : Nat) (check : Byte)
    (hf : (s.recv c).fill = some f) :
    ((s.judgeGroup c f g check).recv c).place = (s.recv c).place ∧
    ∃ n, ((s.judgeGroup c f g check).recv c).fill = some { f with failed := n } ∧
      ((s.recv c).mode = .checked → n = if s.groupPasses c f g check = true then f.failed else f.failed + 1) := by
  by_cases h : s.groupPasses c f g check = true ∨ (s.recv c).mode ≠ .checked
  · rw [State.judgeGroup_stays h, State.recv_setRecv_self]
    exact ⟨rfl, f.failed, hf, fun hm => (if_pos (h.resolve_right (absurd hm))).symm⟩
  · obtain ⟨hp, hm⟩ := not_or.mp h
    rw [State.judgeGroup_fails (Classical.not_not.mp hm) (by simpa using hp), State.failGroup_recv]
    exact ⟨rfl, f.failed + 1, rfl, fun _ => (if_neg hp).symm⟩

/-! ## A record in a line place (O17) -/

/-- The picture memory in which a record in the line place of row r finds its slot: a copy in flight has finished where a verdict is
due (R18; log 7). -/
def Picture.atRow (p : Picture) (r : Nat) : Picture := if verdictDue r then p.finishCopy else p

/-- What a record in the line place of row r does with a fill open. -/
theorem State.lineInFill_takes {s : State} {c : Camera} {f : Fill} {r : Nat} (k : RowRecord)
    (hf : (s.recv c).fill = some f) (hj : f.judged = false)
    (hwf : ∀ i, Memory.wf Config.blankPixel ((s.pict c).slot i).pixels) :
    let p := (s.pict c).atRow r
    let x := s.lineInFill c r k
    (x.pict c).SameRows (p.setSlot f.slot ((p.slot f.slot).writeRow r k.pixels)) ∧
    (¬ verdictDue r → (x.pict c).copy = (s.pict c).copy) ∧ x.reg = s.reg ∧ (x.recv c).place = (s.recv c).place ∧
    ∃ n, (x.recv c).fill = some { f.afterRow r k with failed := n } ∧
      ((s.recv c).mode = .checked →
        n =
          if r % 8 = 0 ∧ 8 ≤ r ∧
            (f.faulted.contains (r / 8 - 1) = true ∨ crc8 ((p.slot f.slot).group (r / 8 - 1)) ≠ k.check)
          then f.failed + 1 else f.failed) := by
  intro p x
  by_cases hd : verdictDue r
  · have hp : p = (s.pict c).finishCopy := if_pos hd
    let v := (s.setPict c p).writeRow c f r k
    have hx : x = v.judgeGroup c (f.afterRow r k) (r / 8 - 1) k.check := by
      simp only [x, v, hp]; exact State.lineInFill_due hf hj hd
    have recv : v.recv c = { s.recv c with fill := some (f.afterRow r k) } := by simp [v, State.writeRow_recv]
    have pict : v.pict c = p.setSlot f.slot ((p.slot f.slot).writeRow r k.pixels) := by simp [v, State.writeRow_pict]
    have passes : v.groupPasses c (f.afterRow r k) (r / 8 - 1) k.check =
        (!f.faulted.contains (r / 8 - 1) && crc8 ((p.slot f.slot).group (r / 8 - 1)) == k.check) := by
      have := State.groupPasses_writeRow (s := s.setPict c p) (c := c) (f := f) (k := k) hd
        (by rw [State.pict_setPict_self, hp]; exact Picture.finishCopy_pixels_wf hwf f.slot)
      rwa [State.pict_setPict_self] at this
    obtain ⟨place, n, fill, failed⟩ := State.judgeGroup_recv (s := v) (c := c) (r / 8 - 1) k.check (by rw [recv])
    rw [← hx] at place fill
    refine ⟨?_, fun h => absurd hd h, ?_, ?_, n, fill, fun hm => ?_⟩
    · rw [hx, ← pict]; exact State.judgeGroup_sameRows _ _ _ _ _
    · rw [hx, State.judgeGroup_reg, State.writeRow_reg]; simp
    · rw [place, recv]
    · rw [failed (by rw [recv]; exact hm), passes, (f.afterRow_keeps r k).2]
      have fails : ¬ (!f.faulted.contains (r / 8 - 1) && crc8 ((p.slot f.slot).group (r / 8 - 1)) == k.check) = true ↔
          f.faulted.contains (r / 8 - 1) = true ∨ crc8 ((p.slot f.slot).group (r / 8 - 1)) ≠ k.check := by
        simp [Classical.or_iff_not_imp_left]
      by_cases hq : f.faulted.contains (r / 8 - 1) = true ∨ crc8 ((p.slot f.slot).group (r / 8 - 1)) ≠ k.check
      · rw [if_neg (fails.mpr hq), if_pos ⟨hd.1, hd.2, hq⟩]
      · rw [if_pos (Classical.not_not.mp (mt fails.mp hq)), if_neg fun h => hq h.2.2]
  · have hp : p = s.pict c := if_neg hd
    have hx : x = s.writeRow c f r k := State.lineInFill_not_due hf hd
    rw [hx, hp, State.writeRow_pict, State.writeRow_recv]
    refine ⟨fun _ => ⟨rfl, rfl, rfl⟩, fun _ => rfl, State.writeRow_reg, rfl, f.failed, ?_, fun _ => ?_⟩
    · rw [← (f.afterRow_keeps r k).2]
    · rw [if_neg fun h => hd ⟨h.1, h.2.1⟩]

/-- Settles O17: the record is counted, and with a fill open its row is written and judged. -/
theorem linePlaceRecordWritesItsRow : Obligations.LinePlaceRecordWritesItsRow := by
  intro s i c k r hi hrun hok hmem hlock hanchor hplace hr luma p
  obtain ⟨t, next, moved⟩ := exec_rowRecord hi hrun
  rw [State.rowArrives_takes k hlock hanchor (by omega), hplace] at moved
  obtain ⟨recv, pict, reg, cameras, rest⟩ := moved
  simp only [State.noteCamera_keeps] at recv pict reg
  refine ⟨t, next, ?_⟩
  cases hfill : (s.recv c).fill with
  | none =>
    have opened : ((s.counted c).recv c).fill = none := by simpa using hfill
    rw [State.takePlace_no_fill opened] at recv pict reg
    refine ⟨by simp [recv, hplace], cameras, by simp [reg], rest, fun _ => ⟨recv ▸ opened, by simp [pict]⟩, ?_⟩
    intro f hf; cases hf
  | some f =>
    have opened : ((s.counted c).recv c).fill = some f := by simpa using hfill
    have unjudged : f.judged = false := hok.unjudged hfill (by omega)
    rw [State.takePlace_line opened (by omega)] at recv pict reg
    obtain ⟨rows, copy, reg', place, n, fill, failed⟩ := State.lineInFill_takes (r := r) k opened unjudged
      (by simpa using hmem.1 c)
    simp only [State.counted_keeps, ← recv, ← pict] at rows copy reg' place fill failed
    refine ⟨by simp [place, hplace], cameras, by simp [reg, reg'], rest, fun h => (by cases h), ?_⟩
    intro f₀ hf₀
    obtain rfl := Option.some.inj hf₀
    rw [show (s.pict c).atRow r = p from rfl] at rows failed
    obtain ⟨pixels, -, figures⟩ := rows f.slot
    rw [Picture.slot_setSlot_self] at pixels figures
    refine ⟨fun a => ?_, fun j hj => ?_, copy, fun g => ?_, _, fill, (f.afterRow_keeps r k).1, f.afterRow_faulted r k,
      fun hm => failed (by simpa using hm)⟩
    · rw [pixels]; exact PicSlot.read_writeRow _ r k a
    · obtain ⟨pixels', state', -⟩ := rows j
      rw [Picture.slot_setSlot_of_ne _ _ hj] at pixels' state'
      exact ⟨pixels', state'⟩
    · rw [figures]; exact PicSlot.writeRow_figures _ r k g

/-! ## The verdict on a group before the last (O18) -/

/-- Settles O18: after a copy in flight has finished and the row is written, the verdict on the group before takes its branch. -/
theorem verdictJudgesTheGroup : Obligations.VerdictJudgesTheGroup := by
  intro s i c k g f hi hrun hok hmem hlock hanchor hplace hfill p pass
  obtain ⟨t, next, moved⟩ := exec_rowRecord hi hrun
  rw [State.rowArrives_takes k hlock hanchor (by omega), hplace] at moved
  obtain ⟨recv, pict, reg, cameras, rest⟩ := moved
  simp only [State.noteCamera_keeps] at recv pict reg
  have opened : ((s.counted c).recv c).fill = some f := by simpa using hfill
  have unjudged : f.judged = false := hok.unjudged hfill (by omega)
  have due : verdictDue (8 * (g.val + 1)) := by constructor <;> omega
  have group : 8 * (g.val + 1) / 8 - 1 = g.val := by omega
  let q := p.setSlot f.slot ((p.slot f.slot).writeRow (8 * (g.val + 1)) k.pixels)
  let f' := f.afterRow (8 * (g.val + 1)) k
  let v := ((s.counted c).setPict c p).writeRow c f (8 * (g.val + 1)) k
  have vrecv : v.recv c = { (s.counted c).recv c with fill := some f' } := by simp [v, f', State.writeRow_recv]
  have vpict : v.pict c = q := by simp [v, q, State.writeRow_pict]
  have passes : v.groupPasses c f' g.val k.check = pass := by
    have wf := Picture.finishCopy_pixels_wf (hmem.1 c) f.slot
    have := State.groupPasses_writeRow (s := (s.counted c).setPict c p) (c := c) (f := f) (k := k) due (by simpa using wf)
    rwa [State.pict_setPict_self, group] at this
  have line : (s.counted c).lineInFill c (8 * (g.val + 1)) k = v.judgeGroup c f' g.val k.check := by
    rw [State.lineInFill_due opened unjudged due, group, (s.counted_keeps c).1]
  rw [State.takePlace_line opened (by omega), line] at recv pict
  refine ⟨t, next, rest, cameras, fun hfails hm => ?_, fun hstays => ?_⟩
  · rw [State.judgeGroup_fails (by simp [vrecv, hm]) (passes.trans hfails)] at recv pict
    rw [State.failGroup_recv, vrecv] at recv
    rw [State.failGroup_pict, vpict, (f.afterRow_keeps _ k).1] at pict
    rw [recv, pict]
    refine ⟨by simp [hm], by simp, ?_, by simp [Picture.startCopy_copy, q, p], fun j => ?_⟩
    · simp [Picture.startCopy_slot, PicSlot.mark]
    · have unheld : (q.slot j).holders.copy = false := by
        rw [Picture.slot_setSlot]
        split
        · exact (hok.slots c).finishCopy_unheld f.slot
        · exact (hok.slots c).finishCopy_unheld j
      have latest : q.latest = (s.pict c).latest := by simp [q, p]
      rw [Picture.startCopy_slot, latest]
      by_cases h : (s.pict c).latest = some j
      · simp [h, Holders.put]
      · simp [h, unheld]
  · rw [State.judgeGroup_stays (by simpa [vrecv, passes] using hstays)] at recv pict
    rw [State.recv_setRecv_self, vrecv, passes] at recv
    rw [recv, pict]
    simp [vpict, q, p, PicSlot.writeRow_keeps]

end Sys2Proof.Machine
end

section
/-! The record in place 481: the verdict on group 59, the end of the fill, and the status slot byte (R12, R17 to R22, R29, R53): O19. -/

namespace Sys2Proof.Machine

/-! ## Metering leaves the heater demand (R53) -/

theorem Regulator.stepUp_heater (cfg : CameraSettings) (g : Regulator) : (g.stepUp cfg).heater = g.heater := by
  unfold Regulator.stepUp
  dsimp only
  repeat' split
  all_goals rfl

theorem Regulator.stepDown_heater (cfg : CameraSettings) (g : Regulator) : (g.stepDown cfg).heater = g.heater := by
  unfold Regulator.stepDown
  repeat' split
  all_goals rfl

theorem Regulator.classify_heater (cfg : CameraSettings) (g : Regulator) (m : Reading) :
    (g.classify cfg m).heater = g.heater := by
  unfold Regulator.classify
  repeat' split
  all_goals simp [Regulator.stepUp_heater, Regulator.stepDown_heater, Regulator.clearStreaks]

theorem Regulator.takeFrame_heater (cfg : CameraSettings) (u : SupplyState) (groups : Vector GroupMark 60)
    (figures : Vector Figures 60) (g : Regulator) : (g.takeFrame cfg u groups figures).heater = g.heater := by
  unfold Regulator.takeFrame
  split
  · rfl
  · cases u
    · exact Regulator.classify_heater _ _ _
    · rfl

/-! ## The status cycle (R17, R20 to R22, R53) -/

/-- The receivers agree on the status cycle and on what an accepted record sets. -/
structure Receiver.SameStatus (q r : Receiver) : Prop where
  assembly : q.assembly = r.assembly
  nextPos : q.nextPos = r.nextPos
  previous : q.previous = r.previous
  accepted : q.accepted = r.accepted
  mismatches : q.mismatches = r.mismatches
  notFollowing : q.notFollowing = r.notFollowing

@[simp] theorem Receiver.compareGain_keeps (r : Receiver) (a b : Nat) :
    (r.compareGain a b).place = r.place ∧ (r.compareGain a b).failures = r.failures ∧
    (r.compareGain a b).fill = r.fill ∧ (r.compareGain a b).failedGroups = r.failedGroups ∧
    (r.compareGain a b).mode = r.mode ∧ (r.compareGain a b).assembly = r.assembly ∧
    (r.compareGain a b).nextPos = r.nextPos ∧ (r.compareGain a b).previous = r.previous ∧
    (r.compareGain a b).accepted = r.accepted := by
  unfold Receiver.compareGain
  dsimp only
  split <;> simp

@[simp] theorem Receiver.modeAfter_keeps (r : Receiver) (cfg : CameraSettings) (a : StatusRecord) :
    (r.modeAfter cfg a).place = r.place ∧ (r.modeAfter cfg a).failures = r.failures ∧
    (r.modeAfter cfg a).fill = r.fill ∧ (r.modeAfter cfg a).failedGroups = r.failedGroups ∧
    (r.modeAfter cfg a).assembly = r.assembly ∧ (r.modeAfter cfg a).nextPos = r.nextPos ∧
    (r.modeAfter cfg a).previous = r.previous ∧ (r.modeAfter cfg a).accepted = r.accepted ∧
    (r.modeAfter cfg a).mismatches = r.mismatches ∧ (r.modeAfter cfg a).notFollowing = r.notFollowing := by
  unfold Receiver.modeAfter
  split <;> simp

theorem Receiver.compareGain_equal (r : Receiver) (n : Nat) :
    (r.compareGain n n).mismatches = 0 ∧ (r.compareGain n n).notFollowing = false := by
  simp [Receiver.compareGain]

theorem Receiver.compareGain_unequal (r : Receiver) {a b : Nat} (h : a ≠ b) :
    (r.compareGain a b).mismatches = min (r.mismatches + 1) 3 ∧
    ((r.compareGain a b).notFollowing = true ↔ r.notFollowing = true ∨ 2 ≤ r.mismatches) := by
  have three : min (r.mismatches + 1) 3 = 3 ↔ 2 ≤ r.mismatches := by omega
  simp [Receiver.compareGain, h, three]

section
variable {s : State} {c : Camera}

theorem State.accept_recv (a : StatusRecord) :
    (s.accept c a).recv c =
      (({ s.recv c with accepted := some a } : Receiver).modeAfter (s.body.camera c) a).compareGain a.gain
        (s.reg c).gain := by
  unfold State.accept
  dsimp only
  split <;> simp

theorem State.accept_pict (a : StatusRecord) : (s.accept c a).pict = s.pict := by
  unfold State.accept
  dsimp only
  split <;> simp

/-- R53: an acceptance that changes the accepted record works the heater demand out; nothing else of the regulator changes. -/
theorem State.accept_reg (a : StatusRecord) :
    (s.accept c a).reg c =
      if (s.recv c).accepted = some a then s.reg c
      else { s.reg c with heater := heaterDemand (s.body.camera c) (some a) (s.reg c).heater } := by
  unfold State.accept
  dsimp only
  split <;> simp [State.workHeater]

/-- What the status slot byte leaves alone. -/
structure State.StatusOnly (s t : State) (c : Camera) : Prop where
  place : (t.recv c).place = (s.recv c).place
  failures : (t.recv c).failures = (s.recv c).failures
  fill : (t.recv c).fill = (s.recv c).fill
  failedGroups : (t.recv c).failedGroups = (s.recv c).failedGroups
  pict : t.pict c = s.pict c
  reg : { t.reg c with heater := false } = { s.reg c with heater := false }

theorem State.cycleComplete_none {bytes : List Byte} (h : StatusRecord.ofBytes bytes = none) :
    s.cycleComplete c bytes = s.setRecv c (s.recv c).spoil := by
  simp [State.cycleComplete, h]

theorem State.cycleComplete_first {bytes : List Byte} {a : StatusRecord} (h : StatusRecord.ofBytes bytes = some a)
    (hp : (s.recv c).previous ≠ some bytes) :
    s.cycleComplete c bytes =
      s.setRecv c { s.recv c with assembly := [], nextPos := 0, previous := some bytes } := by
  simp [State.cycleComplete, h, hp]

theorem State.cycleComplete_again {bytes : List Byte} {a : StatusRecord} (h : StatusRecord.ofBytes bytes = some a)
    (hp : (s.recv c).previous = some bytes) :
    s.cycleComplete c bytes =
      (s.setRecv c { s.recv c with assembly := [], nextPos := 0, previous := some bytes }).accept c a := by
  simp [State.cycleComplete, h, hp]

theorem State.cycleComplete_statusOnly (bytes : List Byte) : s.StatusOnly (s.cycleComplete c bytes) c := by
  cases h : StatusRecord.ofBytes bytes with
  | none => rw [State.cycleComplete_none h]; constructor <;> simp [Receiver.spoil]
  | some a =>
    by_cases hp : (s.recv c).previous = some bytes
    · rw [State.cycleComplete_again h hp]
      have reg : ({ (if ((s.recv c).accepted = some a) then s.reg c
          else { s.reg c with heater := heaterDemand (s.body.camera c) (some a) (s.reg c).heater }) with heater := false } : Regulator) =
          { s.reg c with heater := false } := by split <;> rfl
      constructor <;> simp [State.accept_recv, State.accept_pict, State.accept_reg, reg]
    · rw [State.cycleComplete_first h hp]; constructor <;> simp

theorem State.addStatusByte_elsewhere {cycle : Nat} (b : Byte) (h : cycle ≠ (s.recv c).nextPos) :
    s.addStatusByte c cycle b = s := by
  simp [State.addStatusByte, h]

theorem State.addStatusByte_next {cycle : Nat} (b : Byte) (h : cycle = (s.recv c).nextPos) (hn : (s.recv c).nextPos ≠ 15) :
    s.addStatusByte c cycle b =
      s.setRecv c
        { s.recv c with assembly := (s.recv c).assembly ++ [b], nextPos := (s.recv c).nextPos + 1 } := by
  simp [State.addStatusByte, h, hn]

theorem State.addStatusByte_last {cycle : Nat} (b : Byte) (h : cycle = (s.recv c).nextPos) (hn : (s.recv c).nextPos = 15) :
    s.addStatusByte c cycle b = s.cycleComplete c ((s.recv c).assembly ++ [b]) := by
  simp [State.addStatusByte, h, hn]

theorem State.addStatusByte_statusOnly (cycle : Nat) (b : Byte) : s.StatusOnly (s.addStatusByte c cycle b) c := by
  by_cases h : cycle = (s.recv c).nextPos
  · by_cases hn : (s.recv c).nextPos = 15
    · rw [State.addStatusByte_last b h hn]; exact State.cycleComplete_statusOnly _
    · rw [State.addStatusByte_next b h hn]; constructor <;> simp
  · rw [State.addStatusByte_elsewhere b h]; exact ⟨rfl, rfl, rfl, rfl, rfl, rfl⟩

end

/-! ## The end of a fill (R18, R29, R30) -/

section
variable {s : State} {c : Camera} {f : Fill}

/-- R18, R19: a fill that ends is abandoned rather than completed. -/
def State.endsAbandoned (s : State) (c : Camera) (f : Fill) : Prop :=
  ((s.body.camera c).required = true ∧ (s.recv c).mode = .trial) ∨ f.failed = 60

theorem State.endFill_recv :
    (s.endFill c f).recv c =
      ({ s.recv c with fill := none, failedGroups := f.failed } : Receiver).fillEnded (s.body.camera c).required := by
  simp [State.endFill]

theorem State.endFill_abandons (h : s.endsAbandoned c f) :
    (s.endFill c f).pict c = (s.pict c).abandon f.slot ∧ (s.endFill c f).reg c = s.reg c := by
  have cond : ((s.body.camera c).required && (s.recv c).mode == .trial || f.failed == 60) = true := by
    simpa [State.endsAbandoned] using h
  simp [State.endFill, cond]

theorem State.endFill_completes (h : ¬ s.endsAbandoned c f) :
    (s.endFill c f).pict c = (s.pict c).complete f.slot ∧
    (s.endFill c f).reg c =
      (s.reg c).takeFrame (s.body.camera c) s.supply.state ((s.pict c).slot f.slot).groups ((s.pict c).slot f.slot).figures := by
  have cond : ((s.body.camera c).required && (s.recv c).mode == .trial || f.failed == 60) = false := by
    rw [← Bool.not_eq_true]; simpa [State.endsAbandoned] using h
  simp only [State.endFill, cond, State.completeFill]
  simp

theorem State.endFill_heater : ((s.endFill c f).reg c).heater = (s.reg c).heater := by
  by_cases h : s.endsAbandoned c f
  · rw [(State.endFill_abandons h).2]
  · rw [(State.endFill_completes h).2, Regulator.takeFrame_heater]

theorem State.endFill_body : (s.endFill c f).body = s.body := by
  by_cases h : ((s.body.camera c).required && (s.recv c).mode == .trial || f.failed == 60) = true <;>
    simp [State.endFill, State.completeFill, h]

/-! ## The verdict on group 59 (R2, R14, R18, R19) -/

/-- A fill after the record in place 481, group 59 marked where the record has a sequence fault. -/
def Fill.afterLast (f : Fill) (k : RowRecord) : Fill := if k.isLine || k.row != 480 then f.fault 59 else f

theorem Fill.afterLast_keeps (f : Fill) (k : RowRecord) :
    (f.afterLast k).slot = f.slot ∧ (f.afterLast k).cycle = f.cycle ∧ (f.afterLast k).failed = f.failed := by
  unfold Fill.afterLast
  split <;> exact ⟨rfl, rfl, rfl⟩

/-- The state in which group 59 is judged: the copy in flight has finished and a sequence fault of the record is marked. -/
def State.atLastVerdict (s : State) (c : Camera) (f : Fill) (k : RowRecord) : State :=
  (s.setPict c (s.pict c).finishCopy).setRecv c { s.recv c with fill := some (f.afterLast k) }

@[simp] theorem State.atLastVerdict_recv (s : State) (c : Camera) (f : Fill) (k : RowRecord) :
    (s.atLastVerdict c f k).recv c = { s.recv c with fill := some (f.afterLast k) } := by
  simp [State.atLastVerdict]

@[simp] theorem State.atLastVerdict_keeps (s : State) (c : Camera) (f : Fill) (k : RowRecord) :
    (s.atLastVerdict c f k).pict c = (s.pict c).finishCopy ∧ (s.atLastVerdict c f k).reg = s.reg ∧
    (s.atLastVerdict c f k).body = s.body ∧ (s.atLastVerdict c f k).supply = s.supply := by
  simp [State.atLastVerdict]

/-- The state in which the record of place 481 brings its status slot byte. -/
def State.afterLastVerdict (s : State) (c : Camera) (f : Fill) (k : RowRecord) : State :=
  (((s.atLastVerdict c f k).judgeGroup c (f.afterLast k) 59 k.check).markJudged c).endIfDone c

theorem State.takePlace_last (k : RowRecord) (hf : (s.recv c).fill = some f) (hj : f.judged = false) :
    s.takePlace c 481 k = (s.afterLastVerdict c f k).addStatusByte c f.cycle k.status := by
  simp [State.takePlace, hf, State.lastInFill, State.finishCopy_unjudged hf hj, State.afterLastVerdict,
    State.atLastVerdict, Fill.afterLast]

/-- Group 59 of the fill f passes with the record k. -/
def State.lastPasses (s : State) (c : Camera) (f : Fill) (k : RowRecord) : Prop :=
  ¬ (k.isLine = true ∨ k.row ≠ 480) ∧ f.faulted.contains 59 = false ∧
    crc8 (((s.pict c).finishCopy.slot f.slot).group 59) = k.check

theorem State.groupPasses_last (k : RowRecord) :
    (s.atLastVerdict c f k).groupPasses c (f.afterLast k) 59 k.check = true ↔ s.lastPasses c f k := by
  rw [State.groupPasses_iff, (s.atLastVerdict_keeps c f k).1, (f.afterLast_keeps k).1]
  unfold State.lastPasses Fill.afterLast
  by_cases h : k.isLine = true ∨ k.row ≠ 480
  · have marked : (k.isLine || k.row != 480) = true := by simpa using h
    simp [marked, h, Fill.fault]
  · have unmarked : (k.isLine || k.row != 480) = false := by rw [← Bool.not_eq_true]; simpa using h
    simp [unmarked, h]

/-- The fill as its last verdict leaves it, in the state in which it ends. -/
def State.passedLast (s : State) (c : Camera) (f : Fill) (k : RowRecord) (m : CheckMode) : State :=
  (s.atLastVerdict c f k).setRecv c
    { s.recv c with mode := m, fill := some { f.afterLast k with judged := true } }

/-- R18: a fill whose last group needs no copy ends at its verdict; a pass in TRIAL has made the mode CHECKED. -/
theorem State.afterLastVerdict_ends {k : RowRecord} (h : (s.recv c).mode = .checked → s.lastPasses c f k) :
    ∃ m, (m = .trial ↔ (s.recv c).mode = .trial ∧ ¬ s.lastPasses c f k) ∧
      s.afterLastVerdict c f k =
        (s.passedLast c f k m).endFill c { f.afterLast k with judged := true } := by
  have passes := s.groupPasses_last (c := c) (f := f) k
  have stays : (s.atLastVerdict c f k).groupPasses c (f.afterLast k) 59 k.check = true ∨
      ((s.atLastVerdict c f k).recv c).mode ≠ .checked := by
    by_cases hm : (s.recv c).mode = .checked
    · exact .inl (passes.mpr (h hm))
    · exact .inr (by simpa using hm)
  refine ⟨if (s.atLastVerdict c f k).groupPasses c (f.afterLast k) 59 k.check = true ∧ (s.recv c).mode = .trial
    then .checked else (s.recv c).mode, ?_, ?_⟩
  · by_cases hp : s.lastPasses c f k
    · by_cases hm : (s.recv c).mode = .trial <;> simp [passes.mpr hp, hp, hm]
    · simp [mt passes.mp hp, hp]
  · simp [State.afterLastVerdict, State.judgeGroup_stays stays, State.markJudged, State.endIfDone, State.passedLast]

/-- R18: a last group that fails in CHECKED mode leaves its fill waiting for the copy. -/
theorem State.afterLastVerdict_waits {k : RowRecord} (hm : (s.recv c).mode = .checked) (h : ¬ s.lastPasses c f k) :
    (s.afterLastVerdict c f k).recv c =
      { s.recv c with
        failures := (s.recv c).failures + 1
        fill := some { f.afterLast k with failed := f.failed + 1, judged := true } } ∧
    (s.afterLastVerdict c f k).pict c = (s.pict c).finishCopy.startCopy 59 f.slot ∧
    (s.afterLastVerdict c f k).reg = s.reg ∧ (s.afterLastVerdict c f k).body = s.body := by
  have fails : (s.atLastVerdict c f k).groupPasses c (f.afterLast k) 59 k.check = false := by
    rwa [← Bool.not_eq_true, State.groupPasses_last]
  have mode : ((s.atLastVerdict c f k).recv c).mode = .checked := by simpa using hm
  simp [State.afterLastVerdict, State.judgeGroup_fails mode fails, State.markJudged, State.endIfDone, State.failGroup,
    Picture.startCopy_copy, f.afterLast_keeps k]

end

/-! ## The status slot byte of place 481 (R20 to R22, R53) -/

theorem StatusRecord.ofBytes_outside {bs : List Byte}
    (h : (byteAt bs 2).toInt < -40 ∨ 85 < (byteAt bs 2).toInt ∨ 63 < u8At bs 3 ∨ 100 < u8At bs 4) :
    StatusRecord.ofBytes bs = none := by
  simp [StatusRecord.ofBytes, h]

theorem StatusRecord.ofBytes_inside {bs : List Byte}
    (h : ¬ ((byteAt bs 2).toInt < -40 ∨ 85 < (byteAt bs 2).toInt ∨ 63 < u8At bs 3 ∨ 100 < u8At bs 4)) :
    StatusRecord.ofBytes bs =
      some
        { kind := u8At bs 0 % 16, checksSent := (byteAt bs 1).getLsbD 0, temperature := (byteAt bs 2).toInt
          misted := (byteAt bs 1).getLsbD 1, heaterRunning := (byteAt bs 1).getLsbD 2
          sensorFault := (byteAt bs 1).getLsbD 3, gain := u8At bs 3, duty := u8At bs 4 } := by
  simp only [StatusRecord.ofBytes, if_neg h]

/-- R53: the heater runs on a misted lens or at the lower threshold, and stays on below the upper one. -/
theorem heaterDemand_some (cfg : CameraSettings) (a : StatusRecord) (before : Bool) :
    heaterDemand cfg (some a) before =
      (a.misted || decide (a.temperature ≤ cfg.heaterOn) || (decide (a.temperature < cfg.heaterOff) && before)) := by
  by_cases cold : a.temperature ≤ cfg.heaterOn
  · simp [heaterDemand, cold]
  · by_cases warm : a.temperature < cfg.heaterOff
    · cases hm : a.misted with
      | true => simp [heaterDemand, hm]
      | false => simpa [heaterDemand, cold, hm, not_le.mpr warm] using fun _ => warm
    · simp [heaterDemand, cold, not_lt.mp warm]

/-- The verdict on group 59 and the end of the fill leave the status cycle and the heater demand. -/
theorem State.afterLastVerdict_leaves (s : State) (c : Camera) (f : Fill) (k : RowRecord) :
    ((s.afterLastVerdict c f k).recv c).SameStatus (s.recv c) ∧
    ((s.afterLastVerdict c f k).reg c).heater = (s.reg c).heater ∧ (s.afterLastVerdict c f k).body = s.body := by
  by_cases h : (s.recv c).mode = .checked → s.lastPasses c f k
  · obtain ⟨m, -, eq⟩ := State.afterLastVerdict_ends h
    rw [eq, State.endFill_recv, State.endFill_heater]
    refine ⟨?_, by simp [State.passedLast], ?_⟩
    · constructor <;> simp [State.passedLast]
    · rw [State.endFill_body]; simp [State.passedLast]
  · obtain ⟨hm, hp⟩ := Classical.not_imp.mp h
    obtain ⟨recv, -, reg, body⟩ := State.afterLastVerdict_waits hm hp
    exact ⟨by rw [recv]; constructor <;> rfl, by rw [reg], body⟩

/-- R22, R53: what a record equal to the one before it sets, by its gain, its mode bit and its heater figures. -/
theorem State.accept_sets {s t : State} {c : Camera} {a : StatusRecord} (recv : t.recv c = (s.accept c a).recv c)
    (reg : t.reg c = (s.accept c a).reg c) :
    (t.recv c).assembly = (s.recv c).assembly ∧ (t.recv c).nextPos = (s.recv c).nextPos ∧
    (t.recv c).previous = (s.recv c).previous ∧ (t.recv c).accepted = some a ∧
    (a.checksSent = false → (s.body.camera c).required = false → (t.recv c).mode = .unchecked) ∧
    (a.gain = (t.reg c).gain → (t.recv c).mismatches = 0 ∧ (t.recv c).notFollowing = false) ∧
    (a.gain ≠ (t.reg c).gain →
      (t.recv c).mismatches = min ((s.recv c).mismatches + 1) 3 ∧
      ((t.recv c).notFollowing = true ↔ (s.recv c).notFollowing = true ∨ 2 ≤ (s.recv c).mismatches)) ∧
    ((s.recv c).accepted ≠ some a →
      (t.reg c).heater =
        (a.misted || decide (a.temperature ≤ (s.body.camera c).heaterOn) ||
          (decide (a.temperature < (s.body.camera c).heaterOff) && (s.reg c).heater))) := by
  rw [State.accept_recv] at recv
  rw [State.accept_reg] at reg
  have gain : (t.reg c).gain = (s.reg c).gain := by rw [reg]; split <;> rfl
  rw [gain, recv]
  refine ⟨by simp, by simp, by simp, by simp, fun hc hr => ?_, fun hg => ?_, fun hg => ?_, fun ha => ?_⟩
  · simp [Receiver.modeAfter, hc, hr]
  · rw [hg]; exact Receiver.compareGain_equal _ _
  · have counts := Receiver.compareGain_unequal
      (({ s.recv c with accepted := some a } : Receiver).modeAfter (s.body.camera c) a) hg
    simpa only [Receiver.modeAfter_keeps] using counts
  · rw [reg, if_neg ha]
    exact heaterDemand_some _ _ _

/-! ## The record in place 481 (O19) -/

/-- What the record in place 481 does with a fill open, but for links and neighbours: the verdict, then the status slot byte. -/
theorem exec_lastRow {s : State} {i : Instr} {c : Camera} {k : RowRecord} {f : Fill} (hi : rowRecordOf i = some (c, k))
    (hrun : s.phase = .running) (hok : s.PicturesOk) (hl : (s.recv c).lock = .locked)
    (ha : (s.recv c).anchor.isSome = true) (hp : (s.recv c).place = 480) (hf : (s.recv c).fill = some f) :
    ∃ t, exec i s = .next t ∧
      s.CameraMoved t c (((s.counted c).afterLastVerdict c f k).addStatusByte c f.cycle k.status) := by
  obtain ⟨t, next, moved⟩ := exec_rowRecord hi hrun
  have unjudged : f.judged = false := hok.unjudged hf (by omega)
  rw [State.rowArrives_takes k hl ha (by omega), hp,
    State.takePlace_last k (by simpa using hf) unjudged] at moved
  obtain ⟨recv, pict, reg, cameras, rest⟩ := moved
  simp only [State.noteCamera_keeps] at recv pict reg
  exact ⟨t, next, recv, pict, reg, cameras, rest⟩

theorem State.lastPasses_counted {s : State} {c : Camera} {f : Fill} {k : RowRecord} :
    (s.counted c).lastPasses c f k ↔ s.lastPasses c f k := by
  simp [State.lastPasses]

/-- The condition under which the fill that no copy holds up is abandoned at its last verdict. -/
theorem State.passedLast_endsAbandoned {s : State} {c : Camera} {f : Fill} {k : RowRecord} {m : CheckMode}
    (hm : m = .trial ↔ (s.recv c).mode = .trial ∧ ¬ s.lastPasses c f k) :
    (s.passedLast c f k m).endsAbandoned c { f.afterLast k with judged := true } ↔
      ((s.body.camera c).required = true ∧ (s.recv c).mode = .trial ∧ ¬ s.lastPasses c f k) ∨ f.failed = 60 := by
  simp [State.endsAbandoned, State.passedLast, f.afterLast_keeps k, hm]

theorem State.passedLast_keeps (s : State) (c : Camera) (f : Fill) (k : RowRecord) (m : CheckMode) :
    (s.passedLast c f k m).pict c = (s.pict c).finishCopy ∧ (s.passedLast c f k m).reg c = s.reg c ∧
    (s.passedLast c f k m).body = s.body ∧ (s.passedLast c f k m).supply = s.supply ∧
    ((s.passedLast c f k m).recv c).place = (s.recv c).place := by
  simp [State.passedLast]

/-- O19, first part: a fill that no copy holds up ends with its last verdict. -/
theorem lastVerdict_endsFill {s : State} {i : Instr} {c : Camera} {k : RowRecord} {f : Fill}
    (hi : rowRecordOf i = some (c, k)) (hrun : s.phase = .running) (hok : s.PicturesOk)
    (hl : (s.recv c).lock = .locked) (ha : (s.recv c).anchor.isSome = true) (hp : (s.recv c).place = 480)
    (hf : (s.recv c).fill = some f) (hpass : (s.recv c).mode = .checked → s.lastPasses c f k) :
    let p := (s.pict c).finishCopy
    ∃ t, exec i s = .next t ∧ (t.recv c).place = 481 ∧ (t.recv c).fill = none ∧ (t.recv c).failedGroups = f.failed ∧
      t.besideCameras = s.besideCameras ∧ s.OtherCameras t c ∧
      (((s.body.camera c).required = true ∧ (s.recv c).mode = .trial ∧ ¬ s.lastPasses c f k) ∨ f.failed = 60 →
        t.pict c = p.abandon f.slot ∧ { t.reg c with heater := false } = { s.reg c with heater := false }) ∧
      (¬ (((s.body.camera c).required = true ∧ (s.recv c).mode = .trial ∧ ¬ s.lastPasses c f k) ∨ f.failed = 60) →
        t.pict c = p.complete f.slot ∧
        { t.reg c with heater := false } =
          { (s.reg c).takeFrame (s.body.camera c) s.supply.state (p.slot f.slot).groups (p.slot f.slot).figures with
            heater := false }) := by
  intro p
  obtain ⟨t, next, recv, pict, reg, cameras, rest⟩ := exec_lastRow hi hrun hok hl ha hp hf
  obtain ⟨m, hm, ends⟩ := State.afterLastVerdict_ends (s := s.counted c) (c := c) (f := f) (k := k)
    (by simpa [State.lastPasses_counted] using hpass)
  have abandons := State.passedLast_endsAbandoned hm
  simp only [State.counted_keeps, State.counted_recv, Receiver.heard_keeps, State.lastPasses_counted] at abandons
  obtain ⟨pict₀, reg₀, body₀, supply₀, place₀⟩ := (s.counted c).passedLast_keeps c f k m
  obtain ⟨place, -, fill, failed, pict', reg'⟩ :=
    State.addStatusByte_statusOnly (s := (s.counted c).afterLastVerdict c f k) (c := c) f.cycle k.status
  rw [← recv, ends, State.endFill_recv] at place fill failed
  rw [← pict, ends] at pict'
  rw [← reg, ends] at reg'
  refine ⟨t, next, by simpa [place₀, hp] using place, by simpa using fill, by simpa [f.afterLast_keeps k] using failed,
    rest, cameras, fun h => ?_, fun h => ?_⟩
  · obtain ⟨pictE, regE⟩ := State.endFill_abandons (abandons.mpr h)
    rw [pictE, pict₀] at pict'
    rw [regE, reg₀] at reg'
    simp only [State.counted_keeps, (f.afterLast_keeps k).1] at pict' reg'
    exact ⟨pict', reg'⟩
  · obtain ⟨pictE, regE⟩ := State.endFill_completes (mt abandons.mp h)
    rw [pictE, pict₀] at pict'
    rw [regE, reg₀, body₀, supply₀, pict₀] at reg'
    simp only [State.counted_keeps, (f.afterLast_keeps k).1] at pict' reg'
    exact ⟨pict', reg'⟩

theorem PicSlot.mark_groups (x : PicSlot) (n g : Fin 60) (m : GroupMark) :
    (x.mark n m).groups[g] = if g = n then m else x.groups[g] := by
  simp [PicSlot.mark, Fin.ext_iff]

/-- O19, second part: a last group that fails in CHECKED mode leaves its fill waiting for its copy. -/
theorem lastVerdict_waits {s : State} {i : Instr} {c : Camera} {k : RowRecord} {f : Fill}
    (hi : rowRecordOf i = some (c, k)) (hrun : s.phase = .running) (hok : s.PicturesOk)
    (hl : (s.recv c).lock = .locked) (ha : (s.recv c).anchor.isSome = true) (hp : (s.recv c).place = 480)
    (hf : (s.recv c).fill = some f) (hm : (s.recv c).mode = .checked) (hfail : ¬ s.lastPasses c f k) :
    ∃ t, exec i s = .next t ∧ (t.recv c).place = 481 ∧ (t.recv c).failures = (s.recv c).failures + 1 ∧
      (t.recv c).fill = some { f.afterLast k with failed := f.failed + 1, judged := true } ∧
      (t.recv c).failedGroups = (s.recv c).failedGroups ∧
      t.pict c = (s.pict c).finishCopy.startCopy 59 f.slot ∧
      { t.reg c with heater := false } = { s.reg c with heater := false } ∧
      t.besideCameras = s.besideCameras ∧ s.OtherCameras t c := by
  obtain ⟨t, next, recv, pict, reg, cameras, rest⟩ := exec_lastRow hi hrun hok hl ha hp hf
  obtain ⟨recvW, pictW, regW, -⟩ := State.afterLastVerdict_waits (s := s.counted c) (c := c) (f := f) (k := k)
    (by simpa using hm) (by rwa [State.lastPasses_counted])
  obtain ⟨place, failures, fill, failed, pict', reg'⟩ :=
    State.addStatusByte_statusOnly (s := (s.counted c).afterLastVerdict c f k) (c := c) f.cycle k.status
  rw [← recv, recvW] at place failures fill failed
  rw [← pict, pictW] at pict'
  rw [← reg, regW] at reg'
  simp only [State.counted_recv, State.counted_keeps, Receiver.heard_keeps] at place failures failed pict' reg'
  exact ⟨t, next, by rw [place, hp], failures, fill, failed, pict', reg', rest, cameras⟩

/-- Settles O19: the last verdict ends the fill or starts its copy, and the status slot byte takes its turn in the cycle. -/
theorem lastVerdictSettlesTheFill : Obligations.LastVerdictSettlesTheFill := by
  refine ⟨?ends, ?waits, ?status⟩
  case ends =>
    intro s i c k f hi hrun hok hl ha hp hf p fault pass hpass
    obtain ⟨t, next, place, fill, failed, rest, cameras, abandoned, completed⟩ :=
      lastVerdict_endsFill hi hrun hok hl ha hp hf hpass
    have filling : ((s.pict c).slot f.slot).state = .filling :=
      ((hok.slots c).filling f.slot).mpr (by simp [Receiver.fillSlot, hf])
    have notLatest : p.latest ≠ some f.slot := fun e => by
      have := ((hok.slots c).latest f.slot).mpr (by simpa [p] using e)
      rw [filling] at this
      cases this
    refine ⟨t, next, place, fill, failed, rest, cameras, fun h => ?_, fun h => ?_⟩
    · obtain ⟨pict, reg⟩ := abandoned h
      rw [pict]
      exact ⟨Picture.abandon_slot_self _ _, fun j hj => Picture.abandon_slot_of_ne _ hj, by simp, by simp, by simp, reg⟩
    · obtain ⟨pict, reg⟩ := completed h
      have slot := fun j => p.complete_slot j notLatest
      rw [pict]
      refine ⟨by rw [slot, if_pos rfl], by simp, by simp, by simp, fun j hj => ?_, fun j hj hlatest => ?_, reg⟩
      · have old : p.latest = some j := by simpa [p] using hj
        have hne : j ≠ f.slot := fun e => notLatest (e ▸ old)
        rw [slot, if_neg hne, if_pos old, PicSlot.retire_eq]
      · rw [slot, if_neg hj, if_neg (by simpa [p] using hlatest)]
  case waits =>
    intro s i c k f hi hrun hok hl ha hp hf hm p fault hfail
    have fails : ¬ s.lastPasses c f k := fun ⟨order, unmarked, check⟩ => by
      rcases hfail with h | h | h
      · exact order h
      · exact absurd (unmarked.symm.trans h) (by decide)
      · exact h check
    obtain ⟨t, next, place, failures, fill, failed, pict, reg, rest, cameras⟩ :=
      lastVerdict_waits hi hrun hok hl ha hp hf hm fails
    have filling : ((s.pict c).slot f.slot).state = .filling :=
      ((hok.slots c).filling f.slot).mpr (by simp [Receiver.fillSlot, hf])
    have slot := fun j => p.startCopy_slot 59 f.slot j
    refine ⟨t, _, next, place, failures, fill, (f.afterLast_keeps k).1, (f.afterLast_keeps k).2.1, rfl, rfl, failed, ?_⟩
    rw [pict]
    refine ⟨by simp [Picture.startCopy_copy], fun j => ?_, ?_, fun g => ?_, fun j => by rw [slot], by simp, by simp,
      by simp, reg, rest, cameras⟩
    · have unheld : (p.slot j).holders.copy = false := (hok.slots c).finishCopy_unheld j
      have latest : p.latest = (s.pict c).latest := by simp [p]
      rw [slot, latest]
      by_cases h : (s.pict c).latest = some j
      · simp [h, Holders.put]
      · simp [h, unheld]
    · rw [slot]
      exact (Picture.finishCopy_state (by rw [filling]; decide)).trans filling
    · have marked : ((p.startCopy 59 f.slot).slot f.slot).groups = ((p.slot f.slot).mark 59 .concealed).groups := by
        simp [slot]
      rw [marked]
      exact PicSlot.mark_groups _ 59 g _
  case status =>
    intro s i c k f hi hrun hok hl ha hp hf r bytes Same outside record
    obtain ⟨t, next, recv, -, reg, -, -⟩ := exec_lastRow hi hrun hok hl ha hp hf
    have status : bytes = r.assembly ++ [k.status] := by
      simp only [bytes, RowRecord.status]; split <;> rfl
    obtain ⟨same, heater, body⟩ := (s.counted c).afterLastVerdict_leaves c f k
    obtain ⟨assembly, nextPos, previous, accepted, mismatches, notFollowing⟩ := same
    simp only [State.counted_recv, Receiver.heard_keeps] at assembly nextPos previous accepted mismatches notFollowing
    simp only [State.counted_keeps] at heater body
    generalize (s.counted c).afterLastVerdict c f k = x at *
    refine ⟨t, t.recv c, next, rfl, fun hc => ?_, fun hc hn => ?_, fun hc hn hout => ?_, fun hc hn hin => ?_⟩
    · rw [recv, State.addStatusByte_elsewhere _ (by rwa [nextPos])]
      exact ⟨assembly, nextPos, previous, accepted, mismatches, notFollowing⟩
    · rw [recv, State.addStatusByte_next _ (by rwa [nextPos]) (by rwa [nextPos]), State.recv_setRecv_self]
      exact ⟨by rw [assembly, status], by rw [nextPos], previous, accepted, mismatches, notFollowing⟩
    · rw [recv, State.addStatusByte_last _ (by rwa [nextPos]) (by rwa [nextPos]), assembly, ← status,
        State.cycleComplete_none (StatusRecord.ofBytes_outside hout), State.recv_setRecv_self]
      exact ⟨rfl, rfl, rfl, accepted, mismatches, notFollowing⟩
    · rw [State.addStatusByte_last _ (by rwa [nextPos]) (by rwa [nextPos]), assembly, ← status] at recv reg
      have known := StatusRecord.ofBytes_inside hin
      by_cases hprev : r.previous = some bytes
      · rw [State.cycleComplete_again known (by rw [previous]; exact hprev)] at recv reg
        have sets := State.accept_sets recv reg
        simp only [State.recv_setRecv_self, State.setRecv_keeps, accepted, mismatches, notFollowing, heater, body] at sets
        obtain ⟨hassembly, hnext, hprevious, haccepted, hmode, hequal, hunequal, hheater⟩ := sets
        exact ⟨hassembly, hnext, hprevious, fun h => absurd hprev h, fun _ => ⟨haccepted, hmode, hequal, hunequal, hheater⟩⟩
      · rw [State.cycleComplete_first known (by rw [previous]; exact hprev), State.recv_setRecv_self] at recv
        rw [recv]
        exact ⟨rfl, rfl, rfl, fun _ => ⟨accepted, mismatches, notFollowing⟩, fun h => absurd h hprev⟩

end Sys2Proof.Machine
end

section
/-! Every command answers a next state with the command queue as it was, but a frame-start record without a slot (log 8): O2. -/

namespace Sys2Proof.Machine

/-! ## The command queue through the blocks -/

theorem State.pending_of_besideZones {s t : State} (h : t.besideZones = s.besideZones) : t.pending = s.pending :=
  (congrArg State.pending h :)

theorem State.pending_of_besideViews {s t : State} (h : t.besideViews = s.besideViews) : t.pending = s.pending :=
  (congrArg State.pending h :)

theorem State.pending_of_besideCameras {s t : State} (h : t.besideCameras = s.besideCameras) : t.pending = s.pending :=
  (congrArg State.pending h :)

@[simp] theorem State.pending_choose (s : State) : s.choose.pending = s.pending :=
  State.pending_of_besideViews s.besideViews_choose

@[simp] theorem State.pending_takeZone (s : State) (z : Zone) (r : ZoneRec) : (s.takeZone z r).pending = s.pending :=
  State.pending_of_besideZones (s.besideZones_takeZone z r)

@[simp] theorem State.pending_recountZones (s : State) : s.recountZones.pending = s.pending :=
  State.pending_of_besideZones s.besideZones_recountZones

@[simp] theorem State.pending_commitZones (s : State) : s.commitZones.pending = s.pending :=
  State.pending_of_besideZones s.besideZones_commitZones

@[simp] theorem State.pending_firstLook (s : State) : s.firstLook.pending = s.pending :=
  State.pending_of_besideZones s.besideZones_firstLook

@[simp] theorem State.pending_handOn (b s : State) : (State.handOn b s).pending = s.pending :=
  State.pending_of_besideZones (State.besideZones_handOn b s)

@[simp] theorem State.pending_noteSettings (b s : State) : (State.noteSettings b s).pending = s.pending :=
  State.pending_of_besideZones (State.besideZones_noteSettings b s)

@[simp] theorem State.pending_settingsStep (b s : State) : (State.settingsStep b s).pending = s.pending :=
  State.pending_of_besideZones (State.besideZones_settingsStep b s)

@[simp] theorem State.pending_arbiterCommit (s : State) : s.arbiterCommit.pending = s.pending :=
  State.pending_of_besideViews s.besideViews_arbiterCommit

@[simp] theorem State.pending_endService (s : State) : s.endService.pending = s.pending := rfl

@[simp] theorem State.pending_askServiceEnd (s : State) : s.askServiceEnd.pending = s.pending := by
  unfold State.askServiceEnd; split <;> rfl

@[simp] theorem State.pending_movingEnds (b s : State) : (State.movingEnds b s).pending = s.pending := by
  unfold State.movingEnds; split <;> simp

@[simp] theorem State.pending_takeVehicle (s : State) (v : Vehicle) : (s.takeVehicle v).pending = s.pending := by
  simp [State.takeVehicle]

@[simp] theorem State.pending_bodyReport (s : State) (cycling : Bool) (c : Contacts) :
    (s.bodyReport cycling c).pending = s.pending := by
  unfold State.bodyReport; dsimp only; split <;> simp

@[simp] theorem State.pending_setPlace (s : State) (p : Place) (k : Option Track) : (s.setPlace p k).pending = s.pending := by
  simp [State.setPlace]

theorem State.pending_trackExpiry (s : State) (p : Place) : (s.trackExpiry p).pending = s.pending := by
  unfold State.trackExpiry; split <;> simp

@[simp] theorem State.pending_takeNew (s : State) (k : Track) : (s.takeNew k).1.pending = s.pending := by
  unfold State.takeNew; repeat' split
  all_goals simp

@[simp] theorem State.pending_enterService (s : State) : s.enterService.pending = s.pending := by
  unfold State.enterService; split
  · simp
  · rw [State.pending_settingsStep]; rfl

@[simp] theorem State.pending_endCommit (s : State) (f : SettingsBlock → SettingsBlock) :
    (s.endCommit f).pending = s.pending := by
  unfold State.endCommit; dsimp only; repeat' split
  all_goals simp

@[simp] theorem State.pending_purge (s : State) (l : Link) : (s.purge l).pending = s.pending := by
  unfold State.purge; dsimp only; split <;> simp

@[simp] theorem State.pending_commitTable (s : State) : s.commitTable.pending = s.pending :=
  State.foldl_fixes _ State.pending (fun t l => by split <;> simp) _ _

@[simp] theorem State.pending_applyCommit (s : State) (new : Body) : (s.applyCommit new).pending = s.pending := by
  simp [State.applyCommit, State.commitVehicle]

@[simp] theorem State.pending_tryCommit (s : State) (b : Body) : (s.tryCommit b).1.pending = s.pending := by
  unfold State.tryCommit; split <;> simp

@[simp] theorem State.pending_endSlot (s : State) (i : ObjSlot) : (s.endSlot i).pending = s.pending := by
  unfold State.endSlot State.noteExpiry; dsimp only; repeat' split
  all_goals simp

@[simp] theorem State.pending_countDownTable (s : State) : s.countDownTable.pending = s.pending :=
  State.foldl_fixes _ State.pending State.pending_endSlot _ _

@[simp] theorem State.pending_startFrame (s : State) : s.startFrame.pending = s.pending := by
  have opened : s.openCameras.pending = s.pending := State.pending_of_besideCameras s.besideCameras_openCameras
  simp [State.startFrame, opened]

@[simp] theorem State.pending_endLoad (s : State) (found : Option Body) : (s.endLoad found).pending = s.pending := by
  simp [State.endLoad, State.restartTables]

@[simp] theorem State.pending_warmReset (s : State) {first : State → State} (h : ∀ t : State, (first t).pending = t.pending) :
    (s.warmReset first).pending = s.pending := by
  have blocks : s.warmBlocks.pending = s.pending := by simp [State.warmBlocks, State.restartTables]
  unfold State.warmReset State.noteServiceEnd
  split <;> simp [h, blocks]

theorem State.pending_lineFalls (s : State) : s.lineFalls.pending = s.pending := by
  unfold State.lineFalls; repeat' split
  all_goals simp

@[simp] theorem State.pending_canFrame (s : State) (l : Link) (ident : BitVec 11) (payload : List Byte) :
    (s.canFrame l ident payload).pending = s.pending := by
  unfold State.canFrame; repeat' split
  all_goals simp

@[simp] theorem State.pending_cutExchange (s : State) : s.cutExchange.pending = s.pending := rfl

@[simp] theorem State.pending_completeExchange (s : State) (half : List Byte) :
    (s.completeExchange half).pending = s.pending := by
  unfold State.completeExchange; dsimp only; repeat' split
  all_goals simp

@[simp] theorem State.pending_ownerExpiry (s : State) (l : Link) : (s.ownerExpiry l).pending = s.pending := by
  unfold State.ownerExpiry; split
  · rfl
  · rw [State.pending_of_besideViews (State.besideViews_clearMasks _ l)]; simp

@[simp] theorem State.pending_dipExpiry (s : State) : s.dipExpiry.pending = s.pending := by
  unfold State.dipExpiry; split <;> rfl

@[simp] theorem State.pending_recoveryExpiry (s : State) : s.recoveryExpiry.pending = s.pending := by
  unfold State.recoveryExpiry; split <;> rfl

/-! ## The command queue through the requests -/

section
variable (l : Link) (r : Request) (s : State)

theorem actObjectPut_pending : (actObjectPut l r s).1.pending = s.pending := by
  unfold actObjectPut; dsimp only; repeat' split
  all_goals simp

theorem actObjectMove_pending : (actObjectMove l r s).1.pending = s.pending := by
  unfold actObjectMove; repeat' split
  all_goals simp

theorem actObjectStyle_pending : (actObjectStyle l r s).1.pending = s.pending := by
  unfold actObjectStyle; repeat' split
  all_goals simp

theorem actTextSetCursor_pending : (actTextSetCursor l r s).1.pending = s.pending := by
  unfold actTextSetCursor; dsimp only; repeat' split
  all_goals simp

theorem actTextAppend_pending : (actTextAppend l r s).1.pending = s.pending := by
  unfold actTextAppend; dsimp only; repeat' split
  all_goals simp

theorem actObjectRemove_pending : (actObjectRemove l r s).1.pending = s.pending := by
  unfold actObjectRemove; repeat' split
  all_goals simp

theorem actVehicleState_pending : (actVehicleState l r s).1.pending = s.pending := by
  unfold actVehicleState; repeat' split
  all_goals simp

theorem actBodyState_pending : (actBodyState l r s).1.pending = s.pending := by
  unfold actBodyState; repeat' split
  all_goals simp

theorem actTrackUpdate_pending : (actTrackUpdate l r s).1.pending = s.pending := by
  unfold actTrackUpdate; dsimp only; repeat' split
  all_goals simp

theorem actTrackDrop_pending : (actTrackDrop l r s).1.pending = s.pending := by
  unfold actTrackDrop; repeat' split
  all_goals simp

theorem actZoneAck_pending : (actZoneAck l r s).1.pending = s.pending := by
  unfold actZoneAck; dsimp only; repeat' split
  all_goals simp

theorem actStatusQuery_pending : (actStatusQuery l r s).1.pending = s.pending := by
  unfold actStatusQuery; repeat' split
  all_goals simp

theorem actServiceEnter_pending : (actServiceEnter l r s).1.pending = s.pending := by
  unfold actServiceEnter; repeat' split
  all_goals simp

theorem actServiceExit_pending : (actServiceExit l r s).1.pending = s.pending := by
  unfold actServiceExit; repeat' split
  all_goals simp

theorem actSettingsWrite_pending : (actSettingsWrite l r s).1.pending = s.pending := by
  unfold actSettingsWrite; dsimp only; repeat' split
  all_goals simp

theorem actSettingsCommit_pending : (actSettingsCommit l r s).1.pending = s.pending := by
  unfold actSettingsCommit; repeat' split
  all_goals simp

theorem actSettingsRead_pending : (actSettingsRead r s).1.pending = s.pending := by
  unfold actSettingsRead; dsimp only; repeat' split
  all_goals simp

theorem actViewRequest_pending : (actViewRequest r s).1.pending = s.pending := by
  unfold actViewRequest; dsimp only; repeat' split
  all_goals simp [State.pending_of_besideViews (s.besideViews_raiseCause _)]

theorem actViewMaskSet_pending : (actViewMaskSet l r s).1.pending = s.pending := by
  unfold actViewMaskSet; split
  · exact State.pending_of_besideViews (s.besideViews_maskCauses l _)
  · rfl

end

/-! ## The command queue through a command -/

/-- The outcome is a next state with the queue of s. -/
def State.Answers (s : State) (o : Host.Outcome State Fault Refusal) : Prop := ∃ t, o = .next t ∧ t.pending = s.pending

theorem State.answers_next {s t : State} (h : t.pending = s.pending) : s.Answers (.next t) := ⟨t, rfl, h⟩

theorem State.answers_whileRunning {s : State} {f : State → State} (h : ∀ u : State, (f u).pending = u.pending) :
    s.Answers (whileRunning s f) := by
  refine State.answers_next ?_
  split
  · exact h s
  · rfl

theorem State.answers_whilePowered {s : State} {f : State → State} (h : ∀ u : State, (f u).pending = u.pending) :
    s.Answers (whilePowered s f) := by
  unfold whilePowered
  split
  · exact State.answers_next rfl
  · exact State.answers_next (h s)
  · exact State.answers_next (h s)

theorem State.answers_whileLoading (s : State) (found : Option Body) : s.Answers (whileLoading s found) := by
  refine State.answers_next ?_
  split <;> simp

/-- R179: a request leaves the command queue where the block that owns its effect does. -/
theorem State.answers_request {s : State} {row : RequestRow} {l : Link} {act : Request → State → State × Answer}
    (h : ∀ r u, (act r u).1.pending = u.pending) : s.Answers (whileRunning s (answering row l act)) :=
  State.answers_whileRunning (answering_fixes State.pending (fun _ _ _ => rfl) row l act h)

/-- The work of a camera leaves the command queue. -/
theorem State.answers_camera {s : State} {f : State → State} (h : ∀ u : State, (f u).besideCameras = u.besideCameras) :
    s.Answers (whileRunning s f) :=
  State.answers_whileRunning fun u => State.pending_of_besideCameras (h u)

theorem State.answers_zones {s : State} {f : State → State} (h : ∀ u : State, (f u).besideZones = u.besideZones) :
    s.Answers (whileRunning s f) :=
  State.answers_whileRunning fun u => State.pending_of_besideZones (h u)

theorem State.answers_views {s : State} {f : State → State} (h : ∀ u : State, (f u).besideViews = u.besideViews) :
    s.Answers (whileRunning s f) :=
  State.answers_whileRunning fun u => State.pending_of_besideViews (h u)

theorem State.answers_link (s : State) (l : Link) (f : LinkCtl → LinkCtl) :
    s.Answers (whileRunning s fun u => u.onCtl l f) :=
  State.answers_whileRunning fun _ => rfl

theorem State.answers_supply (s : State) (f : Supply → Supply) :
    s.Answers (whilePowered s fun u => u.setSupply (f u.supply)) :=
  State.answers_whilePowered fun _ => rfl

/-- A timer that does not run leaves the state. -/
theorem State.pending_unless {s t : State} {P : Prop} [Decidable P] (h : t.pending = s.pending) :
    (if P then s else t).pending = s.pending := by
  split
  · rfl
  · exact h

theorem State.pending_answerUnknown (l : Link) (s : State) : (s.answerUnknown l).pending = s.pending := by
  unfold State.answerUnknown
  split
  · rfl
  · rename_i r t h
    obtain ⟨rest, -, -, -, rfl⟩ := State.takeHead_eq h
    rfl

theorem State.pending_answerReset (l : Link) (s : State) : (s.answerReset l).pending = s.pending := by
  unfold State.answerReset
  split
  · rfl
  · rename_i r t h
    obtain ⟨rest, -, -, -, rfl⟩ := State.takeHead_eq h
    split
    · rfl
    · split
      · rfl
      · exact State.pending_warmReset _ fun _ => rfl

/-! ## Every command (O2) -/

/-- Every command but a frame-start record answers, whatever the state. -/
theorem exec_answers {i : Instr} (h : ∀ c packet, i ≠ .frameStartRecord c packet) (s : State) : s.Answers (exec i s) := by
  cases i with
  | frameStartRecord c packet => exact absurd rfl (h c packet)
  | lineRecord c packet =>
    show s.Answers (execLineRecord c packet s)
    unfold execLineRecord
    split
    · exact State.answers_camera fun u => u.besideCameras_rowArrives c _
    · exact State.answers_next rfl
  | blankingRecord c packet =>
    show s.Answers (execBlankingRecord c packet s)
    unfold execBlankingRecord
    split
    · exact State.answers_camera fun u => u.besideCameras_rowArrives c _
    · exact State.answers_next rfl
  | silenceTimerExpiry c => exact State.answers_camera fun u => u.besideCameras_fallSilent c
  | returnTimerExpiry c =>
    exact State.answers_whileRunning fun u =>
      State.pending_unless (State.pending_of_besideCameras (u.besideCameras_sendWord c))
  | errorWindowEnd c => exact State.answers_camera fun u => u.besideCameras_windowEnd c
  | concealmentCopyFinish c => exact State.answers_camera (f := fun u => State.noteCamera c u (u.finishCopy c)) fun u => by simp
  | stopTimerExpiry c =>
    exact State.answers_camera (f := fun u => u.setReg c (u.reg c).stopExpiry) fun _ => rfl
  | outputFrameStart =>
    show s.Answers (execOutputFrameStart s)
    unfold execOutputFrameStart
    split
    · exact State.answers_whileRunning State.pending_startFrame
    · exact State.answers_next rfl
    · exact State.answers_next rfl
  | outputFrameEnd =>
    show s.Answers (execOutputFrameEnd s)
    unfold execOutputFrameEnd
    split
    · exact State.answers_whileRunning fun u => by simp
    · exact State.answers_next rfl
    · exact State.answers_next rfl
  | objectPut l => exact State.answers_request (actObjectPut_pending l)
  | objectMove l => exact State.answers_request (actObjectMove_pending l)
  | objectStyle l => exact State.answers_request (actObjectStyle_pending l)
  | objectTextSetCursor l => exact State.answers_request (actTextSetCursor_pending l)
  | objectTextAppend l => exact State.answers_request (actTextAppend_pending l)
  | objectRemove l => exact State.answers_request (actObjectRemove_pending l)
  | objectRemoveAll l => exact State.answers_request fun _ _ => rfl
  | stripSet l => exact State.answers_request fun _ _ => rfl
  | ownerSilenceTimerExpiry l => exact State.answers_whileRunning fun u => u.pending_ownerExpiry l
  | vehicleState l => exact State.answers_request (actVehicleState_pending l)
  | bodyState l => exact State.answers_request (actBodyState_pending l)
  | indicatorOffDelayExpiry => exact State.answers_whileRunning fun u => State.pending_unless (u.pending_takeVehicle _)
  | chassisSilenceTimerExpiry => exact State.answers_whileRunning fun u => State.pending_unless (u.pending_takeVehicle _)
  | bodySilenceTimerExpiry => exact State.answers_whileRunning fun u => State.pending_unless (u.pending_takeVehicle _)
  | trackUpdate l => exact State.answers_request (actTrackUpdate_pending l)
  | trackExpiry p => exact State.answers_whileRunning (f := fun u => u.trackExpiry p) fun u => u.pending_trackExpiry p
  | trackDrop l => exact State.answers_request (actTrackDrop_pending l)
  | holdTimerExpiry z => exact State.answers_zones fun u => u.besideZones_holdExpiry z
  | dwellPeriodEnd z => exact State.answers_zones fun u => u.besideZones_dwellEnd z
  | zoneAck l => exact State.answers_request (actZoneAck_pending l)
  | segmentTimerExpiry =>
    exact State.answers_whileRunning (f := fun u => { u with alert := u.alert.segmentExpiry u.body }) fun _ => rfl
  | viewRequest l => exact State.answers_request actViewRequest_pending
  | viewMaskSet l => exact State.answers_request (actViewMaskSet_pending l)
  | viewMaskClear l =>
    exact State.answers_request fun _ u => State.pending_of_besideViews (u.besideViews_unmaskCauses l _)
  | causeTimerExpiry i => exact State.answers_views fun u => u.besideViews_causeExpiry i
  | showTimerExpiry => exact State.answers_views State.besideViews_showExpiry
  | canRequestFrame p ident payload => exact State.answers_whileRunning fun u => u.pending_canFrame p.link ident payload
  | spiExchangeStart =>
    show s.Answers (execSpiExchangeStart s)
    unfold execSpiExchangeStart
    split
    · exact s.answers_link _ _
    · exact State.answers_next rfl
    · exact State.answers_next rfl
  | spiExchange half =>
    show s.Answers (execSpiExchange half s)
    unfold execSpiExchange
    split
    · refine State.answers_whileRunning fun u => ?_
      split
      · exact u.pending_cutExchange
      · exact u.pending_completeExchange half
    · exact State.answers_next rfl
    · exact State.answers_next rfl
  | spiExchangeCutShort =>
    show s.Answers (execSpiExchangeCutShort s)
    unfold execSpiExchangeCutShort
    split
    · exact State.answers_whileRunning State.pending_cutExchange
    · exact State.answers_next rfl
    · exact State.answers_next rfl
  | canFrameAcknowledged p => exact s.answers_link _ _
  | canArbitrationLoss p => exact s.answers_link _ _
  | canBusError p => exact s.answers_link _ _
  | canBusOff p => exact s.answers_link _ _
  | canBusOffRecovery p => exact s.answers_link _ _
  | unknownKind l => exact State.answers_whileRunning (State.pending_answerUnknown l)
  | statusQuery l => exact State.answers_request (actStatusQuery_pending l)
  | serviceEnter l => exact State.answers_request (actServiceEnter_pending l)
  | serviceExit l => exact State.answers_request (actServiceExit_pending l)
  | settingsWrite l => exact State.answers_request (actSettingsWrite_pending l)
  | settingsRead l => exact State.answers_request actSettingsRead_pending
  | settingsCommit l => exact State.answers_request (actSettingsCommit_pending l)
  | commitWriteComplete => exact State.answers_whileRunning fun u => u.pending_endCommit _
  | commitWriteFailed => exact State.answers_whileRunning fun u => u.pending_endCommit _
  | commitLimitExpiry => exact State.answers_whileRunning fun u => u.pending_endCommit _
  | coldReset below => exact State.answers_next rfl
  | settingsLoadEnd => exact s.answers_whileLoading _
  | settingsLoadLimitExpiry => exact s.answers_whileLoading _
  | settingsLoadNotAcknowledged => exact s.answers_whileLoading _
  | resetN => exact State.answers_next s.pending_lineFalls
  | reset l => exact State.answers_whileRunning (State.pending_answerReset l)
  | supplyFallBelow18V => exact s.answers_supply _
  | supplyRiseTo18V => exact s.answers_supply _
  | supplyRiseTo20V => exact s.answers_supply _
  | supplyFallBelow20V => exact s.answers_supply _
  | dipTimerExpiry => exact State.answers_whilePowered State.pending_dipExpiry
  | recoveryTimerExpiry => exact State.answers_whilePowered State.pending_recoveryExpiry
  | supplyStop => exact State.answers_next (State.pending_unless rfl)
  | resetNRise => exact State.answers_next rfl

/-- R7, R8, R27: a fill is to open in a camera that has no slot for it. -/
theorem State.noSlotFor_iff {s : State} {c : Camera} {cycle : Nat} :
    s.noSlotFor c cycle = true ↔
      ∃ a, ((s.recv c).lock = .confirm ∨ (s.recv c).lock = .locked) ∧ (s.recv c).place = 484 ∧ (s.recv c).anchor = some a ∧
        cycle = (a + 1) % 16 ∧ (s.recv c).fill = none ∧ ∀ j, ((s.pict c).slot j).state ≠ .free := by
  simp only [State.noSlotFor, Receiver.opensFill, Bool.and_eq_true, Bool.or_eq_true, beq_iff_eq, Receiver.expects_iff,
    Option.isNone_iff_eq_none, Picture.lowestFree_eq_none]
  constructor
  · rintro ⟨⟨⟨lock, place, a, anchor, next⟩, fill⟩, free⟩
    exact ⟨a, lock, place, anchor, next, fill, free⟩
  · rintro ⟨a, lock, place, anchor, next, fill, free⟩
    exact ⟨⟨⟨lock, place, a, anchor, next⟩, fill⟩, free⟩

theorem exec_frameStart_faults {s : State} {c : Camera} {packet : List Byte} {cycle : Nat}
    (h : classify packet = .frameStart cycle) (hr : s.phase = .running) (hn : s.noSlotFor c cycle = true) :
    exec (.frameStartRecord c packet) s = .fault .noFreeSlot := by
  simp [exec, execFrameStartRecord, h, hr, hn]

theorem exec_frameStart_answers {s : State} {c : Camera} {packet : List Byte}
    (h : ∀ cycle, classify packet = .frameStart cycle → s.phase = .running → s.noSlotFor c cycle = false) :
    s.Answers (exec (.frameStartRecord c packet) s) := by
  show s.Answers (execFrameStartRecord c packet s)
  unfold execFrameStartRecord
  split
  · rename_i cycle hc
    rw [if_neg fun e => by simp [h cycle hc e.1] at e]
    exact State.answers_camera fun u => by simp
  · exact State.answers_next rfl

/-- Settles O2: a frame-start record without its slot faults; every other command answers and leaves the queue. -/
theorem everyCommandAnswersNext : Obligations.EveryCommandAnswersNext := by
  intro i s Stuck
  refine ⟨?_, fun free => ?_⟩
  · rintro ⟨hr, c, packet, cycle, a, rfl, hc, stuck⟩
    exact exec_frameStart_faults hc hr (State.noSlotFor_iff.mpr ⟨a, stuck⟩)
  · by_cases hi : ∃ c packet, i = .frameStartRecord c packet
    · obtain ⟨c, packet, rfl⟩ := hi
      refine exec_frameStart_answers fun cycle hc hr => Bool.eq_false_iff.mpr fun hn => free ?_
      obtain ⟨a, stuck⟩ := State.noSlotFor_iff.mp hn
      exact ⟨hr, c, packet, cycle, a, rfl, hc, stuck⟩
    · exact exec_answers (fun c packet e => hi ⟨c, packet, e⟩) s

end Sys2Proof.Machine
end

section
/-! SUPPORT. The slots of one camera in order (R26): what each operation on the picture memory keeps of `Picture.Ok`. -/

namespace Sys2Proof.Machine

/-! ## One slot -/

/-- R26, R33 for one slot: held by nobody while FREE or FILLING, by somebody while SUPERSEDED. -/
structure PicSlot.Kept (x : PicSlot) : Prop where
  unheld : x.state = .free ∨ x.state = .filling → x.holders = Holders.none
  held : x.state = .superseded → x.holders ≠ Holders.none

theorem Picture.Ok.kept {p : Picture} {fill : Option SlotIx} (h : p.Ok fill) (i : SlotIx) : (p.slot i).Kept :=
  ⟨h.unheld i, h.held i⟩

theorem PicSlot.Kept.of_latest {x : PicSlot} (h : x.state = .latest) : x.Kept := by
  constructor <;> simp [h]

theorem PicSlot.Kept.of_unheld {x : PicSlot} (h : x.holders = Holders.none) (hs : x.state ≠ .superseded) : x.Kept :=
  ⟨fun _ => h, fun e => absurd e hs⟩

theorem PicSlot.release_eq (x : PicSlot) (k : Holder) :
    x.release k =
      { x with
        holders := x.holders.put k false
        state := if x.state = .superseded ∧ x.holders.put k false = Holders.none then .free else x.state } := by
  simp only [PicSlot.release, Holders.count_eq_zero]

@[simp] theorem PicSlot.release_keeps (x : PicSlot) (k : Holder) :
    (x.release k).holders = x.holders.put k false ∧ (x.release k).pixels = x.pixels ∧ (x.release k).groups = x.groups ∧
    (x.release k).figures = x.figures := ⟨rfl, rfl, rfl, rfl⟩

/-- R33: a release makes no slot FILLING or LATEST, and none of these another. -/
@[simp] theorem PicSlot.release_state_iff (x : PicSlot) (k : Holder) :
    ((x.release k).state = .filling ↔ x.state = .filling) ∧ ((x.release k).state = .latest ↔ x.state = .latest) := by
  rw [PicSlot.release_eq]
  dsimp only
  split
  · rename_i h; simp [h.1]
  · exact ⟨Iff.rfl, Iff.rfl⟩

/-- R26: no holder but MONITOR, RECORDER and the copy. -/
theorem Holders.eq_none_iff {h : Holders} :
    h = Holders.none ↔ h.monitor = false ∧ h.recorder = false ∧ h.copy = false := by
  obtain ⟨a, b, c⟩ := h
  simp [Holders.none]

theorem Holders.put_of_has {h : Holders} {k : Holder} {on : Bool} (e : h.has k = on) : h.put k on = h := by
  subst e
  cases k <;> rfl

/-- R33: the release of a hold that is not there changes nothing. -/
theorem PicSlot.Kept.release_of_not_held {x : PicSlot} {k : Holder} (h : x.Kept) (e : x.holders.has k = false) :
    x.release k = x := by
  have free : ¬ (x.state = .superseded ∧ x.holders = Holders.none) := fun ⟨hs, hn⟩ => h.held hs hn
  rw [PicSlot.release_eq, Holders.put_of_has e, if_neg free]

theorem PicSlot.Kept.release {x : PicSlot} (h : x.Kept) (k : Holder) : (x.release k).Kept := by
  rw [PicSlot.release_eq]
  by_cases hf : x.state = .superseded ∧ x.holders.put k false = Holders.none
  · rw [if_pos hf]
    exact ⟨fun _ => hf.2, fun e => by cases e⟩
  · rw [if_neg hf]
    refine ⟨fun hs => ?_, fun hs hn => hf ⟨hs, hn⟩⟩
    have none := h.unheld hs
    rw [Holders.put_of_has (by rw [none]; cases k <;> rfl), none]

theorem PicSlot.retire_kept (x : PicSlot) : x.retire.Kept := by
  rw [PicSlot.retire_eq]
  by_cases h : x.holders = Holders.none
  · rw [if_pos h]; exact ⟨fun _ => h, fun e => by cases e⟩
  · rw [if_neg h]; exact ⟨fun e => by simp at e, fun _ => h⟩

@[simp] theorem PicSlot.retire_keeps (x : PicSlot) :
    x.retire.holders = x.holders ∧ x.retire.pixels = x.pixels ∧ x.retire.groups = x.groups ∧
    x.retire.figures = x.figures ∧ x.retire.state ≠ .filling ∧ x.retire.state ≠ .latest := by
  unfold PicSlot.retire
  refine ⟨rfl, rfl, rfl, rfl, ?_⟩
  dsimp only
  split <;> decide

/-! ## Operations that leave the holders -/

/-- R26 after an operation that leaves every holder where it was. -/
theorem Picture.Ok.restate {p q : Picture} {fill fill' : Option SlotIx} (h : p.Ok fill)
    (filling : ∀ i, (q.slot i).state = .filling ↔ fill' = some i) (latest : ∀ i, (q.slot i).state = .latest ↔ q.latest = some i)
    (kept : ∀ i, (q.slot i).Kept) (holders : ∀ i, (q.slot i).holders = (p.slot i).holders)
    (source : q.copy.bind Copy.source = p.copy.bind Copy.source)
    (target : ∀ k, q.copy = some k → k.target = none ∨ k.target = fill') : q.Ok fill' where
  filling := filling
  latest := latest
  unheld i := (kept i).unheld
  held i := (kept i).held
  recorder i j := by rw [holders i, holders j]; exact h.recorder i j
  monitor i := by rw [holders i]; exact h.monitor i
  copy i := by rw [holders i, source]; exact h.copy i
  target := target

/-- R26 speaks of the states and holders of the slots, of LATEST and of the copy in flight. -/
theorem Picture.Ok.congr {p q : Picture} {fill : Option SlotIx} (h : p.Ok fill)
    (state : ∀ i, (q.slot i).state = (p.slot i).state) (holders : ∀ i, (q.slot i).holders = (p.slot i).holders)
    (latest : q.latest = p.latest) (copy : q.copy = p.copy) : q.Ok fill :=
  h.restate (fun i => by rw [state]; exact h.filling i) (fun i => by rw [state, latest]; exact h.latest i)
    (fun i => ⟨by rw [state, holders]; exact h.unheld i, by rw [state, holders]; exact h.held i⟩) holders (by rw [copy])
    (by rw [copy]; exact h.target)

/-- R2: a row written leaves the order of the slots. -/
theorem Picture.Ok.writeRow {p : Picture} {fill : Option SlotIx} (h : p.Ok fill) (i : SlotIx) (row : Nat)
    (bytes : List Byte) : (p.setSlot i ((p.slot i).writeRow row bytes)).Ok fill := by
  have slot := fun j => p.slot_setSlot i j ((p.slot i).writeRow row bytes)
  refine h.congr (fun j => ?_) (fun j => ?_) rfl rfl
  · rw [slot]; split
    · rename_i e; subst e; rfl
    · rfl
  · rw [slot]; split
    · rename_i e; subst e; rfl
    · rfl

theorem Picture.Ok.atReset : Picture.atReset.Ok none := by
  have slot : ∀ i, Picture.atReset.slot i = PicSlot.atReset := by decide
  have latest : Picture.atReset.latest = none := rfl
  have copy : Picture.atReset.copy = none := rfl
  constructor
  all_goals simp only [slot, latest, copy]
  all_goals simp [PicSlot.atReset, Holders.none]

@[simp] theorem Picture.openFill_keeps (p : Picture) (i : SlotIx) :
    (p.openFill i).latest = p.latest ∧ (p.openFill i).copy = p.copy := ⟨rfl, rfl⟩

theorem Picture.openFill_slot (p : Picture) (i j : SlotIx) :
    ((p.openFill i).slot j).state = (if j = i then .filling else (p.slot j).state) ∧
    ((p.openFill i).slot j).holders = (p.slot j).holders := by
  by_cases h : j = i
  · subst h; rw [Picture.openFill_slot_self]; simp
  · rw [Picture.openFill_slot_of_ne p h]; simp [h]

/-- R27: a FREE slot takes the fill. -/
theorem Picture.Ok.openFill {p : Picture} {i : SlotIx} (h : p.Ok none) (free : (p.slot i).state = .free) :
    (p.openFill i).Ok (some i) := by
  have notLatest : p.latest ≠ some i := fun e => by
    have := (h.latest i).mpr e
    rw [free] at this
    cases this
  have slot := p.openFill_slot i
  refine h.restate (fun j => ?_) (fun j => ?_) (fun j => ?_) (fun j => (slot j).2) rfl
    fun k hk => .inl ((h.target k hk).elim id id)
  · rw [(slot j).1]
    by_cases e : j = i
    · simp [e]
    · simp [e, h.filling j, Ne.symm e]
  · rw [(slot j).1]
    by_cases e : j = i
    · subst e; simpa using notLatest
    · simpa [e] using h.latest j
  · by_cases e : j = i
    · subst e
      exact .of_unheld ((slot j).2.trans (h.unheld j (.inl free))) (by simp [slot])
    · rw [Picture.openFill_slot_of_ne p e]; exact h.kept j

theorem Picture.abandon_slot (p : Picture) (i j : SlotIx) :
    ((p.abandon i).slot j).state = (if j = i then .free else (p.slot j).state) ∧
    ((p.abandon i).slot j).holders = (p.slot j).holders ∧ ((p.abandon i).slot j).pixels = (p.slot j).pixels := by
  by_cases h : j = i
  · subst h
    have self : (p.abandon j).slot j = _ := p.slot_setSlot_self j _
    rw [self]; simp
  · rw [Picture.abandon_slot_of_ne p h]; simp [h]

/-- R32: the writes of a copy into an abandoned fill are discarded; what the copy reads stays. -/
theorem Picture.abandon_copy (p : Picture) (i : SlotIx) :
    (p.abandon i).copy = p.copy.map fun c => if c.target = some i then { c with target := none } else c := rfl

/-- A FILLING slot is not LATEST. -/
theorem Picture.Ok.latest_ne_fill {p : Picture} {i : SlotIx} (h : p.Ok (some i)) : p.latest ≠ some i := fun e => by
  have latest := (h.latest i).mpr e
  rw [(h.filling i).mpr rfl] at latest
  cases latest

/-- R30, R32: the slot of an abandoned fill is FREE, and a copy into it has no target any more. -/
theorem Picture.Ok.abandon {p : Picture} {i : SlotIx} (h : p.Ok (some i)) : (p.abandon i).Ok none := by
  have slot := p.abandon_slot i
  refine h.restate (fun j => ?_) (fun j => ?_) (fun j => ?_) (fun j => (slot j).2.1) ?_ (fun k hk => .inl ?_)
  · rw [(slot j).1]
    by_cases e : j = i
    · simp [e]
    · simp [e, h.filling j, Ne.symm e]
  · rw [(slot j).1]
    by_cases e : j = i
    · subst e; simpa using h.latest_ne_fill
    · simpa [e] using h.latest j
  · by_cases e : j = i
    · subst e
      exact .of_unheld ((slot j).2.1.trans (h.unheld j (.inr ((h.filling j).mpr rfl)))) (by simp [slot])
    · rw [Picture.abandon_slot_of_ne p e]; exact h.kept j
  · rw [Picture.abandon_copy]
    cases p.copy with
    | none => rfl
    | some k => by_cases e : k.target = some i <;> simp [e]
  · rw [Picture.abandon_copy] at hk
    obtain ⟨k', hk', rfl⟩ := Option.map_eq_some_iff.mp hk
    by_cases e : k'.target = some i
    · simp [e]
    · simpa [e] using (h.target k' hk').resolve_right e

@[simp] theorem Picture.complete_copy (p : Picture) (i : SlotIx) : (p.complete i).copy = p.copy := by
  unfold Picture.complete
  dsimp only [Picture.setSlot_keeps]
  split
  · split <;> rfl
  · rfl

/-- R29: the completed slot is LATEST and the LATEST before it is retired. -/
theorem Picture.Ok.complete {p : Picture} {i : SlotIx} (h : p.Ok (some i)) (hc : p.copy = none) :
    (p.complete i).Ok none := by
  have slot := fun j => p.complete_slot j h.latest_ne_fill
  refine h.restate (fun j => ?_) (fun j => ?_) (fun j => ?_) (fun j => ?_) (by simp) (by simp [hc])
  · rw [slot]
    split
    · simp
    · rename_i e
      split
      · simp
      · simp [h.filling j, Ne.symm e]
  · rw [slot, (p.complete_sets i).1]
    split
    · rename_i e; simp [e]
    · rename_i e
      split
      · simp [Ne.symm e]
      · rename_i hl; simp [h.latest j, Ne.symm e, hl]
  · rw [slot]
    split
    · exact .of_latest rfl
    · split
      · exact PicSlot.retire_kept _
      · exact h.kept j
  · rw [slot]
    split
    · rename_i e; rw [e]
    · split <;> simp

/-! ## Copies -/

/-- R32: the holds after the copy in flight has finished, where the slots were in order. -/
theorem Picture.Ok.finishCopy_slot {p : Picture} {fill : Option SlotIx} {k : Copy} (h : p.Ok fill) (hk : p.copy = some k)
    (j : SlotIx) : p.finishCopy.slot j = ((p.landCopy k).slot j).release .copy := by
  have source := h.copy j
  rw [hk] at source
  rw [Picture.finishCopy_slot hk]
  split
  · rfl
  · rename_i hn
    have unheld : (p.slot j).holders.copy = false := Bool.eq_false_iff.mpr fun e => hn ⟨source.mp e, e⟩
    have landed : ((p.landCopy k).slot j).Kept ∧ ((p.landCopy k).slot j).holders = (p.slot j).holders := by
      rw [Picture.landCopy_slot]
      split
      · exact ⟨⟨h.unheld j, h.held j⟩, rfl⟩
      · exact ⟨h.kept j, rfl⟩
    exact (landed.1.release_of_not_held (by rw [landed.2]; exact unheld)).symm

/-- R32, R33: as the copy in flight finishes, each slot is as its release from the copy would leave it, but for its pixels. -/
theorem Picture.Ok.finishCopy_release {p : Picture} {fill : Option SlotIx} (h : p.Ok fill) (j : SlotIx) :
    p.finishCopy.slot j = { (p.slot j).release .copy with pixels := (p.finishCopy.slot j).pixels } := by
  cases hk : p.copy with
  | none =>
    have unheld : (p.slot j).holders.copy = false :=
      Bool.eq_false_iff.mpr fun e => by simpa [hk] using (h.copy j).mp e
    rw [Picture.finishCopy_of_no_copy hk, (h.kept j).release_of_not_held (by exact unheld)]
  | some k =>
    rw [h.finishCopy_slot hk, Picture.landCopy_slot]
    split <;> rfl

theorem Picture.Ok.finishCopy {p : Picture} {fill : Option SlotIx} (h : p.Ok fill) : p.finishCopy.Ok fill := by
  have state : ∀ j, (p.finishCopy.slot j).state = ((p.slot j).release .copy).state := fun j => by
    rw [h.finishCopy_release j]
  have holders : ∀ j, (p.finishCopy.slot j).holders = ((p.slot j).release .copy).holders := fun j => by
    rw [h.finishCopy_release j]
  have kept : ∀ j, (p.finishCopy.slot j).Kept := fun j => by
    have := (h.kept j).release .copy
    exact ⟨by rw [state, holders]; exact this.unheld, by rw [state, holders]; exact this.held⟩
  refine ⟨fun j => ?_, fun j => ?_, fun j => (kept j).unheld, fun j => (kept j).held, fun i j => ?_, fun j => ?_,
    fun j => ?_, by simp⟩
  · rw [state, (PicSlot.release_state_iff _ _).1]; exact h.filling j
  · rw [state, (PicSlot.release_state_iff _ _).2, (p.finishCopy_keeps).1]; exact h.latest j
  · rw [holders, holders]; exact h.recorder i j
  · rw [holders]; exact h.monitor j
  · rw [h.finishCopy_unheld j]; simp

/-- R31: with no copy in flight a copy of LATEST into the fill may start. -/
theorem Picture.Ok.startCopy {p : Picture} {i : SlotIx} (h : p.Ok (some i)) (hc : p.copy = none) (g : Nat) :
    (p.startCopy g i).Ok (some i) := by
  have unheld : ∀ j, (p.slot j).holders.copy = false := fun j =>
    Bool.eq_false_iff.mpr fun e => by simpa [hc] using (h.copy j).mp e
  have slot := p.startCopy_slot g i
  refine ⟨fun j => ?_, fun j => ?_, fun j hj => ?_, fun j hj => ?_, fun j l => ?_, fun j => ?_, fun j => ?_, fun k hk => ?_⟩
  · rw [slot]; exact h.filling j
  · rw [slot, (p.startCopy_keeps g i).1]; exact h.latest j
  · rw [slot] at hj ⊢
    have notLatest : p.latest ≠ some j := fun e => by
      have := (h.latest j).mpr e
      rcases hj with hj | hj <;> simp [this] at hj
    simpa [notLatest] using h.unheld j hj
  · rw [slot] at hj ⊢
    have notLatest : p.latest ≠ some j := fun e => by
      have := (h.latest j).mpr e
      simp [this] at hj
    simpa [notLatest] using h.held j hj
  · have recorder : ∀ j, ((p.startCopy g i).slot j).holders.recorder = (p.slot j).holders.recorder := fun j => by
      rw [slot]; dsimp only; split <;> rfl
    rw [recorder, recorder]; exact h.recorder j l
  · rw [slot]
    have := h.monitor j
    dsimp only
    split <;> exact this
  · rw [slot, Picture.startCopy_copy]
    by_cases e : p.latest = some j
    · simp [e, Holders.put]
    · simp [e, unheld j]
  · rw [Picture.startCopy_copy] at hk
    obtain rfl := Option.some.inj hk
    exact .inr rfl

end Sys2Proof.Machine
end

section
/-! SUPPORT. The picture memory of one camera at a frame start (R34 to R37) and at a warm reset (R42). -/

namespace Sys2Proof.Machine

/-! ## One holder moves (R34) -/

/-- A holder holds one slot at most. -/
def Picture.HeldOnce (p : Picture) (k : Holder) : Prop :=
  ∀ i j, (p.slot i).holders.has k = true → (p.slot j).holders.has k = true → i = j

theorem Picture.Ok.heldOnce_recorder {p : Picture} {fill : Option SlotIx} (h : p.Ok fill) : p.HeldOnce .recorder :=
  h.recorder

theorem Picture.Ok.heldOnce_monitor {p : Picture} {fill : Option SlotIx} (h : p.Ok fill) : p.HeldOnce .monitor :=
  fun i j hi hj => h.recorder i j (h.monitor i hi) (h.monitor j hj)

theorem Picture.HeldOnce.heldBy_iff {p : Picture} {k : Holder} (h : p.HeldOnce k) {i : SlotIx} :
    p.heldBy k = some i ↔ (p.slot i).holders.has k = true := by
  constructor
  · exact fun e => List.find?_some (p := fun i => (p.slot i).holders.has k) e
  · intro hi
    cases e : p.heldBy k with
    | none => exact absurd hi (List.find?_eq_none.mp e i (List.mem_finRange i))
    | some j => rw [h j i (List.find?_some (p := fun i => (p.slot i).holders.has k) e) hi]

theorem Picture.HeldOnce.drop_slot {p : Picture} {k : Holder} (h : p.HeldOnce k) (kept : ∀ i, (p.slot i).Kept)
    (i : SlotIx) : (p.drop k).slot i = (p.slot i).release k := by
  have unheld : p.heldBy k ≠ some i → (p.slot i).release k = p.slot i := fun e =>
    (kept i).release_of_not_held (Bool.eq_false_iff.mpr (mt h.heldBy_iff.mpr e))
  unfold Picture.drop
  cases e : p.heldBy k with
  | none => exact (unheld (by simp [e])).symm
  | some j =>
    have held := h.heldBy_iff.mp e
    rw [Picture.release_slot]
    by_cases hij : i = j
    · simp [hij, held]
    · simp [hij, unheld (by simp [e, Ne.symm hij])]

/-- R34: the slot a composer is to hold. -/
def Picture.wanted (p : Picture) (uses : Bool) : Option SlotIx :=
  if uses = true ∧ p.freshness ≠ .lost then p.latest else none

/-- R34: after a hold has moved, the slot wanted carries it and every other slot has been released from it. -/
theorem Picture.HeldOnce.moveHold_slot {p : Picture} {k : Holder} (h : p.HeldOnce k) (kept : ∀ i, (p.slot i).Kept)
    (uses : Bool) (i : SlotIx) :
    (p.moveHold k uses).slot i =
      if p.wanted uses = some i then { p.slot i with holders := (p.slot i).holders.put k true }
      else (p.slot i).release k := by
  have unheld : p.heldBy k ≠ some i → (p.slot i).release k = p.slot i := fun e =>
    (kept i).release_of_not_held (Bool.eq_false_iff.mpr (mt h.heldBy_iff.mpr e))
  by_cases hw : uses = true ∧ p.freshness ≠ .lost
  · have cond : (uses && p.freshness != .lost) = true := by simpa using hw
    rw [Picture.wanted, if_pos hw]
    cases hl : p.latest with
    | none => simp only [Picture.moveHold, cond, hl]; simpa using h.drop_slot kept i
    | some j =>
      simp only [Picture.moveHold, cond, hl, Option.some.injEq]
      by_cases hj : p.heldBy k = some j
      · rw [if_pos hj]
        by_cases e : j = i
        · subst e; rw [if_pos rfl, Holders.put_of_has (h.heldBy_iff.mp hj)]
        · rw [if_neg e, unheld (by simp [hj, e])]
      · rw [if_neg hj]
        cases hb : p.heldBy k with
        | none =>
          simp only [Picture.hold_slot]
          by_cases e : i = j
          · subst e; simp
          · simp [e, Ne.symm e, unheld (by simp [hb])]
        | some l =>
          have held := h.heldBy_iff.mp hb
          have hlj : l ≠ j := fun e => hj (hb.trans (congrArg some e))
          simp only [Picture.release_slot, Picture.hold_slot, if_neg hlj, held, and_true]
          by_cases e : i = j
          · subst e; simp [Ne.symm hlj]
          · by_cases el : i = l
            · subst el; simp [Ne.symm e]
            · simp [e, el, Ne.symm e, unheld (by simp [hb, Ne.symm el])]
  · have cond : (uses && p.freshness != .lost) = false := by rw [← Bool.not_eq_true]; simpa using hw
    rw [Picture.wanted, if_neg hw]
    simpa [Picture.moveHold, cond] using h.drop_slot kept i

@[simp] theorem Picture.moveHold_keeps (p : Picture) (k : Holder) (uses : Bool) :
    (p.moveHold k uses).latest = p.latest ∧ (p.moveHold k uses).freshness = p.freshness ∧
    (p.moveHold k uses).age = p.age ∧ (p.moveHold k uses).shownAge = p.shownAge ∧
    (p.moveHold k uses).copy = p.copy := by
  unfold Picture.moveHold Picture.drop Picture.release Picture.hold
  repeat' split
  all_goals simp

/-! ## The judgement (R36, R37) -/

theorem judgedFreshness_lost_iff {latest : Option SlotIx} {age : Nat} :
    judgedFreshness latest age = .lost ↔ latest = none ∨ 60 ≤ age := by
  unfold judgedFreshness
  repeat' split
  all_goals simp_all
  all_goals omega

theorem judgedFreshness_eq (latest : Option SlotIx) (age : Nat) :
    judgedFreshness latest age =
      if latest = none ∨ 60 ≤ age then .lost else if age ≤ 3 then .fresh else .stale := by
  by_cases h : latest = none ∨ 60 ≤ age
  · rw [if_pos h, judgedFreshness_lost_iff.mpr h]
  · obtain ⟨hl, ha⟩ := not_or.mp h
    rw [if_neg h, judgedFreshness, if_neg hl, if_pos (show age ≤ 59 by omega)]

theorem Picture.judge_sets (p : Picture) :
    p.judge.freshness = judgedFreshness p.latest p.age ∧ p.judge.shownAge = p.age ∧ p.judge.age = min (p.age + 1) 255 ∧
    p.judge.copy = p.copy ∧ p.judge.latest = if 60 ≤ p.age then none else p.latest := by
  refine ⟨rfl, rfl, rfl, ?_, ?_⟩
  · unfold Picture.judge
    dsimp only
    split <;> rfl
  · cases hl : p.latest with
    | none => simp [Picture.judge, hl]
    | some j =>
      have lost := judgedFreshness_lost_iff (latest := some j) (age := p.age)
      by_cases ha : 60 ≤ p.age
      · simp [Picture.judge, hl, lost.mpr (.inr ha), ha]
      · have : judgedFreshness (some j) p.age ≠ .lost := fun e => by simpa [ha] using lost.mp e
        simp only [Picture.judge, hl, if_neg ha]
        split
        · contradiction
        · exact hl

theorem Picture.judge_slot (p : Picture) (i : SlotIx) :
    p.judge.slot i = if p.latest = some i ∧ 60 ≤ p.age then (p.slot i).retire else p.slot i := by
  have unmarked : ∀ (q : Picture) (l : Option SlotIx) (f : Freshness) (a b : Nat),
    ({ q with latest := l, freshness := f, shownAge := a, age := b } : Picture).slot i = q.slot i := fun _ _ _ _ _ => rfl
  cases hl : p.latest with
  | none => simp [Picture.judge, hl]; rfl
  | some j =>
    have lost := judgedFreshness_lost_iff (latest := some j) (age := p.age)
    by_cases ha : 60 ≤ p.age
    · simp only [Picture.judge, hl, lost.mpr (.inr ha), ha, and_true, unmarked, Option.some.injEq]
      rw [Picture.slot_setSlot]
      by_cases e : i = j
      · simp [e]
      · simp [e, Ne.symm e]
    · have : judgedFreshness (some j) p.age ≠ .lost := fun e => by simpa [ha] using lost.mp e
      simp only [Picture.judge, hl, ha, and_false, if_false]
      split
      · contradiction
      · rfl

/-- R36: a camera is judged LOST exactly where it has no LATEST any more. -/
theorem Picture.judge_lost_iff (p : Picture) : p.judge.freshness = .lost ↔ p.judge.latest = none := by
  obtain ⟨freshness, -, -, -, latest⟩ := p.judge_sets
  rw [freshness, latest, judgedFreshness_lost_iff]
  split <;> simp_all

theorem Picture.Ok.judge {p : Picture} {fill : Option SlotIx} (h : p.Ok fill) : p.judge.Ok fill := by
  obtain ⟨-, -, -, copy, latest⟩ := p.judge_sets
  have slot := p.judge_slot
  refine h.restate (fun i => ?_) (fun i => ?_) (fun i => ?_) (fun i => ?_) (by rw [copy]) (by rw [copy]; exact h.target)
  · rw [slot]
    split
    · rename_i e
      have isLatest := (h.latest i).mpr e.1
      simpa [isLatest] using h.filling i
    · exact h.filling i
  · rw [slot, latest]
    by_cases ha : 60 ≤ p.age
    · by_cases e : p.latest = some i
      · simp [e, ha]
      · simp [e, ha, h.latest i]
    · simpa [ha] using h.latest i
  · rw [slot]
    split
    · exact PicSlot.retire_kept _
    · exact h.kept i
  · rw [slot]
    split <;> simp

/-! ## The frame start -/

@[simp] theorem Picture.frameStart_keeps (p : Picture) (uses : Bool) :
    (p.frameStart uses).latest = p.judge.latest ∧ (p.frameStart uses).freshness = p.judge.freshness ∧
    (p.frameStart uses).age = p.judge.age ∧ (p.frameStart uses).shownAge = p.judge.shownAge ∧
    (p.frameStart uses).copy = p.judge.copy := by
  simp [Picture.frameStart]

theorem Picture.judge_wanted (p : Picture) (uses : Bool) :
    p.judge.wanted uses = if uses = true then p.judge.latest else none := by
  unfold Picture.wanted
  by_cases hl : p.judge.freshness = .lost
  · simp [hl, p.judge_lost_iff.mp hl]
  · simp [hl]

/-- R34: a slot stays in order as a hold moves onto it, where it is LATEST, or off it. -/
theorem PicSlot.moved_kept {x : PicSlot} (h : x.Kept) (k : Holder) {P : Prop} [Decidable P] (hl : P → x.state = .latest) :
    (if P then { x with holders := x.holders.put k true } else x.release k : PicSlot).Kept := by
  split
  · rename_i e; exact .of_latest (hl e)
  · exact h.release k

/-- R34, R35: LATEST is held by RECORDER, and by MONITOR where it uses the camera; every other slot is released from both. -/
theorem Picture.Ok.frameStart_slot {p : Picture} {fill : Option SlotIx} (h : p.Ok fill) (uses : Bool) (i : SlotIx) :
    (p.frameStart uses).slot i =
      if p.judge.latest = some i then
        { p.judge.slot i with
          holders := { monitor := uses, recorder := true, copy := (p.judge.slot i).holders.copy } }
      else ((p.judge.slot i).release .monitor).release .recorder := by
  have ok := h.judge
  let q := p.judge.moveHold .monitor uses
  have moved : ∀ j, q.slot j = _ := ok.heldOnce_monitor.moveHold_slot ok.kept uses
  have kept : ∀ j, (q.slot j).Kept := fun j => by
    rw [moved]
    refine PicSlot.moved_kept (ok.kept j) _ fun e => (ok.latest j).mpr ?_
    rw [p.judge_wanted] at e
    split at e
    · exact e
    · cases e
  have recorder : ∀ j, (q.slot j).holders.recorder = (p.judge.slot j).holders.recorder := fun j => by
    rw [moved]
    split <;> rfl
  have once : q.HeldOnce .recorder := fun a b ha hb => by
    rw [Holders.has, recorder] at ha hb
    exact ok.recorder a b ha hb
  have wanted : q.wanted true = p.judge.latest := by
    rw [← if_pos (c := true = true) rfl (t := p.judge.latest) (e := none), ← p.judge_wanted true]
    simp [Picture.wanted, q]
  have slot : (p.frameStart uses).slot i = _ := once.moveHold_slot kept true i
  rw [slot, wanted, moved, p.judge_wanted]
  by_cases e : p.judge.latest = some i
  · have state := (ok.latest i).mpr e
    cases uses <;> simp [e, Holders.put, PicSlot.release_eq, state]
  · cases uses <;> simp [e]

theorem Picture.Ok.frameStart {p : Picture} {fill : Option SlotIx} (h : p.Ok fill) (uses : Bool) :
    (p.frameStart uses).Ok fill := by
  have ok := h.judge
  have slot := h.frameStart_slot uses
  obtain ⟨latest, -, -, -, copy⟩ := p.frameStart_keeps uses
  have kept : ∀ i, ((p.frameStart uses).slot i).Kept := fun i => by
    rw [slot]
    split
    · rename_i e; exact .of_latest ((ok.latest i).mpr e)
    · exact ((ok.kept i).release _).release _
  have recorder : ∀ i, ((p.frameStart uses).slot i).holders.recorder = true → p.judge.latest = some i := fun i => by
    rw [slot]
    split
    · rename_i e; exact fun _ => e
    · intro e; cases e
  refine ⟨fun i => ?_, fun i => ?_, fun i => (kept i).unheld, fun i => (kept i).held, fun i j hi hj => ?_, fun i => ?_,
    fun i => ?_, ?_⟩
  · rw [slot]
    split
    · exact ok.filling i
    · simpa using ok.filling i
  · rw [slot, latest]
    split
    · exact ok.latest i
    · simpa using ok.latest i
  · exact Option.some.inj ((recorder i hi).symm.trans (recorder j hj))
  · rw [slot]
    split
    · exact fun _ => rfl
    · intro e; cases e
  · rw [slot, copy]
    split
    · exact ok.copy i
    · exact ok.copy i
  · rw [copy]; exact ok.target

/-! ## The warm reset (R42) -/

theorem Picture.warmReset_slot (p : Picture) (i : SlotIx) :
    p.warmReset.slot i = (p.slot i).warmReset (decide (p.copy.bind Copy.source = some i)) := by
  simp [Picture.slot, Picture.warmReset]

/-- R42: the slot that a copy in flight reads is SUPERSEDED and the copy's, every other one FREE. -/
theorem Picture.warmReset_ok (p : Picture) : p.warmReset.Ok none := by
  have slot := p.warmReset_slot
  have source : p.warmReset.copy.bind Copy.source = p.copy.bind Copy.source := by
    show (p.copy.map fun c => { c with target := none }).bind Copy.source = _
    cases p.copy <;> rfl
  constructor
  case target =>
    intro k hk
    obtain ⟨k', -, rfl⟩ := Option.map_eq_some_iff.mp hk
    exact .inl rfl
  case copy => intro i; rw [slot, source]; exact decide_eq_true_iff
  case recorder => intro i j hi; rw [slot] at hi; cases hi
  case monitor => intro i hi; rw [slot] at hi; cases hi
  all_goals
    intro i
    rw [slot]
    by_cases e : p.copy.bind Copy.source = some i
  all_goals simp [PicSlot.warmReset, e, Holders.none, show p.warmReset.latest = none from rfl]

end Sys2Proof.Machine
end

section
/-! An output frame starts (R34 to R37, R93, R155, R170): O24. -/

namespace Sys2Proof.Machine

/-! ## The cameras at a frame start -/

@[simp] theorem State.openCamera_keeps (s : State) (c : Camera) :
    (s.openCamera c).recv = s.recv ∧ (s.openCamera c).monitorUses = s.monitorUses := by
  unfold State.openCamera State.noteCamera
  split <;> exact ⟨rfl, rfl⟩

theorem State.openCamera_pict (s : State) (c d : Camera) :
    (s.openCamera c).pict d = if d = c then (s.pict c).frameStart (s.monitorUses c) else s.pict d := by
  simp only [State.openCamera, State.noteCamera_keeps]
  by_cases h : d = c
  · subst h; simp
  · simp [h, State.pict_setPict_of_ne]

/-- R34, R36: each camera of a list without repetition is judged and its holds are moved, once. -/
theorem State.foldl_openCamera_pict (l : List Camera) (hl : l.Nodup) (s : State) (d : Camera) :
    (l.foldl State.openCamera s).pict d =
      if d ∈ l then (s.pict d).frameStart (s.monitorUses d) else s.pict d := by
  induction l generalizing s with
  | nil => simp
  | cons c l ih =>
    obtain ⟨hc, hl⟩ := List.nodup_cons.mp hl
    rw [List.foldl_cons, ih hl, State.openCamera_pict, (s.openCamera_keeps c).2]
    by_cases h : d = c
    · subst h; simp [hc]
    · simp [h]

theorem State.openCameras_pict (s : State) (c : Camera) :
    s.openCameras.pict c = (s.pict c).frameStart (s.monitorUses c) := by
  simp [State.openCameras, State.foldl_openCamera_pict _ (List.nodup_finRange 4)]

/-- The frame start of the cameras changes pictures and links alone. -/
theorem State.openCameras_rest (s : State) (l : Vector LinkCtl 3) (p : Vector Picture 4) :
    { s.openCameras with links := l, pictures := p } = { s with links := l, pictures := p } := by
  refine State.foldl_fixes State.openCamera (fun u => { u with links := l, pictures := p }) (fun u c => ?_) _ s
  unfold State.openCamera State.noteCamera
  split <;> rfl

/-- What the frame start of the cameras leaves as it was, for the snapshot. -/
theorem State.openCameras_fields (s : State) :
    s.openCameras.recv = s.recv ∧ s.openCameras.phase = s.phase ∧ s.openCameras.receivers = s.receivers ∧
    s.openCameras.table = s.table ∧ s.openCameras.tracks = s.tracks ∧ s.openCameras.zones = s.zones ∧
    s.openCameras.vehicle = s.vehicle ∧ s.openCameras.arbiter = s.arbiter ∧ s.openCameras.alert = s.alert ∧
    s.openCameras.supply = s.supply ∧ s.openCameras.settings = s.settings ∧ s.openCameras.generator = s.generator := by
  have rest := s.openCameras_rest s.links s.pictures
  generalize s.openCameras = u at rest ⊢
  exact ⟨(congrArg State.recv rest :), (congrArg State.phase rest :), (congrArg State.receivers rest :),
    (congrArg State.table rest :), (congrArg State.tracks rest :), (congrArg State.zones rest :),
    (congrArg State.vehicle rest :), (congrArg State.arbiter rest :), (congrArg State.alert rest :),
    (congrArg State.supply rest :), (congrArg State.settings rest :), (congrArg State.generator rest :)⟩

/-! ## The holds the composers have taken -/

theorem Picture.Ok.frameStart_recorder {p : Picture} {fill : Option SlotIx} (h : p.Ok fill) (uses : Bool) (i : SlotIx) :
    ((p.frameStart uses).slot i).holders.recorder = true ↔ (p.frameStart uses).latest = some i := by
  rw [h.frameStart_slot, (p.frameStart_keeps uses).1]
  split
  · rename_i e; simp [e]
  · rename_i e; simp [e, Holders.put]

theorem Picture.Ok.frameStart_monitor {p : Picture} {fill : Option SlotIx} (h : p.Ok fill) (uses : Bool) (i : SlotIx) :
    ((p.frameStart uses).slot i).holders.monitor = true ↔ uses = true ∧ (p.frameStart uses).latest = some i := by
  rw [h.frameStart_slot, (p.frameStart_keeps uses).1]
  split
  · rename_i e; simp [e]
  · rename_i e; simp [e, Holders.put]

theorem Picture.Ok.frameStart_pixels {p : Picture} {fill : Option SlotIx} (h : p.Ok fill) (uses : Bool) (i : SlotIx) :
    ((p.frameStart uses).slot i).pixels = (p.slot i).pixels := by
  have judged : (p.judge.slot i).pixels = (p.slot i).pixels := by
    rw [Picture.judge_slot]
    split <;> simp
  rw [h.frameStart_slot]
  split
  · exact judged
  · exact judged

/-- R155: the slots the snapshot names are the composers'. -/
theorem Picture.Ok.frameStart_heldBy {p : Picture} {fill : Option SlotIx} (h : p.Ok fill) (uses : Bool) :
    (p.frameStart uses).heldBy .recorder = (p.frameStart uses).latest ∧
    (p.frameStart uses).heldBy .monitor = if uses = true then (p.frameStart uses).latest else none := by
  have ok := h.frameStart uses
  constructor
  · refine Option.ext fun i => ?_
    rw [ok.heldOnce_recorder.heldBy_iff]
    exact h.frameStart_recorder uses i
  · refine Option.ext fun i => ?_
    rw [ok.heldOnce_monitor.heldBy_iff]
    refine (h.frameStart_monitor uses i).trans ?_
    cases uses <;> simp

/-! ## The frame (O24) -/

theorem exec_outputFrameStart {s : State} (h : s.phase = .running) :
    exec .outputFrameStart s = .next s.startFrame.settle := by
  simp [exec, execOutputFrameStart, h, whileRunning_running h]

theorem State.pict_withFrame (s : State) (f : Option Frame) (t : ObjectTable) :
    State.pict { s with frame := f, table := t } = s.pict := rfl

/-- R155: what the snapshot holds of a camera. -/
theorem State.PicturesOk.shotOf_openCameras {s : State} (h : s.PicturesOk) (c : Camera) :
    s.openCameras.shotOf c =
      { monitorSlot := if s.monitorUses c then (s.openCameras.pict c).latest else none
        recorderSlot := (s.openCameras.pict c).latest, freshness := (s.openCameras.pict c).freshness
        age := (s.pict c).age, lock := (s.recv c).lock, degraded := (s.recv c).degraded } := by
  obtain ⟨recorder, monitor⟩ := (h.slots c).frameStart_heldBy (s.monitorUses c)
  obtain ⟨-, -, -, shownAge, -⟩ := (s.pict c).frameStart_keeps (s.monitorUses c)
  simp only [State.shotOf, s.openCameras_pict, recorder, monitor, shownAge, s.openCameras_fields.1]
  rfl

/-- Settles O24: each camera by what its frame start does, the snapshot by what the cameras' frame starts leave. -/
theorem frameStartJudgesAndSnapshots : Obligations.FrameStartJudgesAndSnapshots := by
  refine ⟨fun s hload => by simp [exec, execOutputFrameStart, hload, State.startStarting, State.newFrame], ?_⟩
  intro s hrun hok
  obtain ⟨-, -, -, table, tracks, zones, vehicle, arbiter, alert, supply, settings, generator⟩ := s.openCameras_fields
  have pict := s.openCameras_pict
  have shot := hok.shotOf_openCameras
  have rest := s.openCameras_rest s.links s.pictures
  have next := exec_outputFrameStart hrun
  unfold State.startFrame at next
  generalize s.openCameras = u at *
  refine ⟨_, u.snapshot, next, fun c => ?_, fun i => ?_, (congrArg ObjectTable.lit table :),
    (congrArg ObjectTable.blink table :), ?_, fun c => ?_, (congrArg ObjectTable.slots table :),
    (congrArg ObjectTable.lit table :), (congrArg ObjectTable.blink table :), (congrArg Tracks.places tracks :), zones,
    (congrArg Vehicle.conds vehicle :), (congrArg Arbiter.shownView arbiter :), (congrArg Alert.level alert :),
    (congrArg Supply.state supply :), (congrArg SettingsBlock.state settings :),
    (congrArg SettingsBlock.working settings :),
    (congrArg (fun v : State => { v with table := s.table, frame := s.frame }) rest :)⟩
  · have ok := hok.slots c
    obtain ⟨freshness, shownAge, age, -, latest⟩ := (s.pict c).judge_sets
    simp only [State.settle_keeps, State.pict_withFrame, pict, Picture.frameStart_keeps, freshness, shownAge, age,
      judgedFreshness_eq]
    refine ⟨trivial, trivial, trivial, latest, fun i => ?_, fun i => ?_, ok.frameStart_pixels _⟩
    · simpa using ok.frameStart_recorder (s.monitorUses c) i
    · simpa using ok.frameStart_monitor (s.monitorUses c) i
  · show u.table.markAll.slots[i] = _
    rw [table]
    simp [ObjectTable.markAll, State.slot]
  · show some (u.newFrame _) = _
    simp only [State.newFrame, generator]
  · have listed : u.snapshot.cameras[c] = u.shotOf c := by simp [State.snapshot]
    exact listed.trans (shot c)

end Sys2Proof.Machine
end

section
/-! SUPPORT. One camera in order: what `State.PicturesOk` says of a camera, through every operation on its receiver and picture. -/

namespace Sys2Proof.Machine

/-! ## A camera in order -/

/-- What `State.PicturesOk` says of one camera. -/
structure State.CameraOk (s : State) (c : Camera) : Prop where
  slots : (s.pict c).Ok (s.recv c).fillSlot
  fills : ∀ f, (s.recv c).fill = some f → (s.recv c).FillOk (s.pict c).copy f

/-- The receivers q and r stand at one point of one frame. -/
structure Receiver.SameFrame (q r : Receiver) : Prop where
  lock : q.lock = r.lock
  place : q.place = r.place
  anchor : q.anchor = r.anchor
  fill : q.fill = r.fill

theorem Receiver.FillOk.congr {q r : Receiver} {copy : Option Copy} {f : Fill} (h : r.FillOk copy f) (same : q.SameFrame r) :
    q.FillOk copy f :=
  ⟨same.lock.trans h.locked, by rw [same.anchor]; exact h.anchored, by rw [same.place]; exact h.place,
    by rw [same.place]; exact h.judged, h.waits⟩

theorem State.CameraOk.congr {s t : State} {c : Camera} (h : s.CameraOk c) (same : (t.recv c).SameFrame (s.recv c))
    (pict : t.pict c = s.pict c) : t.CameraOk c := by
  refine ⟨?_, fun f hf => ?_⟩
  · rw [pict, Receiver.fillSlot, same.fill]; exact h.slots
  · rw [same.fill] at hf
    rw [pict]
    exact (h.fills f hf).congr same

theorem State.cameraOk_of_no_fill {s : State} {c : Camera} (hf : (s.recv c).fill = none) (ok : (s.pict c).Ok none) :
    s.CameraOk c :=
  ⟨by simpa [Receiver.fillSlot, hf] using ok, fun f e => by simp [hf] at e⟩

theorem State.CameraOk.slots_of_no_fill {s : State} {c : Camera} (h : s.CameraOk c) (hf : (s.recv c).fill = none) :
    (s.pict c).Ok none := by
  simpa [Receiver.fillSlot, hf] using h.slots

theorem State.CameraOk.slots_of_fill {s : State} {c : Camera} {f : Fill} (h : s.CameraOk c)
    (hf : (s.recv c).fill = some f) : (s.pict c).Ok (some f.slot) := by
  simpa [Receiver.fillSlot, hf] using h.slots

/-- Out of LOCKED no fill is open. -/
theorem State.CameraOk.no_fill_of_lock {s : State} {c : Camera} (h : s.CameraOk c) (hl : (s.recv c).lock ≠ .locked) :
    (s.recv c).fill = none :=
  Option.eq_none_iff_forall_ne_some.mpr fun f hf => hl (h.fills f hf).locked

theorem State.CameraOk.no_fill_of_anchor {s : State} {c : Camera} (h : s.CameraOk c) (ha : (s.recv c).anchor = none) :
    (s.recv c).fill = none :=
  Option.eq_none_iff_forall_ne_some.mpr fun f hf => by simpa [ha] using (h.fills f hf).anchored

theorem State.CameraOk.no_fill_of_place {s : State} {c : Camera} (h : s.CameraOk c) (hp : (s.recv c).place = 484) :
    (s.recv c).fill = none :=
  Option.eq_none_iff_forall_ne_some.mpr fun f hf => by
    have := (h.fills f hf).place
    omega

@[simp] theorem State.cameraOk_noteCamera {s b : State} {c d : Camera} :
    (State.noteCamera d b s).CameraOk c ↔ s.CameraOk c := by
  obtain ⟨-, -, -, recv, pict, -, -⟩ := State.noteCamera_keeps d b s
  constructor
  · exact fun h => h.congr (by rw [recv]; exact ⟨rfl, rfl, rfl, rfl⟩) (by rw [pict])
  · exact fun h => h.congr (by rw [recv]; exact ⟨rfl, rfl, rfl, rfl⟩) (by rw [pict])

/-! ## Fills abandoned, ended, opened -/

/-- R30: after an abandonment the slots are in order with no fill open. -/
theorem State.CameraOk.abandonFill {s : State} {c : Camera} (h : s.CameraOk c) :
    ((s.abandonFill c).pict c).Ok none := by
  cases hf : (s.recv c).fill with
  | none => rw [State.abandonFill_of_no_fill hf]; exact h.slots_of_no_fill hf
  | some f => simpa [State.abandonFill_of_fill hf] using (h.slots_of_fill hf).abandon

/-- R19, R29, R30: after the end of a fill, abandoned or completed, the slots are in order with no fill open. -/
theorem State.endFill_cameraOk {s : State} {c : Camera} {f : Fill} (ok : (s.pict c).Ok (some f.slot))
    (hc : (s.pict c).copy = none) : (s.endFill c f).CameraOk c := by
  refine State.cameraOk_of_no_fill (by simp [State.endFill_recv]) ?_
  by_cases h : s.endsAbandoned c f
  · rw [(State.endFill_abandons h).1]; exact ok.abandon
  · rw [(State.endFill_completes h).1]; exact ok.complete hc

/-- R27: a fill opened in LOCKED at a frame-start. -/
theorem State.openFill_cameraOk {s : State} {c : Camera} (cycle : Nat) (hf : (s.recv c).fill = none)
    (ok : (s.pict c).Ok none) (hl : (s.recv c).lock = .locked) (ha : (s.recv c).anchor.isSome = true)
    (hp : (s.recv c).place = 0) : (s.openFill c cycle).CameraOk c := by
  obtain ⟨i, free, -, recv, pict, -⟩ := State.openFill_lowest cycle hf ok
  obtain ⟨lock, anchor, place, -⟩ := (s.recv c).opened_keeps i cycle
  refine ⟨?_, fun f e => ?_⟩
  · rw [recv, pict]; exact ok.openFill free
  · rw [recv] at e ⊢
    obtain rfl := Option.some.inj e
    refine ⟨lock.trans hl, by rw [anchor]; exact ha, by rw [place, hp]; decide, ?_, fun j => by cases j⟩
    rw [place, hp]; simp

/-! ## Copies finished -/

/-- R19, R32: the finish of the copy that a judged fill waits for ends the fill. -/
theorem State.finishCopy_judged {s : State} {c : Camera} {f : Fill} {k : Copy} (hf : (s.recv c).fill = some f)
    (hj : f.judged = true) (hk : (s.pict c).copy = some k) (ht : k.target = some f.slot) :
    s.finishCopy c = (s.setPict c (s.pict c).finishCopy).endFill c f := by
  simp [State.finishCopy, hk, hf, hj, ht]

theorem State.finishCopy_of_no_fill {s : State} {c : Camera} (hf : (s.recv c).fill = none) :
    s.finishCopy c = s.setPict c (s.pict c).finishCopy := by
  cases hk : (s.pict c).copy with
  | none => simp [State.finishCopy, hk, Picture.finishCopy_of_no_copy hk]
  | some k => simp [State.finishCopy, hk, hf]

theorem State.finishCopy_judged_cameraOk {s : State} {c : Camera} {f : Fill} {k : Copy} (hf : (s.recv c).fill = some f)
    (hj : f.judged = true) (hk : (s.pict c).copy = some k) (ht : k.target = some f.slot)
    (ok : (s.pict c).Ok (some f.slot)) : (s.finishCopy c).CameraOk c := by
  rw [State.finishCopy_judged hf hj hk ht]
  exact State.endFill_cameraOk (by simpa using ok.finishCopy) (by simp)

theorem State.CameraOk.finishCopy {s : State} {c : Camera} (h : s.CameraOk c) : (s.finishCopy c).CameraOk c := by
  cases hf : (s.recv c).fill with
  | none =>
    rw [State.finishCopy_of_no_fill hf]
    exact State.cameraOk_of_no_fill (by simpa using hf) (by simpa using (h.slots_of_no_fill hf).finishCopy)
  | some f =>
    have fill := h.fills f hf
    cases hj : f.judged with
    | true =>
      obtain ⟨k, hk, ht⟩ := fill.waits hj
      exact State.finishCopy_judged_cameraOk hf hj hk ht (h.slots_of_fill hf)
    | false =>
      rw [State.finishCopy_unjudged hf hj]
      refine ⟨by simpa using h.slots.finishCopy, fun g hg => ?_⟩
      obtain rfl : f = g := by simpa [hf] using hg
      simpa using ⟨fill.locked, fill.anchored, fill.place, fill.judged, fun e => absurd (hj.symm.trans e) (by decide)⟩

/-! ## The frame lock -/

@[simp] theorem Receiver.enterSearch_fill (r : Receiver) : r.enterSearch.fill = r.fill := rfl

theorem State.CameraOk.wake {s : State} {c : Camera} (h : s.CameraOk c) : (s.wake c).CameraOk c := by
  have pict : (s.wake c).pict c = s.pict c := by simp
  by_cases hl : (s.recv c).lock = .silent
  · have hf := h.no_fill_of_lock (by simp [hl])
    obtain ⟨u, -, awake⟩ := State.wake_of_silent hl
    exact State.cameraOk_of_no_fill (by rw [awake]; exact hf) (by rw [pict]; exact h.slots_of_no_fill hf)
  · exact h.congr (by rw [State.wake_recv hl]; exact ⟨rfl, rfl, rfl, rfl⟩) pict

theorem State.CameraOk.dropToSearch {s : State} {c : Camera} (h : s.CameraOk c) : (s.dropToSearch c).CameraOk c := by
  refine State.cameraOk_of_no_fill ?_ (by simpa using h.abandonFill)
  rw [State.dropToSearch_recv]
  exact (s.abandonFill_recv c).1

theorem State.CameraOk.fallSilent {s : State} {c : Camera} (h : s.CameraOk c) : (s.fallSilent c).CameraOk c := by
  by_cases ht : (s.recv c).silenceTimer = none
  · simpa [State.fallSilent, ht] using h
  · refine State.cameraOk_of_no_fill ?_ (by rw [State.fallSilent_pict ht]; exact h.abandonFill)
    rw [State.fallSilent_recv ht]
    exact (s.abandonFill_recv c).1

theorem State.CameraOk.windowEnd {s : State} {c : Camera} (h : s.CameraOk c) : (s.windowEnd c).CameraOk c := by
  by_cases hw : (s.recv c).errorWindow = none
  · simpa [State.windowEnd, hw] using h
  · rcases Nat.lt_or_ge 1500 (s.recv c).failures with hgt | hle
    · rw [State.windowEnd_of_gt hw hgt]; exact h.dropToSearch
    · obtain ⟨recv, pict, -⟩ := State.windowEnd_of_le hw hle
      exact h.congr (by rw [recv]; exact ⟨rfl, rfl, rfl, rfl⟩) pict

theorem State.CameraOk.sendWord {s : State} {c : Camera} (h : s.CameraOk c) : (s.sendWord c).CameraOk c :=
  h.congr (by rw [State.sendWord_recv]; exact ⟨rfl, rfl, rfl, rfl⟩) (by simp)

theorem State.CameraOk.searchTakes {s : State} {c : Camera} (h : s.CameraOk c) (hl : (s.recv c).lock ≠ .locked)
    (cycle : Nat) : (s.searchTakes c cycle).CameraOk c :=
  have hf := h.no_fill_of_lock hl
  State.cameraOk_of_no_fill (by simpa using hf) (by simpa using h.slots_of_no_fill hf)

theorem State.CameraOk.frameSlip {s : State} {c : Camera} (h : s.CameraOk c) (cycle : Nat) :
    (s.frameSlip c cycle).CameraOk c := by
  refine State.cameraOk_of_no_fill ?_ (by simpa using h.abandonFill)
  rw [State.frameSlip_recv]
  split
  · exact (s.slip_recv_fields c).1
  · exact (s.slip_recv_fields c).1

theorem State.CameraOk.missingFrameStart {s : State} {c : Camera} (h : s.CameraOk c) :
    (s.missingFrameStart c).CameraOk c := by
  refine State.cameraOk_of_no_fill ?_ (by simpa using h.abandonFill)
  rw [State.missingFrameStart_recv]
  split
  · exact (s.slip_recv_fields c).1
  · exact (s.slip_recv_fields c).1

/-- R6 to R10: a frame-start record, by the lock state. -/
theorem State.CameraOk.frameStart {s : State} {c : Camera} (h : s.CameraOk c) (cycle : Nat) :
    (s.frameStart c cycle).CameraOk c := by
  cases hl : (s.recv c).lock with
  | silent =>
    have eq : s.frameStart c cycle = s.searchTakes c cycle := by simp [State.frameStart, hl]
    rw [eq]
    exact h.searchTakes (by simp [hl]) cycle
  | search => rw [State.frameStart_search hl]; exact h.searchTakes (by simp [hl]) cycle
  | confirm =>
    have hf := h.no_fill_of_lock (by simp [hl])
    cases he : (s.recv c).expects cycle with
    | true =>
      rw [State.frameStart_proves hl he, State.enterLocked, State.cameraOk_noteCamera]
      exact State.openFill_cameraOk cycle (by simpa using hf) (by simpa using h.slots_of_no_fill hf) (by simp) (by simp)
        (by simp)
    | false =>
      rw [State.frameStart_restarts hl he]
      exact State.cameraOk_of_no_fill (by simpa using hf) (by simpa using h.slots_of_no_fill hf)
  | locked =>
    by_cases ha : (s.recv c).anchor = none
    · have hf := h.no_fill_of_anchor ha
      rw [State.frameStart_anchors hl ha]
      exact State.cameraOk_of_no_fill (by simpa using hf) (by simpa using h.slots_of_no_fill hf)
    · cases he : (s.recv c).expects cycle with
      | true =>
        have hf := h.no_fill_of_place (Receiver.expects_iff.mp he).1
        rw [State.frameStart_good hl he, State.cameraOk_noteCamera]
        exact State.openFill_cameraOk cycle (by simpa using hf) (by simpa using h.slots_of_no_fill hf) (by simpa using hl)
          (by simp) (by simp)
      | false => rw [State.frameStart_slips hl ha he]; exact h.frameSlip cycle

/-! ## A fill that waits for its rows -/

/-- A camera whose open fill has not been judged: all that its order says of it but the place. -/
structure State.Filling (s : State) (c : Camera) (f : Fill) : Prop where
  fill : (s.recv c).fill = some f
  unjudged : f.judged = false
  slots : (s.pict c).Ok (some f.slot)
  locked : (s.recv c).lock = .locked
  anchored : (s.recv c).anchor.isSome = true

section
variable {s : State} {c : Camera} {f : Fill}

theorem State.Filling.cameraOk (h : s.Filling c f) (hp : (s.recv c).place ≤ 480) : s.CameraOk c := by
  refine ⟨by simpa [Receiver.fillSlot, h.fill] using h.slots, fun g hg => ?_⟩
  obtain rfl : f = g := Option.some.inj (h.fill.symm.trans hg)
  refine ⟨h.locked, h.anchored, by omega, ?_, fun e => absurd (h.unjudged.symm.trans e) (by decide)⟩
  simp only [h.unjudged, Bool.false_eq_true, false_iff]
  omega

theorem State.Filling.finishCopy (h : s.Filling c f) : (s.setPict c (s.pict c).finishCopy).Filling c f :=
  ⟨by simpa using h.fill, h.unjudged, by simpa using h.slots.finishCopy, by simpa using h.locked, by simpa using h.anchored⟩

theorem State.Filling.writeRow (h : s.Filling c f) (r : Nat) (k : RowRecord) :
    (s.writeRow c f r k).Filling c (f.afterRow r k) := by
  have slot := (f.afterRow_keeps r k).1
  refine ⟨by rw [State.writeRow_recv], ?_, ?_, ?_, ?_⟩
  · unfold Fill.afterRow; split <;> exact h.unjudged
  · rw [State.writeRow_pict, slot]; exact h.slots.writeRow f.slot r k.pixels
  · rw [State.writeRow_recv]; exact h.locked
  · rw [State.writeRow_recv]; exact h.anchored

/-- R18, R31: a verdict that starts no copy, or one with no other in flight, leaves the fill open. -/
theorem State.Filling.judgeGroup (h : s.Filling c f) (hc : (s.pict c).copy = none) (g : Nat) (check : Byte) :
    ∃ f', (s.judgeGroup c f g check).Filling c f' := by
  by_cases hs : s.groupPasses c f g check = true ∨ (s.recv c).mode ≠ .checked
  · rw [State.judgeGroup_stays hs]
    exact ⟨f, by simpa using h.fill, h.unjudged, by simpa using h.slots, by simpa using h.locked, by simpa using h.anchored⟩
  · obtain ⟨hp, hm⟩ := not_or.mp hs
    rw [State.judgeGroup_fails (Classical.not_not.mp hm) (by simpa using hp)]
    refine ⟨{ f with failed := f.failed + 1 }, by rw [State.failGroup_recv], h.unjudged, ?_, ?_, ?_⟩
    · rw [State.failGroup_pict]; exact h.slots.startCopy hc g
    · rw [State.failGroup_recv]; exact h.locked
    · rw [State.failGroup_recv]; exact h.anchored

/-- R2, R18: a record in a line place. -/
theorem State.Filling.lineInFill (h : s.Filling c f) (hp : (s.recv c).place ≤ 480) (r : Nat) (k : RowRecord) :
    (s.lineInFill c r k).CameraOk c := by
  by_cases hd : verdictDue r
  · have written := h.finishCopy.writeRow r k
    have place : (((s.setPict c (s.pict c).finishCopy).writeRow c f r k).recv c).place ≤ 480 := by
      rw [State.writeRow_recv]; simpa using hp
    rw [State.lineInFill_due h.fill h.unjudged hd]
    obtain ⟨f', judged⟩ := written.judgeGroup (by simp [State.writeRow_pict]) (r / 8 - 1) k.check
    exact judged.cameraOk (by rw [(State.judgeGroup_recv _ _ written.fill).1]; exact place)
  · rw [State.lineInFill_not_due h.fill hd]
    exact (h.writeRow r k).cameraOk (by rw [State.writeRow_recv]; exact hp)

end

/-! ## The record in place 481 -/

theorem Receiver.accepting_keeps (r : Receiver) (cfg : CameraSettings) (a : StatusRecord) (n : Nat) :
    ((r.modeAfter cfg a).compareGain a.gain n).lock = r.lock ∧
    ((r.modeAfter cfg a).compareGain a.gain n).anchor = r.anchor := by
  unfold Receiver.compareGain Receiver.modeAfter
  dsimp only
  repeat' split
  all_goals exact ⟨rfl, rfl⟩

theorem State.cycleComplete_lock (s : State) (c : Camera) (bytes : List Byte) :
    ((s.cycleComplete c bytes).recv c).lock = (s.recv c).lock ∧
    ((s.cycleComplete c bytes).recv c).anchor = (s.recv c).anchor := by
  cases h : StatusRecord.ofBytes bytes with
  | none => rw [State.cycleComplete_none h]; simp
  | some a =>
    by_cases hp : (s.recv c).previous = some bytes
    · rw [State.cycleComplete_again h hp, State.accept_recv]
      simpa using Receiver.accepting_keeps _ _ a _
    · rw [State.cycleComplete_first h hp]; simp

/-- R20: the status slot byte leaves the frame. -/
theorem State.addStatusByte_sameFrame (s : State) (c : Camera) (cycle : Nat) (b : Byte) :
    ((s.addStatusByte c cycle b).recv c).SameFrame (s.recv c) := by
  obtain ⟨place, -, fill, -, -, -⟩ := State.addStatusByte_statusOnly (s := s) (c := c) cycle b
  have lock : ((s.addStatusByte c cycle b).recv c).lock = (s.recv c).lock ∧
      ((s.addStatusByte c cycle b).recv c).anchor = (s.recv c).anchor := by
    by_cases h : cycle = (s.recv c).nextPos
    · by_cases hn : (s.recv c).nextPos = 15
      · rw [State.addStatusByte_last b h hn]; exact s.cycleComplete_lock c _
      · rw [State.addStatusByte_next b h hn]; simp
    · rw [State.addStatusByte_elsewhere b h]; exact ⟨rfl, rfl⟩
  exact ⟨lock.1, place, lock.2, fill⟩

theorem State.CameraOk.addStatusByte {s : State} {c : Camera} (h : s.CameraOk c) (cycle : Nat) (b : Byte) :
    (s.addStatusByte c cycle b).CameraOk c :=
  h.congr (s.addStatusByte_sameFrame c cycle b) (State.addStatusByte_statusOnly cycle b).pict

/-- R18, R19, R31: the verdict on group 59 ends the fill or leaves it waiting for the copy that it starts. -/
theorem State.Filling.afterLastVerdict {s : State} {c : Camera} {f : Fill} (h : s.Filling c f)
    (hp : (s.recv c).place = 481) (k : RowRecord) : (s.afterLastVerdict c f k).CameraOk c := by
  have slot := (f.afterLast_keeps k).1
  by_cases hpass : (s.recv c).mode = .checked → s.lastPasses c f k
  · obtain ⟨m, -, ends⟩ := State.afterLastVerdict_ends hpass
    have pict := (s.passedLast_keeps c f k m).1
    rw [ends]
    exact State.endFill_cameraOk (by rw [pict, slot]; exact h.slots.finishCopy) (by rw [pict]; simp)
  · obtain ⟨hm, hfail⟩ := Classical.not_imp.mp hpass
    obtain ⟨recv, pict, -, -⟩ := State.afterLastVerdict_waits hm hfail
    refine ⟨?_, fun g hg => ?_⟩
    · rw [recv, pict, Receiver.fillSlot, Option.map_some, slot]
      exact h.slots.finishCopy.startCopy (by simp) 59
    · rw [recv] at hg ⊢
      obtain rfl := Option.some.inj hg
      rw [pict, Picture.startCopy_copy]
      exact ⟨h.locked, h.anchored, by simp [hp], by simp [hp], fun _ => ⟨_, rfl, congrArg some slot.symm⟩⟩

/-! ## Line and blanking records -/

theorem State.takePlace_finishes {s : State} {c : Camera} {f : Fill} (hf : (s.recv c).fill = some f) (k : RowRecord) :
    s.takePlace c 482 k = s.finishCopy c := by
  simp [State.takePlace, hf]

/-- R1 to R3: a record takes the next place of a frame whose fill is open. -/
theorem State.CameraOk.takePlace {s u : State} {c : Camera} {f : Fill} (h : s.CameraOk c)
    (hf : (s.recv c).fill = some f) (recv : u.recv c = { s.recv c with place := (s.recv c).place + 1 })
    (pict : u.pict c = s.pict c) (k : RowRecord) : (u.takePlace c ((s.recv c).place + 1) k).CameraOk c := by
  have fill := h.fills f hf
  have slots := h.slots_of_fill hf
  have opened : (u.recv c).fill = some f := by rw [recv]; exact hf
  have filling : f.judged = false → u.Filling c f := fun hj =>
    ⟨opened, hj, by rw [pict]; exact slots, by rw [recv]; exact fill.locked, by rw [recv]; exact fill.anchored⟩
  have place := fill.place
  have unjudged : (s.recv c).place ≠ 481 → f.judged = false := fun hn =>
    Bool.eq_false_iff.mpr fun e => hn (fill.judged.mp e)
  rcases Nat.lt_trichotomy (s.recv c).place 480 with hlt | heq | hgt
  · rw [State.takePlace_line opened (by omega)]
    exact (filling (unjudged (by omega))).lineInFill (by rw [recv]; exact hlt) _ k
  · have hj := unjudged (by omega)
    rw [heq, State.takePlace_last k opened hj]
    exact ((filling hj).afterLastVerdict (by rw [recv, heq]) k).addStatusByte _ _
  · have last : (s.recv c).place = 481 := by omega
    have hj := fill.judged.mpr last
    obtain ⟨copy, hk, ht⟩ := fill.waits hj
    rw [last, State.takePlace_finishes opened]
    exact State.finishCopy_judged_cameraOk opened hj (by rw [pict]; exact hk) ht (by rw [pict]; exact slots)

theorem State.CameraOk.rowRecord {s : State} {c : Camera} (h : s.CameraOk c) (k : RowRecord) :
    (s.rowRecord c k).CameraOk c := by
  have counted : (s.recv c).fill = none → (s.setRecv c { s.recv c with place := (s.recv c).place + 1 }).CameraOk c :=
    fun hf => State.cameraOk_of_no_fill (by simpa using hf) (by simpa using h.slots_of_no_fill hf)
  cases hl : (s.recv c).lock with
  | silent => simpa [State.rowRecord, hl] using h
  | search => rw [State.rowRecord_search hl]; exact h
  | confirm =>
    have hf := h.no_fill_of_lock (by simp [hl])
    by_cases hp : (s.recv c).place = 484
    · rw [State.rowRecord_fails hl hp]
      exact State.cameraOk_of_no_fill (by simpa using hf) (by simpa using h.slots_of_no_fill hf)
    · rw [State.rowRecord_confirms hl hp]; exact counted hf
  | locked =>
    by_cases hp : (s.recv c).place = 484
    · rw [State.rowRecord_missing hl hp]; exact h.missingFrameStart
    · by_cases ha : (s.recv c).anchor = none
      · rw [State.rowRecord_unanchored hl hp ha]; exact counted (h.no_fill_of_anchor ha)
      · have eq : s.rowRecord c k = State.noteCamera c (s.setRecv c { s.recv c with place := (s.recv c).place + 1 })
            ((s.setRecv c { s.recv c with place := (s.recv c).place + 1 }).takePlace c ((s.recv c).place + 1) k) := by
          simp [State.rowRecord, hl, hp, ha]
        rw [eq, State.cameraOk_noteCamera]
        cases hf : (s.recv c).fill with
        | none => rw [State.takePlace_no_fill (by simpa using hf)]; exact counted hf
        | some f => exact h.takePlace hf (by simp) (by simp) k

end Sys2Proof.Machine
end

section
/-! SUPPORT. Which operations leave the receivers and the picture memories, and the phase, as they are: all but the cameras', the
frame start's and the resets'. -/

namespace Sys2Proof.Machine

/-! ## The part of the state that the order of the pictures speaks of -/

/-- The phase, the receivers and the picture memories. -/
def State.imaging (s : State) : Phase × Vector Receiver 4 × Vector Picture 4 := (s.phase, s.receivers, s.pictures)

theorem State.imaging_of_besideZones {s t : State} (h : t.besideZones = s.besideZones) : t.imaging = s.imaging :=
  (congrArg State.imaging h :)

theorem State.imaging_of_besideViews {s t : State} (h : t.besideViews = s.besideViews) : t.imaging = s.imaging :=
  (congrArg State.imaging h :)

/-! ## Through the blocks -/

/-- The updates of one part of the state. -/
@[simp] theorem State.imaging_updates (s : State) :
    (∀ l x, (s.setCtl l x).imaging = s.imaging) ∧ (∀ l f, (s.onCtl l f).imaging = s.imaging) ∧
    (∀ l r a, (s.reply l r a).imaging = s.imaging) ∧ (∀ l, (s.setFraming l).imaging = s.imaging) ∧
    (∀ l, (s.setPurged l).imaging = s.imaging) ∧ (∀ l, (s.clearFlags l).imaging = s.imaging) ∧
    (∀ f, (s.mapLinks f).imaging = s.imaging) ∧ (∀ k n f, (s.raise k n f).imaging = s.imaging) ∧
    s.settle.imaging = s.imaging ∧ (∀ i o, (s.setSlot i o).imaging = s.imaging) ∧
    (∀ b, (s.setSettings b).imaging = s.imaging) ∧ (∀ b, (s.setService b).imaging = s.imaging) ∧
    (∀ n o bs, (s.writeStaging n o bs).imaging = s.imaging) ∧ s.restartRegulators.imaging = s.imaging ∧
    (∀ b, (s.commitRegulators b).imaging = s.imaging) ∧ s.alertCommit.imaging = s.imaging ∧
    s.closeFrame.imaging = s.imaging ∧ s.restartTables.imaging = s.imaging ∧
    (∀ v, State.imaging { s with vehicle := v } = s.imaging) ∧ (∀ v, State.imaging { s with tracks := v } = s.imaging) ∧
    (∀ v c, State.imaging { s with vehicle := v, tracks := c } = s.imaging) ∧
    (∀ o, State.imaging { s with table := o } = s.imaging) ∧ ∀ a, State.imaging { s with alert := a } = s.imaging := by
  and_intros
  all_goals intros; rfl

@[simp] theorem State.imaging_choose (s : State) : s.choose.imaging = s.imaging :=
  State.imaging_of_besideViews s.besideViews_choose

@[simp] theorem State.imaging_takeZone (s : State) (z : Zone) (r : ZoneRec) : (s.takeZone z r).imaging = s.imaging :=
  State.imaging_of_besideZones (s.besideZones_takeZone z r)

@[simp] theorem State.imaging_recountZones (s : State) : s.recountZones.imaging = s.imaging :=
  State.imaging_of_besideZones s.besideZones_recountZones

@[simp] theorem State.imaging_commitZones (s : State) : s.commitZones.imaging = s.imaging :=
  State.imaging_of_besideZones s.besideZones_commitZones

@[simp] theorem State.imaging_firstLook (s : State) : s.firstLook.imaging = s.imaging :=
  State.imaging_of_besideZones s.besideZones_firstLook

@[simp] theorem State.imaging_handOn (b s : State) : (State.handOn b s).imaging = s.imaging :=
  State.imaging_of_besideZones (State.besideZones_handOn b s)

@[simp] theorem State.imaging_noteSettings (b s : State) : (State.noteSettings b s).imaging = s.imaging :=
  State.imaging_of_besideZones (State.besideZones_noteSettings b s)

@[simp] theorem State.imaging_settingsStep (b s : State) : (State.settingsStep b s).imaging = s.imaging :=
  State.imaging_of_besideZones (State.besideZones_settingsStep b s)

@[simp] theorem State.imaging_arbiterCommit (s : State) : s.arbiterCommit.imaging = s.imaging :=
  State.imaging_of_besideViews s.besideViews_arbiterCommit

@[simp] theorem State.imaging_endService (s : State) : s.endService.imaging = s.imaging := rfl

@[simp] theorem State.imaging_askServiceEnd (s : State) : s.askServiceEnd.imaging = s.imaging := by
  unfold State.askServiceEnd; split <;> rfl

@[simp] theorem State.imaging_movingEnds (b s : State) : (State.movingEnds b s).imaging = s.imaging := by
  unfold State.movingEnds; split <;> simp

@[simp] theorem State.imaging_takeVehicle (s : State) (v : Vehicle) : (s.takeVehicle v).imaging = s.imaging := by
  simp [State.takeVehicle]

@[simp] theorem State.imaging_bodyReport (s : State) (cycling : Bool) (c : Contacts) :
    (s.bodyReport cycling c).imaging = s.imaging := by
  unfold State.bodyReport; dsimp only; split <;> simp

@[simp] theorem State.imaging_setPlace (s : State) (p : Place) (k : Option Track) :
    (s.setPlace p k).imaging = s.imaging := by
  simp [State.setPlace]

@[simp] theorem State.imaging_takeNew (s : State) (k : Track) : (s.takeNew k).1.imaging = s.imaging := by
  unfold State.takeNew; repeat' split
  all_goals simp

@[simp] theorem State.imaging_enterService (s : State) : s.enterService.imaging = s.imaging := by
  unfold State.enterService; split
  · simp
  · rw [State.imaging_settingsStep]; rfl

@[simp] theorem State.imaging_endCommit (s : State) (f : SettingsBlock → SettingsBlock) :
    (s.endCommit f).imaging = s.imaging := by
  unfold State.endCommit; dsimp only; repeat' split
  all_goals simp

@[simp] theorem State.imaging_purge (s : State) (l : Link) : (s.purge l).imaging = s.imaging := by
  unfold State.purge; dsimp only; split <;> simp

@[simp] theorem State.imaging_commitTable (s : State) : s.commitTable.imaging = s.imaging :=
  State.foldl_fixes _ State.imaging (fun t l => by split <;> simp) _ _

@[simp] theorem State.imaging_commitVehicle (s : State) : s.commitVehicle.imaging = s.imaging := by
  rw [State.commitVehicle, State.imaging_movingEnds]; rfl

@[simp] theorem State.imaging_applyCommit (s : State) (new : Body) : (s.applyCommit new).imaging = s.imaging := by
  simp [State.applyCommit]

@[simp] theorem State.imaging_tryCommit (s : State) (b : Body) : (s.tryCommit b).1.imaging = s.imaging := by
  unfold State.tryCommit; split <;> simp

@[simp] theorem State.imaging_endSlot (s : State) (i : ObjSlot) : (s.endSlot i).imaging = s.imaging := by
  unfold State.endSlot State.noteExpiry; dsimp only; repeat' split
  all_goals simp

@[simp] theorem State.imaging_countDownTable (s : State) : s.countDownTable.imaging = s.imaging :=
  State.foldl_fixes _ State.imaging State.imaging_endSlot _ _

@[simp] theorem State.imaging_canFrame (s : State) (l : Link) (ident : BitVec 11) (payload : List Byte) :
    (s.canFrame l ident payload).imaging = s.imaging := by
  unfold State.canFrame; repeat' split
  all_goals simp

@[simp] theorem State.imaging_cutExchange (s : State) : s.cutExchange.imaging = s.imaging := rfl

@[simp] theorem State.imaging_completeExchange (s : State) (half : List Byte) :
    (s.completeExchange half).imaging = s.imaging := by
  unfold State.completeExchange; dsimp only; repeat' split
  all_goals simp

theorem State.imaging_ownerExpiry (s : State) (l : Link) : (s.ownerExpiry l).imaging = s.imaging := by
  unfold State.ownerExpiry; split
  · rfl
  · rw [State.imaging_of_besideViews (State.besideViews_clearMasks _ l)]; simp

theorem State.imaging_dipExpiry (s : State) : s.dipExpiry.imaging = s.imaging := by
  unfold State.dipExpiry; split <;> rfl

theorem State.imaging_recoveryExpiry (s : State) : s.recoveryExpiry.imaging = s.imaging := by
  unfold State.recoveryExpiry; split <;> rfl

theorem State.imaging_takeHead {s t : State} {row : RequestRow} {l : Link} {r : Request}
    (h : s.takeHead row l = some (r, t)) : t.imaging = s.imaging := by
  obtain ⟨rest, -, -, -, rfl⟩ := State.takeHead_eq h
  rfl

theorem State.imaging_answerUnknown (l : Link) (s : State) : (s.answerUnknown l).imaging = s.imaging := by
  unfold State.answerUnknown
  split
  · rfl
  · rename_i r t h; simp [State.imaging_takeHead h]

/-! ## Through the requests -/

section
variable (l : Link) (r : Request) (s : State)

theorem actObjectPut_imaging : (actObjectPut l r s).1.imaging = s.imaging := by
  unfold actObjectPut; dsimp only; repeat' split
  all_goals simp

theorem actObjectMove_imaging : (actObjectMove l r s).1.imaging = s.imaging := by
  unfold actObjectMove; repeat' split
  all_goals simp

theorem actObjectStyle_imaging : (actObjectStyle l r s).1.imaging = s.imaging := by
  unfold actObjectStyle; repeat' split
  all_goals simp

theorem actTextSetCursor_imaging : (actTextSetCursor l r s).1.imaging = s.imaging := by
  unfold actTextSetCursor; dsimp only; repeat' split
  all_goals simp

theorem actTextAppend_imaging : (actTextAppend l r s).1.imaging = s.imaging := by
  unfold actTextAppend; dsimp only; repeat' split
  all_goals simp

theorem actObjectRemove_imaging : (actObjectRemove l r s).1.imaging = s.imaging := by
  unfold actObjectRemove; repeat' split
  all_goals simp

theorem actVehicleState_imaging : (actVehicleState l r s).1.imaging = s.imaging := by
  unfold actVehicleState; repeat' split
  all_goals simp

theorem actBodyState_imaging : (actBodyState l r s).1.imaging = s.imaging := by
  unfold actBodyState; repeat' split
  all_goals simp

theorem actTrackUpdate_imaging : (actTrackUpdate l r s).1.imaging = s.imaging := by
  unfold actTrackUpdate; dsimp only; repeat' split
  all_goals simp

theorem actTrackDrop_imaging : (actTrackDrop l r s).1.imaging = s.imaging := by
  unfold actTrackDrop; repeat' split
  all_goals simp

theorem actZoneAck_imaging : (actZoneAck l r s).1.imaging = s.imaging := by
  unfold actZoneAck; dsimp only; repeat' split
  all_goals simp

theorem actStatusQuery_imaging : (actStatusQuery l r s).1.imaging = s.imaging := by
  unfold actStatusQuery; repeat' split
  all_goals simp

theorem actServiceEnter_imaging : (actServiceEnter l r s).1.imaging = s.imaging := by
  unfold actServiceEnter; repeat' split
  all_goals simp

theorem actServiceExit_imaging : (actServiceExit l r s).1.imaging = s.imaging := by
  unfold actServiceExit; repeat' split
  all_goals simp

theorem actSettingsWrite_imaging : (actSettingsWrite l r s).1.imaging = s.imaging := by
  unfold actSettingsWrite; dsimp only; repeat' split
  all_goals simp

theorem actSettingsCommit_imaging : (actSettingsCommit l r s).1.imaging = s.imaging := by
  unfold actSettingsCommit; repeat' split
  all_goals simp

theorem actSettingsRead_imaging : (actSettingsRead r s).1.imaging = s.imaging := by
  unfold actSettingsRead; dsimp only; split <;> rfl

theorem actViewRequest_imaging : (actViewRequest r s).1.imaging = s.imaging := by
  unfold actViewRequest; dsimp only; repeat' split
  all_goals simp [State.imaging_of_besideViews (s.besideViews_raiseCause _)]

theorem actViewMaskSet_imaging : (actViewMaskSet l r s).1.imaging = s.imaging := by
  unfold actViewMaskSet; split
  · exact State.imaging_of_besideViews (s.besideViews_maskCauses l _)
  · rfl

end

/-! ## Through the resets -/

theorem State.endLoad_imaging (s : State) (found : Option Body) :
    (s.endLoad found).imaging = (.running, Vector.replicate 4 Receiver.atReset, s.pictures) := by
  simp only [State.endLoad, State.imaging_updates, State.imaging_firstLook]
  rfl

/-- R25, R42, R195: what a warm reset makes of the receivers and the picture memories. -/
theorem State.warmReset_imaging (s : State) {first : State → State} (h : ∀ t : State, (first t).imaging = t.imaging) :
    (s.warmReset first).imaging = (s.phase, s.receivers.map Receiver.warmReset, s.pictures.map Picture.warmReset) := by
  have blocks : s.warmBlocks.imaging = (s.phase, s.receivers.map Receiver.warmReset, s.pictures.map Picture.warmReset) := rfl
  unfold State.warmReset State.noteServiceEnd
  split <;> simp [h, blocks]

end Sys2Proof.Machine
end

section
/-! Every step keeps the slots, holds and fills in order, and none faults from a state in order (R26, R27, R31): O8. -/

namespace Sys2Proof.Machine

/-! ## From one camera to four -/

theorem State.PicturesOk.cameraOk {s : State} (h : s.PicturesOk) (c : Camera) : s.CameraOk c := ⟨h.slots c, h.fills c⟩

theorem State.picturesOk_of_cameras {s : State} (hr : s.phase = .running) (h : ∀ c, s.CameraOk c) : s.PicturesOk :=
  ⟨fun c => (h c).slots, fun c => (h c).fills, fun hn => absurd hr hn⟩

/-- Where no fill is open, the order of the slots is all there is. -/
theorem State.picturesOk_of_no_fill {s : State} (hf : ∀ c, (s.recv c).fill = none) (h : ∀ c, (s.pict c).Ok none) :
    s.PicturesOk :=
  have ok : ∀ c, s.CameraOk c := fun c => State.cameraOk_of_no_fill (hf c) (h c)
  ⟨fun c => (ok c).slots, fun c => (ok c).fills, fun _ => hf⟩

theorem State.recv_of_imaging {s : State} {x : Phase} {r : Vector Receiver 4} {p : Vector Picture 4}
    (h : s.imaging = (x, r, p)) : s.phase = x ∧ (∀ c, s.recv c = r[c]) ∧ ∀ c, s.pict c = p[c] := by
  obtain ⟨hphase, hrest⟩ := Prod.mk.inj h
  obtain ⟨hrecv, hpict⟩ := Prod.mk.inj hrest
  exact ⟨hphase, fun c => by rw [State.recv, hrecv], fun c => by rw [State.pict, hpict]⟩

theorem State.PicturesOk.congr {s t : State} (h : s.PicturesOk) (phase : t.phase = s.phase)
    (frame : ∀ c, (t.recv c).SameFrame (s.recv c)) (pict : ∀ c, t.pict c = s.pict c) : t.PicturesOk :=
  have ok : ∀ c, t.CameraOk c := fun c => (h.cameraOk c).congr (frame c) (pict c)
  ⟨fun c => (ok c).slots, fun c => (ok c).fills, fun hn c => by rw [(frame c).fill]; exact h.idle (by rwa [phase] at hn) c⟩

theorem State.PicturesOk.of_imaging {s t : State} (h : s.PicturesOk) (e : t.imaging = s.imaging) : t.PicturesOk := by
  obtain ⟨phase, recv, pict⟩ := State.recv_of_imaging e
  exact h.congr phase (fun c => by rw [recv]; exact ⟨rfl, rfl, rfl, rfl⟩) pict

theorem State.PicturesOk.settle {s : State} (h : s.PicturesOk) : s.settle.PicturesOk := h.of_imaging rfl

/-- What touches one camera alone and leaves it in order leaves them all so. -/
theorem State.PicturesOk.camera_moves {s u : State} {c : Camera} (h : s.PicturesOk) (hr : s.phase = .running)
    (beside : u.besideCamera c = s.besideCamera c) (ok : u.CameraOk c) : u.PicturesOk := by
  have phase : u.phase = s.phase := (congrArg State.phase beside :)
  refine State.picturesOk_of_cameras (phase.trans hr) fun d => ?_
  by_cases hd : d = c
  · exact hd ▸ ok
  · obtain ⟨recv, pict, -⟩ := State.otherCameras_of_besideCamera beside d hd
    exact (h.cameraOk d).congr (by rw [recv]; exact ⟨rfl, rfl, rfl, rfl⟩) pict

/-! ## The kinds of commands -/

section
variable {s t : State}

/-- A command of one camera. -/
theorem State.PicturesOk.camera {c : Camera} {f : State → State} (h : s.PicturesOk)
    (beside : ∀ u : State, (f u).besideCamera c = u.besideCamera c) (ok : ∀ u : State, u.CameraOk c → (f u).CameraOk c)
    (next : whileRunning s f = .next t) : t.PicturesOk :=
  whileRunning_keeps State.PicturesOk (fun _ hu => hu.settle) f
    (fun u hr hu => hu.camera_moves hr (beside u) (ok u (hu.cameraOk c))) next h

/-- A command of another block. -/
theorem State.PicturesOk.block {f : State → State} (h : s.PicturesOk) (keeps : ∀ u : State, (f u).imaging = u.imaging)
    (next : whileRunning s f = .next t) : t.PicturesOk :=
  h.of_imaging (whileRunning_fixes State.imaging (fun _ => rfl) f keeps next)

/-- A request. -/
theorem State.PicturesOk.request {row : RequestRow} {l : Link} {act : Request → State → State × Answer} (h : s.PicturesOk)
    (keeps : ∀ r u, (act r u).1.imaging = u.imaging) (next : whileRunning s (answering row l act) = .next t) :
    t.PicturesOk :=
  h.block (answering_fixes State.imaging (fun _ _ _ => rfl) row l act keeps) next

/-- An event of a link controller. -/
theorem State.PicturesOk.link {l : Link} {f : LinkCtl → LinkCtl} (h : s.PicturesOk)
    (next : (whileRunning s fun u => u.onCtl l f) = .next t) : t.PicturesOk :=
  h.block (fun u => u.imaging_updates.2.1 l f) next

/-- An event of the supply monitor. -/
theorem State.PicturesOk.powered {f : State → State} (h : s.PicturesOk) (keeps : ∀ u : State, (f u).imaging = u.imaging)
    (next : whilePowered s f = .next t) : t.PicturesOk := by
  unfold whilePowered at next
  split at next
  · obtain rfl := Host.Outcome.next.inj next; exact h
  · obtain rfl := Host.Outcome.next.inj next; exact h.of_imaging (keeps s)
  · obtain rfl := Host.Outcome.next.inj next; exact (h.of_imaging (keeps s)).settle

theorem State.PicturesOk.supply {f : Supply → Supply} (h : s.PicturesOk)
    (next : (whilePowered s fun u => u.setSupply (f u.supply)) = .next t) : t.PicturesOk :=
  h.powered (f := fun u => u.setSupply (f u.supply)) (fun _ => rfl) next

/-- The end of the settings load: the receivers start afresh; no fill was open. -/
theorem State.PicturesOk.loaded {found : Option Body} (h : s.PicturesOk) (next : whileLoading s found = .next t) :
    t.PicturesOk := by
  obtain rfl := Host.Outcome.next.inj next
  split
  · rename_i hl
    obtain ⟨-, recv, pict⟩ := State.recv_of_imaging (s.endLoad_imaging found)
    refine State.PicturesOk.settle (State.picturesOk_of_no_fill (fun c => ?_) fun c => ?_)
    · rw [recv]; simp [Receiver.atReset]
    · rw [pict]; exact (h.cameraOk c).slots_of_no_fill (h.idle (by simp [hl]) c)
  · exact h

/-- R25, R42: a warm reset leaves no fill, and slots that nothing but a copy holds. -/
theorem State.warmReset_picturesOk (s : State) {first : State → State} (h : ∀ u : State, (first u).imaging = u.imaging) :
    (s.warmReset first).PicturesOk := by
  obtain ⟨-, recv, pict⟩ := State.recv_of_imaging (s.warmReset_imaging h)
  refine State.picturesOk_of_no_fill (fun c => ?_) fun c => ?_
  · rw [recv]; simp [Receiver.warmReset, Receiver.atReset]
  · rw [pict]; simpa using Picture.warmReset_ok _

/-- R41, R190, R197: after a loss of power. -/
theorem State.picturesOk_of_reset (hr : s.receivers = State.reset.receivers) (hp : s.pictures = State.reset.pictures) :
    s.PicturesOk := by
  refine State.picturesOk_of_no_fill (fun c => ?_) fun c => ?_
  · simp [State.recv, hr, State.reset, Receiver.atReset]
  · simpa [State.pict, hp, State.reset] using Picture.Ok.atReset

theorem State.PicturesOk.answerReset {u : State} (h : u.PicturesOk) (l : Link) : (u.answerReset l).PicturesOk := by
  unfold State.answerReset
  split
  · exact h
  · rename_i r v hv
    have taken := h.of_imaging (State.imaging_takeHead hv)
    split
    · exact taken.of_imaging rfl
    · split
      · exact taken.of_imaging rfl
      · exact v.warmReset_picturesOk fun _ => rfl

theorem State.PicturesOk.lineFalls {u : State} (h : u.PicturesOk) : u.lineFalls.PicturesOk := by
  unfold State.lineFalls
  split
  · split
    · exact (State.warmReset_picturesOk _ fun _ => rfl).settle
    · exact h.of_imaging rfl
  · exact h

/-- R34 to R37: the frame start judges every camera and moves its holds. -/
theorem State.PicturesOk.startFrame {u : State} (h : u.PicturesOk) (hr : u.phase = .running) : u.startFrame.PicturesOk := by
  have pict := u.openCameras_pict
  obtain ⟨recv, phase, -⟩ := u.openCameras_fields
  unfold State.startFrame
  generalize u.openCameras = v at *
  have opened : v.PicturesOk := by
    refine State.picturesOk_of_cameras (phase.trans hr) fun c => ⟨?_, fun f hf => ?_⟩
    · rw [pict, recv]; exact (h.slots c).frameStart _
    · rw [recv] at hf ⊢
      obtain ⟨-, -, -, -, copy⟩ := (u.pict c).frameStart_keeps (u.monitorUses c)
      obtain ⟨-, -, -, judged, -⟩ := (u.pict c).judge_sets
      rw [pict, copy, judged]
      exact h.fills c f hf
  exact opened.of_imaging rfl

/-- A step on an empty queue leaves the frames the receivers stand in (log 1). -/
theorem State.PicturesOk.idle_step {u : State} (h : u.PicturesOk) : u.idle.PicturesOk := by
  unfold State.idle
  split
  · exact h
  · refine h.congr rfl (fun c => ?_) fun _ => rfl
    have ticked : (u.millisecond).recv c = (u.recv c).tick := by simp [State.recv, State.millisecond]
    rw [ticked]
    exact ⟨rfl, rfl, rfl, rfl⟩

/-! ## Every command (O8) -/

theorem State.PicturesOk.frameStartRecord {c : Camera} {packet : List Byte} (h : s.PicturesOk)
    (next : execFrameStartRecord c packet s = .next t) : t.PicturesOk := by
  unfold execFrameStartRecord at next
  split at next
  · rename_i cycle _
    split at next
    · cases next
    · exact h.camera (c := c) (fun u => by simp) (fun u hu => hu.wake.frameStart cycle) next
  · obtain rfl := Host.Outcome.next.inj next; exact h

theorem State.PicturesOk.rowRecord {c : Camera} {k : RowRecord} (h : s.PicturesOk)
    (next : (whileRunning s fun u => u.rowArrives c k) = .next t) : t.PicturesOk :=
  h.camera (fun u => u.besideCamera_rowArrives c k) (fun _ hu => hu.wake.rowRecord k) next

/-- A command whose answer is written out, with the phase, the receivers and the picture memories as they were. -/
theorem State.PicturesOk.same (h : s.PicturesOk) {u : State}
    (next : (.next u : Host.Outcome State Fault Refusal) = .next t) (e : u.imaging = s.imaging) : t.PicturesOk :=
  Host.Outcome.next.inj next ▸ h.of_imaging e

theorem State.imaging_unless {u : State} {P : Prop} [Decidable P] (h : t.imaging = u.imaging) :
    (if P then u else t).imaging = u.imaging := by
  split
  · rfl
  · exact h

theorem State.PicturesOk.exec {i : Instr} (h : s.PicturesOk) (next : exec i s = .next t) : t.PicturesOk := by
  cases i with
  | frameStartRecord c packet => exact h.frameStartRecord next
  | lineRecord c packet =>
    change execLineRecord c packet s = .next t at next
    unfold execLineRecord at next
    split at next
    · exact h.rowRecord next
    · exact h.same next rfl
  | blankingRecord c packet =>
    change execBlankingRecord c packet s = .next t at next
    unfold execBlankingRecord at next
    split at next
    · exact h.rowRecord next
    · exact h.same next rfl
  | silenceTimerExpiry c => exact h.camera (fun u => u.besideCamera_fallSilent c) (fun _ hu => hu.fallSilent) next
  | returnTimerExpiry c =>
    refine h.camera (c := c) (f := fun u => if (u.recv c).returnTimer = none then u else u.sendWord c) (fun u => ?_)
      (fun u hu => ?_) next
    · split <;> simp
    · split
      · exact hu
      · exact hu.sendWord
  | errorWindowEnd c => exact h.camera (fun u => u.besideCamera_windowEnd c) (fun _ hu => hu.windowEnd) next
  | concealmentCopyFinish c =>
    exact h.camera (c := c) (fun u => by simp) (fun u hu => State.cameraOk_noteCamera.mpr hu.finishCopy) next
  | stopTimerExpiry c => exact h.block (f := fun u => u.setReg c (u.reg c).stopExpiry) (fun _ => rfl) next
  | outputFrameStart =>
    change execOutputFrameStart s = .next t at next
    unfold execOutputFrameStart at next
    split at next
    · exact whileRunning_keeps State.PicturesOk (fun _ hu => hu.settle) _ (fun u hr hu => hu.startFrame hr) next h
    · exact h.same next rfl
    · exact h.same next rfl
  | outputFrameEnd =>
    change execOutputFrameEnd s = .next t at next
    unfold execOutputFrameEnd at next
    split at next
    · exact h.block (fun u => by simp) next
    · exact h.same next rfl
    · exact h.same next rfl
  | objectPut l => exact h.request (actObjectPut_imaging l) next
  | objectMove l => exact h.request (actObjectMove_imaging l) next
  | objectStyle l => exact h.request (actObjectStyle_imaging l) next
  | objectTextSetCursor l => exact h.request (actTextSetCursor_imaging l) next
  | objectTextAppend l => exact h.request (actTextAppend_imaging l) next
  | objectRemove l => exact h.request (actObjectRemove_imaging l) next
  | objectRemoveAll l => exact h.request (fun _ _ => rfl) next
  | stripSet l => exact h.request (fun _ _ => rfl) next
  | ownerSilenceTimerExpiry l => exact h.block (fun u => u.imaging_ownerExpiry l) next
  | vehicleState l => exact h.request (actVehicleState_imaging l) next
  | bodyState l => exact h.request (actBodyState_imaging l) next
  | indicatorOffDelayExpiry => exact h.block (fun u => State.imaging_unless (u.imaging_takeVehicle _)) next
  | chassisSilenceTimerExpiry => exact h.block (fun u => State.imaging_unless (u.imaging_takeVehicle _)) next
  | bodySilenceTimerExpiry => exact h.block (fun u => State.imaging_unless (u.imaging_takeVehicle _)) next
  | trackUpdate l => exact h.request (actTrackUpdate_imaging l) next
  | trackExpiry p => exact h.block (fun u => State.imaging_unless (u.imaging_setPlace p none)) next
  | trackDrop l => exact h.request (actTrackDrop_imaging l) next
  | holdTimerExpiry z => exact h.block (fun u => State.imaging_of_besideZones (u.besideZones_holdExpiry z)) next
  | dwellPeriodEnd z => exact h.block (fun u => State.imaging_of_besideZones (u.besideZones_dwellEnd z)) next
  | zoneAck l => exact h.request (actZoneAck_imaging l) next
  | segmentTimerExpiry => exact h.block (f := fun u => { u with alert := u.alert.segmentExpiry u.body }) (fun _ => rfl) next
  | viewRequest l => exact h.request actViewRequest_imaging next
  | viewMaskSet l => exact h.request (actViewMaskSet_imaging l) next
  | viewMaskClear l =>
    exact h.request (fun _ u => State.imaging_of_besideViews (u.besideViews_unmaskCauses l _)) next
  | causeTimerExpiry i => exact h.block (fun u => State.imaging_of_besideViews (u.besideViews_causeExpiry i)) next
  | showTimerExpiry => exact h.block (fun u => State.imaging_of_besideViews u.besideViews_showExpiry) next
  | canRequestFrame p ident payload => exact h.block (fun u => u.imaging_canFrame p.link ident payload) next
  | spiExchangeStart =>
    change execSpiExchangeStart s = .next t at next
    unfold execSpiExchangeStart at next
    split at next
    · exact h.link next
    · exact h.same next rfl
    · exact h.same next rfl
  | spiExchange half =>
    change execSpiExchange half s = .next t at next
    unfold execSpiExchange at next
    split at next
    · refine h.block (fun u => ?_) next
      split
      · exact u.imaging_cutExchange
      · exact u.imaging_completeExchange half
    · exact h.same next rfl
    · exact h.same next rfl
  | spiExchangeCutShort =>
    change execSpiExchangeCutShort s = .next t at next
    unfold execSpiExchangeCutShort at next
    split at next
    · exact h.block State.imaging_cutExchange next
    · exact h.same next rfl
    · exact h.same next rfl
  | canFrameAcknowledged p => exact h.link next
  | canArbitrationLoss p => exact h.link next
  | canBusError p => exact h.link next
  | canBusOff p => exact h.link next
  | canBusOffRecovery p => exact h.link next
  | unknownKind l => exact h.block (State.imaging_answerUnknown l) next
  | statusQuery l => exact h.request (actStatusQuery_imaging l) next
  | serviceEnter l => exact h.request (actServiceEnter_imaging l) next
  | serviceExit l => exact h.request (actServiceExit_imaging l) next
  | settingsWrite l => exact h.request (actSettingsWrite_imaging l) next
  | settingsRead l => exact h.request actSettingsRead_imaging next
  | settingsCommit l => exact h.request (actSettingsCommit_imaging l) next
  | commitWriteComplete => exact h.block (fun u => u.imaging_endCommit _) next
  | commitWriteFailed => exact h.block (fun u => u.imaging_endCommit _) next
  | commitLimitExpiry => exact h.block (fun u => u.imaging_endCommit _) next
  | coldReset below => exact Host.Outcome.next.inj next ▸ State.picturesOk_of_reset rfl rfl
  | settingsLoadEnd => exact h.loaded next
  | settingsLoadLimitExpiry => exact h.loaded next
  | settingsLoadNotAcknowledged => exact h.loaded next
  | resetN => exact Host.Outcome.next.inj next ▸ h.lineFalls
  | reset l =>
    exact whileRunning_keeps State.PicturesOk (fun _ hu => hu.settle) _ (fun _ _ hu => hu.answerReset l) next h
  | supplyFallBelow18V => exact h.supply next
  | supplyRiseTo18V => exact h.supply next
  | supplyRiseTo20V => exact h.supply next
  | supplyFallBelow20V => exact h.supply next
  | dipTimerExpiry => exact h.powered State.imaging_dipExpiry next
  | recoveryTimerExpiry => exact h.powered State.imaging_recoveryExpiry next
  | supplyStop =>
    obtain rfl := Host.Outcome.next.inj next
    split
    · exact h
    · exact State.picturesOk_of_reset rfl rfl
  | resetNRise => exact h.same next rfl

end

/-- R27: from a state in order every command answers a next state. -/
theorem State.PicturesOk.answers {s : State} (h : s.PicturesOk) (i : Instr) : s.Answers (Machine.exec i s) := by
  by_cases hi : ∃ c packet, i = .frameStartRecord c packet
  · obtain ⟨c, packet, rfl⟩ := hi
    exact exec_frameStart_answers fun cycle _ _ => h.noSlotFor c cycle
  · exact exec_answers (fun c packet e => hi ⟨c, packet, e⟩) s

/-- Settles O8: a step is one millisecond or a command, and each keeps the order. -/
theorem pictureSlotsStayInOrder : Obligations.PictureSlotsStayInOrder := by
  intro s h
  unfold step
  split
  · refine ⟨fun f e => (by cases e), fun t e => ?_⟩
    exact Host.Outcome.next.inj e ▸ h.idle_step
  · rename_i i rest _
    have queued : (s.withPending rest).PicturesOk := h.of_imaging rfl
    refine ⟨fun f e => ?_, fun t e => queued.exec e⟩
    obtain ⟨t, next, -⟩ := queued.answers i
    rw [next] at e
    cases e

end Sys2Proof.Machine
end

section
/-! The finish of a concealment copy, and the end of the judged fill that waited for it (R15, R16, R18, R19, R29 to R33): O20. -/

namespace Sys2Proof.Machine

/-! ## The rows of a copy (R31) -/

@[simp] theorem Picture.copyBytes_length (p : Picture) (k : Copy) : (p.copyBytes k).length = 12800 := by
  unfold Picture.copyBytes
  split
  · exact Memory.load_length _ _ _ _
  · exact List.length_replicate

theorem Picture.copyBytes_of_source {p : Picture} {k : Copy} {j : SlotIx} (hk : k.source = some j)
    (hwf : Memory.wf Config.blankPixel (p.slot j).pixels) {n : Nat} (hn : n < 12800) :
    (p.copyBytes k).getD n 0 = Memory.read Config.blankPixel (p.slot j).pixels (12800 * k.group + n) := by
  simp only [Picture.copyBytes, hk]
  exact Memory.load_getD _ _ _ _ _ hwf hn

/-- R31: without a source every byte is no-signal grey. -/
theorem Picture.copyBytes_grey {p : Picture} {k : Copy} (hk : k.source = none) {n : Nat} (hn : n < 12800) :
    (p.copyBytes k).getD n 0 = 128 := by
  simp only [Picture.copyBytes, hk]
  exact List.getD_replicate _ hn

/-- R32: after the finish the rows of the copy's group stand in its target; every other byte is as it was. -/
theorem Picture.finishCopy_read {p : Picture} {k : Copy} (hk : p.copy = some k) (i : SlotIx) (a : Nat) :
    Memory.read Config.blankPixel (p.finishCopy.slot i).pixels a =
      if k.target = some i ∧ 12800 * k.group ≤ a ∧ a < 12800 * (k.group + 1) then
        (p.copyBytes k).getD (a - 12800 * k.group) 0
      else Memory.read Config.blankPixel (p.slot i).pixels a := by
  have landed : (p.finishCopy.slot i).pixels = ((p.landCopy k).slot i).pixels := by
    rw [Picture.finishCopy_slot hk]
    split <;> rfl
  have rows : 12800 * k.group + 12800 = 12800 * (k.group + 1) := by omega
  rw [landed, Picture.landCopy_slot]
  by_cases h : k.target = some i
  · simp only [h, if_true, true_and, Memory.read_store, Picture.copyBytes_length, rows]
  · simp [h]

/-- R32, R33: after the finish no slot is the copy's, and the other holds are as they were. -/
theorem Picture.Ok.finishCopy_holders {p : Picture} {fill : Option SlotIx} (h : p.Ok fill) (i : SlotIx) :
    (p.finishCopy.slot i).holders = { (p.slot i).holders with copy := false } := by
  rw [h.finishCopy_release]
  rfl

theorem Picture.Ok.finishCopy_metered {p : Picture} {fill : Option SlotIx} (h : p.Ok fill) (i : SlotIx) :
    (p.finishCopy.slot i).groups = (p.slot i).groups ∧ (p.finishCopy.slot i).figures = (p.slot i).figures := by
  rw [h.finishCopy_release]
  exact ⟨rfl, rfl⟩

/-- R33: a SUPERSEDED slot that the copy alone held is FREE. -/
theorem Picture.Ok.finishCopy_frees {p : Picture} {fill : Option SlotIx} (h : p.Ok fill) {j : SlotIx}
    (hs : (p.slot j).state = .superseded)
    (hh : (p.slot j).holders = { monitor := false, recorder := false, copy := true }) :
    (p.finishCopy.slot j).state = .free := by
  rw [h.finishCopy_release]
  simp [PicSlot.release_eq, hs, hh, Holders.put, Holders.none]

/-! ## A fill ends in the picture memory -/

/-- From p to q a fill may have ended: no byte and no hold has changed, a FREE slot is still FREE, and no copy is in flight. -/
structure Picture.MayEnd (p q : Picture) : Prop where
  pixels : ∀ i, (q.slot i).pixels = (p.slot i).pixels
  holders : ∀ i, (q.slot i).holders = (p.slot i).holders
  free : ∀ i, (p.slot i).state = .free → (q.slot i).state = .free
  copy : q.copy = none

theorem Picture.MayEnd.abandon {p : Picture} (hc : p.copy = none) (i : SlotIx) : p.MayEnd (p.abandon i) := by
  have slot := p.abandon_slot i
  refine ⟨fun j => (slot j).2.2, fun j => (slot j).2.1, fun j hj => ?_, by rw [Picture.abandon_copy, hc]; rfl⟩
  rw [(slot j).1]
  split
  · rfl
  · exact hj

theorem Picture.MayEnd.complete {p : Picture} {i : SlotIx} (h : p.Ok (some i)) (hc : p.copy = none) :
    p.MayEnd (p.complete i) := by
  have slot := fun j => p.complete_slot j h.latest_ne_fill
  refine ⟨fun j => ?_, fun j => ?_, fun j hj => ?_, by simp [hc]⟩
  · rw [slot]
    split
    · rename_i e; rw [e]
    · split <;> simp
  · rw [slot]
    split
    · rename_i e; rw [e]
    · split <;> simp
  · have notFilling : j ≠ i := fun e => by simp [e, (h.filling i).mpr rfl] at hj
    have notLatest : p.latest ≠ some j := fun e => by simp [(h.latest j).mpr e] at hj
    rw [slot, if_neg notFilling, if_neg notLatest]
    exact hj

theorem State.endFill_mayEnd {s : State} {c : Camera} {f : Fill} (ok : (s.pict c).Ok (some f.slot))
    (hc : (s.pict c).copy = none) : (s.pict c).MayEnd ((s.endFill c f).pict c) := by
  by_cases h : s.endsAbandoned c f
  · rw [(State.endFill_abandons h).1]; exact .abandon hc f.slot
  · rw [(State.endFill_completes h).1]; exact .complete ok hc

/-- R19, R32: the copy in flight finishes, and the fill that waited for it may end. -/
theorem State.CameraOk.finishCopy_mayEnd {s : State} {c : Camera} (h : s.CameraOk c) :
    (s.pict c).finishCopy.MayEnd ((s.finishCopy c).pict c) := by
  have refl : (s.pict c).finishCopy.MayEnd (s.pict c).finishCopy := ⟨fun _ => rfl, fun _ => rfl, fun _ => id, by simp⟩
  cases hf : (s.recv c).fill with
  | none => simpa [State.finishCopy_of_no_fill hf] using refl
  | some f =>
    cases hj : f.judged with
    | false => simpa [State.finishCopy_unjudged hf hj] using refl
    | true =>
      obtain ⟨k, hk, ht⟩ := (h.fills f hf).waits hj
      have ends := State.endFill_mayEnd (s := s.setPict c (s.pict c).finishCopy) (c := c) (f := f)
        (by simpa using (h.slots_of_fill hf).finishCopy) (by simp)
      simpa [State.finishCopy_judged hf hj hk ht] using ends

theorem exec_concealmentCopyFinish {s : State} (c : Camera) (hr : s.phase = .running) :
    ∃ t, exec (.concealmentCopyFinish c) s = .next t ∧ s.CameraMoved t c (s.finishCopy c) := by
  obtain ⟨recv, pict, reg, cameras, rest⟩ :=
    State.cameraMoved_settle (s := s) (u := State.noteCamera c s (s.finishCopy c)) (c := c) (by simp)
  simp only [State.noteCamera_keeps] at recv pict reg
  exact ⟨_, whileRunning_running hr fun u => State.noteCamera c u (u.finishCopy c), recv, pict, reg, cameras, rest⟩

/-- O20, first part: the finish of a copy in flight, whatever becomes of a fill. -/
theorem copyFinish_landsRows {s : State} {c : Camera} {k : Copy} (hrun : s.phase = .running) (hok : s.PicturesOk)
    (hk : (s.pict c).copy = some k) :
    ∃ t, exec (.concealmentCopyFinish c) s = .next t ∧ (t.pict c).copy = none ∧
      (∀ i a, Memory.read Config.blankPixel ((t.pict c).slot i).pixels a =
        if k.target = some i ∧ 12800 * k.group ≤ a ∧ a < 12800 * (k.group + 1) then
          ((s.pict c).copyBytes k).getD (a - 12800 * k.group) 0
        else Memory.read Config.blankPixel ((s.pict c).slot i).pixels a) ∧
      (∀ i, ((t.pict c).slot i).holders = { (s.pict c).slot i |>.holders with copy := false }) ∧
      (∀ j, k.source = some j → ((s.pict c).slot j).state = .superseded →
        ((s.pict c).slot j).holders = { monitor := false, recorder := false, copy := true } →
        ((t.pict c).slot j).state = .free) ∧
      t.besideCameras = s.besideCameras ∧ s.OtherCameras t c := by
  obtain ⟨t, next, moved⟩ := exec_concealmentCopyFinish c hrun
  obtain ⟨pixels, holders, free, copy⟩ := (hok.cameraOk c).finishCopy_mayEnd
  have ok := hok.slots c
  refine ⟨t, next, ?_⟩
  rw [moved.pict]
  refine ⟨copy, fun i a => ?_, fun i => ?_, fun j _ hs hh => free j (ok.finishCopy_frees hs hh), moved.rest, moved.cameras⟩
  · rw [pixels, Picture.finishCopy_read hk]
  · rw [holders, ok.finishCopy_holders]

/-! ## The end of a judged fill -/

/-- R15, R16: the trial count and the mode after a fill has ended. -/
theorem Receiver.fillEnded_trial (r : Receiver) (required : Bool) :
    (r.fillEnded required).trial = (if r.mode = .trial then r.trial + 1 else r.trial) ∧
    (r.fillEnded required).mode =
      if r.mode = .trial ∧ r.trial = 15 then (if required then .checked else .unchecked) else r.mode := by
  unfold Receiver.fillEnded
  by_cases hm : r.mode = .trial
  · by_cases ht : r.trial = 15
    · simp [hm, ht]
    · simp [hm, ht]
  · simp [hm]

/-- In u, camera c is as in s but for the count of places and the silence timer, and what a fill's end reads is as in s. -/
structure State.ReadyToEnd (s u : State) (c : Camera) : Prop where
  fill : (u.recv c).fill = (s.recv c).fill
  mode : (u.recv c).mode = (s.recv c).mode
  trial : (u.recv c).trial = (s.recv c).trial
  pict : u.pict c = s.pict c
  reg : u.reg c = s.reg c
  body : u.body = s.body
  supply : u.supply = s.supply

/-- R18, R19: the finish of the copy, or the record in place 482, reaches the end of the judged fill. -/
theorem judgedFill_reaches_end {s : State} {i : Instr} {c : Camera} {f : Fill} (hrun : s.phase = .running)
    (hok : s.PicturesOk) (hf : (s.recv c).fill = some f) (hj : f.judged = true)
    (hi : i = .concealmentCopyFinish c ∨ ∃ k, rowRecordOf i = some (c, k)) :
    ∃ t u, exec i s = .next t ∧ s.ReadyToEnd u c ∧ s.CameraMoved t c (u.finishCopy c) := by
  rcases hi with rfl | ⟨k, hk⟩
  · obtain ⟨t, next, moved⟩ := exec_concealmentCopyFinish c hrun
    exact ⟨t, s, next, ⟨rfl, rfl, rfl, rfl, rfl, rfl, rfl⟩, moved⟩
  · have fill := hok.fills c f hf
    have place : (s.recv c).place = 481 := fill.judged.mp hj
    obtain ⟨t, next, moved⟩ := exec_rowRecord hk hrun
    rw [State.rowArrives_takes k fill.locked fill.anchored (by omega), place,
      State.takePlace_finishes (f := f) (by simpa using hf)] at moved
    obtain ⟨recv, pict, reg, cameras, rest⟩ := moved
    simp only [State.noteCamera_keeps] at recv pict reg
    refine ⟨t, s.counted c, next, ?_, recv, pict, reg, cameras, rest⟩
    constructor <;> simp [Receiver.heard]

/-- R29: the LATEST before a completion is SUPERSEDED where a composer holds it, and FREE where only the finished copy did. -/
theorem Picture.Ok.finishCopy_retire {p : Picture} {fill : Option SlotIx} (h : p.Ok fill) (j : SlotIx) :
    (p.finishCopy.slot j).retire.state =
      if (p.slot j).holders.monitor = true ∨ (p.slot j).holders.recorder = true then .superseded else .free := by
  rw [PicSlot.retire_eq, h.finishCopy_holders]
  by_cases hh : (p.slot j).holders.monitor = true ∨ (p.slot j).holders.recorder = true
  · have held : ¬ ({ (p.slot j).holders with copy := false } : Holders) = Holders.none := by
      rw [Holders.eq_none_iff]
      rcases hh with hh | hh <;> simp [hh]
    simp only [if_neg held, if_pos hh]
  · obtain ⟨hm, hr⟩ := not_or.mp hh
    have unheld : ({ (p.slot j).holders with copy := false } : Holders) = Holders.none :=
      Holders.eq_none_iff.mpr ⟨by simpa using hm, by simpa using hr, rfl⟩
    simp only [if_pos unheld, if_neg hh]

/-- Settles O20: the rows of a copy land at its finish, and the judged fill that waited for it ends there. -/
theorem copyFinishLandsItsRows : Obligations.CopyFinishLandsItsRows := by
  refine ⟨?lands, ?ends⟩
  case lands =>
    intro s c k hrun hok hmem hk
    obtain ⟨t, next, copy, read, rest⟩ := copyFinish_landsRows hrun hok hk
    refine ⟨t, next, copy, fun i a => ?_, rest⟩
    rw [read]
    by_cases hrow : k.target = some i ∧ 12800 * k.group ≤ a ∧ a < 12800 * (k.group + 1)
    · have inRows : a - 12800 * k.group < 12800 := by omega
      have address : 12800 * k.group + (a - 12800 * k.group) = a := by omega
      rw [if_pos hrow, if_pos hrow]
      cases hsrc : k.source with
      | none => exact Picture.copyBytes_grey hsrc inRows
      | some j => rw [Picture.copyBytes_of_source hsrc (hmem.1 c j) inRows, address]
    · rw [if_neg hrow, if_neg hrow]
  case ends =>
    intro s i c f hrun hok hf hj hi trial required
    obtain ⟨t, u, next, ready, moved⟩ := judgedFill_reaches_end hrun hok hf hj hi
    obtain ⟨k, hk, ht⟩ := (hok.fills c f hf).waits hj
    obtain ⟨fill, mode, trials, pict, reg, body, supply⟩ := ready
    have slots : (s.pict c).Ok (some f.slot) := (hok.cameraOk c).slots_of_fill hf
    have landed := slots.finishCopy
    rw [State.finishCopy_judged (by rw [fill]; exact hf) hj (by rw [pict]; exact hk) ht] at moved
    let v := u.setPict c (u.pict c).finishCopy
    have vpict : v.pict c = (s.pict c).finishCopy := by simp [v, pict]
    have recv := moved.recv.trans (State.endFill_recv (s := v))
    have ending := State.endFill_mayEnd (s := v) (c := c) (f := f) (by rw [vpict]; exact landed) (by rw [vpict]; simp)
    have abandons : v.endsAbandoned c f ↔ (required = true ∧ trial) ∨ f.failed = 60 := by
      simp [State.endsAbandoned, v, body, mode, required, trial]
    obtain ⟨counted, moded⟩ := Receiver.fillEnded_trial
      ({ v.recv c with fill := none, failedGroups := f.failed }) (v.body.camera c).required
    rw [← recv] at counted moded
    refine ⟨t, next, by rw [recv]; simp, by rw [recv]; simp, by rw [moved.pict]; exact ending.copy, ?_, ?_, moved.rest,
      moved.cameras, fun h => ?_, fun h => ?_⟩
    · simpa [v, mode, trials, trial] using counted
    · simpa [v, mode, trials, body, trial, required] using moded
    · obtain ⟨pictE, regE⟩ := State.endFill_abandons (abandons.mpr h)
      rw [moved.pict, moved.reg, pictE, regE, vpict]
      exact ⟨Picture.abandon_slot_self _ _, by simp, by simp, by simp, by simp [v, reg]⟩
    · obtain ⟨pictE, regE⟩ := State.endFill_completes (mt abandons.mp h)
      have slot := fun j => (s.pict c).finishCopy.complete_slot j landed.latest_ne_fill
      obtain ⟨groups, figures⟩ := slots.finishCopy_metered f.slot
      rw [moved.pict, moved.reg, pictE, regE, vpict]
      refine ⟨by simp [slot], by simp [slot, groups], by simp [slot, figures], by simp, by simp, by simp, fun j hl => ?_, ?_⟩
      · have old : (s.pict c).finishCopy.latest = some j := by simpa using hl
        have other : j ≠ f.slot := fun e => landed.latest_ne_fill (e ▸ old)
        rw [slot, if_neg other, if_pos old]
        exact slots.finishCopy_retire j
      · simp [v, reg, body, supply, groups, figures]

end Sys2Proof.Machine
end

section
/-! SUPPORT. One exposure regulator (R44): what valid settings say of its gains and duties (R43), and what each of its operations keeps of
`Regulator.Ok`. -/

namespace Sys2Proof.Machine

/-! ## The gains and duties of valid settings (R43) -/

/-- R43 on a camera's gains and duties: the initial gain lies between floor and ceiling, the stop duty between 5 and the start duty,
the start duty at most 100. -/
structure CameraSettings.Limits (cfg : CameraSettings) : Prop where
  initial : cfg.gainFloor ≤ cfg.initialGain ∧ cfg.initialGain ≤ cfg.gainCeiling
  stop : 5 ≤ cfg.stopDuty ∧ cfg.stopDuty ≤ cfg.startDuty
  start : cfg.startDuty ≤ 100

theorem Body.cameraChecks_pass {b : Body} (h : b.valid = true) (c : Camera) : ∀ k ∈ cameraChecks b c, k.2 = true := by
  have section2 : sectionFailure b 2 = none := Body.firstFailure_none.mp (Body.valid_iff.mp h) 2 (by decide) (by decide)
  exact fun k hk => sectionFailure_none.mp section2 k (List.mem_flatMap.mpr ⟨c, List.mem_finRange c, hk⟩)

theorem Body.camera_limits {b : Body} (h : b.valid = true) (c : Camera) : (b.camera c).Limits := by
  have checks := Body.cameraChecks_pass h c
  simp only [cameraChecks, inRange, List.forall_mem_cons, Bool.and_eq_true, decide_eq_true_eq] at checks
  obtain ⟨-, -, -, -, -, -, -, -, -, ⟨-, initial⟩, -, ⟨-, start⟩, ⟨⟨stop, -⟩, below⟩, -⟩ := checks
  exact ⟨initial, ⟨stop, below⟩, start⟩

/-- Table 3-1, the defaults: the same for every camera. -/
theorem Body.builtIn_camera (c : Camera) :
    let cfg := Body.builtIn.camera c
    (cfg.gainFloor, cfg.initialGain, cfg.gainCeiling, cfg.stopDuty, cfg.startDuty) = (0, 32, 63, 20, 60) := by
  revert c
  decide +kernel

theorem Body.builtIn_camera_limits (c : Camera) : (Body.builtIn.camera c).Limits := by
  obtain ⟨floor, initial, ceiling, stop, start⟩ := by simpa using Body.builtIn_camera c
  constructor <;> omega

/-! ## The operations of a regulator -/

section
variable {cfg : CameraSettings} {r : Regulator}

/-- R44 speaks of gain, duty and stop timer alone. -/
theorem Regulator.Ok.congr {q : Regulator} (h : r.Ok cfg) (gain : q.gain = r.gain) (duty : q.duty = r.duty)
    (timer : q.stopTimer = r.stopTimer) : q.Ok cfg :=
  ⟨gain ▸ h.gain, duty ▸ h.duty, duty ▸ h.fitted, by rw [timer, duty]; exact h.timer⟩

theorem Regulator.Ok.withoutTimer (h : r.Ok cfg) : ({ r with stopTimer := none } : Regulator).Ok cfg :=
  ⟨h.gain, h.duty, h.fitted, fun running => by cases running⟩

/-- R58, R59: the starting values. -/
theorem Regulator.atReset_ok (lim : cfg.Limits) : (Regulator.atReset cfg).Ok cfg :=
  ⟨lim.initial, .inl rfl, fun _ => rfl, fun running => by cases running⟩

/-- R48, case by case. -/
theorem Regulator.Ok.stepUp (h : r.Ok cfg) (lim : cfg.Limits) : (r.stepUp cfg).Ok cfg := by
  obtain ⟨brighter, lit, raised, absorbed⟩ := Regulator.stepUp_cases cfg r
  have floor := h.gain.1
  by_cases below : r.gain < cfg.gainCeiling
  · rw [brighter below]
    exact ⟨⟨Nat.le_succ_of_le floor, below⟩, h.duty, h.fitted, fun running => by cases running⟩
  have top := Nat.not_lt.mp below
  rcases h.duty with off | ⟨low, high⟩
  · cases fitted : cfg.fitted with
    | false => rw [absorbed top (.inl ⟨fitted, off⟩)]; exact h.withoutTimer
    | true =>
      rw [lit top fitted off]
      exact ⟨h.gain, .inr ⟨lim.stop.2, lim.start⟩, by simp [fitted], fun running => by cases running⟩
  · have stop := lim.stop.1
    by_cases full : 100 ≤ r.duty
    · rw [absorbed top (.inr full)]; exact h.withoutTimer
    · rw [raised top (by omega) (by omega)]
      refine ⟨h.gain, .inr ⟨by dsimp only; omega, Nat.min_le_right _ _⟩, fun unfitted => ?_, fun running => by cases running⟩
      have := h.fitted unfitted
      omega

/-- R49, case by case; a stop time of 0 puts the duty out at once (R50). -/
theorem Regulator.Ok.stepDown (h : r.Ok cfg) (lim : cfg.Limits) : (r.stepDown cfg).Ok cfg := by
  obtain ⟨dimmed, waits, out, waiting, darker, absorbed⟩ := Regulator.stepDown_cases cfg r lim.stop.1
  have stop := lim.stop.1
  by_cases above : cfg.stopDuty < r.duty
  · rw [dimmed above]
    refine ⟨h.gain, .inr ⟨Nat.le_max_right _ _, ?_⟩, fun unfitted => ?_, fun running => ?_⟩
    · have := h.duty; dsimp only; omega
    · have := h.fitted unfitted; omega
    · have := h.timer running; omega
  have low := Nat.not_lt.mp above
  by_cases timer : r.stopTimer = none
  · rcases h.duty with off | ⟨reached, -⟩
    · by_cases floor : cfg.gainFloor < r.gain
      · rw [darker off timer floor]
        exact ⟨⟨Nat.le_sub_one_of_lt floor, (Nat.sub_le _ _).trans h.gain.2⟩, h.duty, h.fitted, h.timer⟩
      · rw [absorbed off timer (Nat.not_lt.mp floor)]; exact h
    · have held : r.duty = cfg.stopDuty := Nat.le_antisymm low reached
      by_cases time : cfg.stopTime = 0
      · rw [out held timer time]
        exact ⟨h.gain, .inl rfl, fun _ => rfl, fun running => by simp [timer] at running⟩
      · rw [waits held timer time]
        exact ⟨h.gain, h.duty, h.fitted, fun _ => held⟩
  · rw [waiting low timer]; exact h

theorem Regulator.Ok.clearStreaks (h : r.Ok cfg) : r.clearStreaks.Ok cfg := h.congr rfl rfl rfl

/-- R47: a reading moves the streaks, and no more than one step. -/
theorem Regulator.Ok.classify (h : r.Ok cfg) (lim : cfg.Limits) (m : Reading) : (r.classify cfg m).Ok cfg := by
  unfold Regulator.classify
  split
  · exact h.clearStreaks.stepDown lim
  split
  · split
    · exact h.clearStreaks.stepUp lim
    · exact h.congr rfl rfl rfl
  split
  · split
    · exact h.clearStreaks.stepDown lim
    · exact h.congr rfl rfl rfl
  · exact h.clearStreaks

/-- R45, R46, R55: a completed frame. -/
theorem Regulator.Ok.takeFrame (h : r.Ok cfg) (lim : cfg.Limits) (supply : SupplyState) (groups : Vector GroupMark 60)
    (figures : Vector Figures 60) : (r.takeFrame cfg supply groups figures).Ok cfg := by
  by_cases unread : usedGroups cfg groups = []
  · rw [r.takeFrame_unread supply figures unread]; exact h
  · cases supply with
    | normal =>
      have read : ∀ m, ({ r with reading := some m } : Regulator).Ok cfg := fun _ => h.congr rfl rfl rfl
      rw [r.takeFrame_normal figures unread]
      exact (read _).classify lim _
    | crank => rw [r.takeFrame_crank figures unread]; exact h.congr rfl rfl rfl

/-- R50 -/
theorem Regulator.Ok.stopExpiry (h : r.Ok cfg) : r.stopExpiry.Ok cfg := by
  unfold Regulator.stopExpiry
  split
  · exact h
  · exact ⟨h.gain, .inl rfl, fun _ => rfl, fun running => by cases running⟩

/-- R54 -/
theorem Regulator.Ok.enterCrank (h : r.Ok cfg) : r.enterCrank.Ok cfg := h.clearStreaks.withoutTimer

/-- A millisecond stops no timer and starts none (log 1). -/
theorem Regulator.Ok.tick (h : r.Ok cfg) : r.tick.Ok cfg :=
  ⟨h.gain, h.duty, h.fitted, fun running => h.timer (by simpa [Regulator.tick, Timer.tick] using running)⟩

/-- R51: a commit takes gain and duty into the new limits; a stop timer that runs on does so at a stop duty left as it was. -/
theorem Regulator.Ok.commit {new : CameraSettings} (h : r.Ok cfg) (lim : new.Limits) (accepted : Option StatusRecord) :
    (r.commit cfg new accepted).Ok new := by
  have order := lim.initial.1.trans lim.initial.2
  have reaches := lim.stop.2.trans lim.start
  refine ⟨⟨?_, Nat.min_le_right _ _⟩, ?_, fun unfitted => ?_, ?_⟩
  · exact Nat.le_min.mpr ⟨Nat.le_max_right _ _, order⟩
  · have duty := h.duty
    simp only [Regulator.commit]
    split
    · exact .inl rfl
    · split
      · exact .inr ⟨Nat.le_refl _, reaches⟩
      · omega
  · simp [Regulator.commit, unfitted]
  · simp only [Regulator.commit]
    generalize (if (!new.fitted) = true then 0 else _) = duty
    split
    · exact fun running => by cases running
    · rename_i runsOn
      obtain ⟨same, stop, -⟩ : duty = r.duty ∧ cfg.stopDuty = new.stopDuty ∧ duty ≠ 0 := by simpa [not_or] using runsOn
      exact fun running => same.trans ((h.timer running).trans stop)

end

end Sys2Proof.Machine
end

section
/-! SUPPORT. Which operations leave the regulators and the working copy as they are: all but the cameras', the commit's, the entry to
CRANK's and the resets'. -/

namespace Sys2Proof.Machine

/-! ## The part of the state that R44 speaks of -/

/-- The regulators and the working copy. -/
def State.exposure (s : State) : Vector Regulator 4 × Body := (s.regulators, s.body)

theorem State.exposure_of_besideZones {s t : State} (h : t.besideZones = s.besideZones) : t.exposure = s.exposure :=
  (congrArg State.exposure h :)

theorem State.exposure_of_besideViews {s t : State} (h : t.besideViews = s.besideViews) : t.exposure = s.exposure :=
  (congrArg State.exposure h :)

theorem State.exposure_of_besideLinks {s t : State} (h : t.besideLinks = s.besideLinks) : t.exposure = s.exposure :=
  (congrArg State.exposure h :)

/-! ## Through the blocks -/

/-- The updates of one part of the state. -/
@[simp] theorem State.exposure_updates (s : State) :
    (∀ l x, (s.setCtl l x).exposure = s.exposure) ∧ (∀ l f, (s.onCtl l f).exposure = s.exposure) ∧
    (∀ l r a, (s.reply l r a).exposure = s.exposure) ∧ (∀ l, (s.setFraming l).exposure = s.exposure) ∧
    (∀ l, (s.setPurged l).exposure = s.exposure) ∧ (∀ l, (s.clearFlags l).exposure = s.exposure) ∧
    (∀ f, (s.mapLinks f).exposure = s.exposure) ∧ (∀ k n f, (s.raise k n f).exposure = s.exposure) ∧
    s.settle.exposure = s.exposure ∧ (∀ i o, (s.setSlot i o).exposure = s.exposure) ∧
    (∀ c p, (s.setPict c p).exposure = s.exposure) ∧ (∀ u, (s.setSupply u).exposure = s.exposure) ∧
    (∀ b, (s.setService b).exposure = s.exposure) ∧ (∀ n o bs, (s.writeStaging n o bs).exposure = s.exposure) ∧
    s.endService.exposure = s.exposure ∧ s.beginService.exposure = s.exposure ∧ s.alertCommit.exposure = s.exposure ∧
    s.closeFrame.exposure = s.exposure ∧ s.restartTables.exposure = s.exposure ∧ s.noteSupply.exposure = s.exposure ∧
    (∀ v, State.exposure { s with vehicle := v } = s.exposure) ∧
    (∀ k, State.exposure { s with tracks := k } = s.exposure) ∧
    (∀ v k, State.exposure { s with vehicle := v, tracks := k } = s.exposure) ∧
    (∀ o, State.exposure { s with table := o } = s.exposure) ∧ ∀ a, State.exposure { s with alert := a } = s.exposure := by
  and_intros
  all_goals intros; rfl

/-- The zone monitor and the view arbiter. -/
@[simp] theorem State.exposure_zones (s : State) :
    s.choose.exposure = s.exposure ∧ (∀ i, (s.raiseCause i).exposure = s.exposure) ∧
    (∀ l, (s.clearMasks l).exposure = s.exposure) ∧ (∀ l m, (s.maskCauses l m).exposure = s.exposure) ∧
    (∀ l m, (s.unmaskCauses l m).exposure = s.exposure) ∧ s.arbiterCommit.exposure = s.exposure ∧
    (∀ i, (s.causeExpiry i).exposure = s.exposure) ∧ s.showExpiry.exposure = s.exposure ∧
    (∀ z r, (s.takeZone z r).exposure = s.exposure) ∧ s.recountZones.exposure = s.exposure ∧
    s.commitZones.exposure = s.exposure ∧ (∀ z, (s.holdExpiry z).exposure = s.exposure) ∧
    (∀ z, (s.dwellEnd z).exposure = s.exposure) ∧ s.firstLook.exposure = s.exposure ∧
    (∀ b, (State.handOn b s).exposure = s.exposure) ∧ (∀ b, (State.settingsStep b s).exposure = s.exposure) ∧
    ∀ b, (State.noteSettings b s).exposure = s.exposure :=
  ⟨State.exposure_of_besideViews s.besideViews_choose,
    fun i => State.exposure_of_besideViews (s.besideViews_raiseCause i),
    fun l => State.exposure_of_besideViews (s.besideViews_clearMasks l),
    fun l m => State.exposure_of_besideViews (s.besideViews_maskCauses l m),
    fun l m => State.exposure_of_besideViews (s.besideViews_unmaskCauses l m),
    State.exposure_of_besideViews s.besideViews_arbiterCommit,
    fun i => State.exposure_of_besideViews (s.besideViews_causeExpiry i),
    State.exposure_of_besideViews s.besideViews_showExpiry,
    fun z r => State.exposure_of_besideZones (s.besideZones_takeZone z r),
    State.exposure_of_besideZones s.besideZones_recountZones,
    State.exposure_of_besideZones s.besideZones_commitZones,
    fun z => State.exposure_of_besideZones (s.besideZones_holdExpiry z),
    fun z => State.exposure_of_besideZones (s.besideZones_dwellEnd z),
    State.exposure_of_besideZones s.besideZones_firstLook,
    fun b => State.exposure_of_besideZones (State.besideZones_handOn b s),
    fun b => State.exposure_of_besideZones (State.besideZones_settingsStep b s),
    fun b => State.exposure_of_besideZones (State.besideZones_noteSettings b s)⟩

@[simp] theorem State.exposure_noteCamera (c : Camera) (b s : State) : (State.noteCamera c b s).exposure = s.exposure :=
  State.exposure_of_besideLinks (State.besideLinks_noteCamera c b s)

@[simp] theorem State.exposure_askServiceEnd (s : State) : s.askServiceEnd.exposure = s.exposure := by
  unfold State.askServiceEnd; split <;> rfl

@[simp] theorem State.exposure_movingEnds (b s : State) : (State.movingEnds b s).exposure = s.exposure := by
  unfold State.movingEnds; split <;> simp

@[simp] theorem State.exposure_takeVehicle (s : State) (v : Vehicle) : (s.takeVehicle v).exposure = s.exposure := by
  simp [State.takeVehicle]

@[simp] theorem State.exposure_bodyReport (s : State) (cycling : Bool) (c : Contacts) :
    (s.bodyReport cycling c).exposure = s.exposure := by
  unfold State.bodyReport; dsimp only; split <;> simp

@[simp] theorem State.exposure_setPlace (s : State) (p : Place) (k : Option Track) :
    (s.setPlace p k).exposure = s.exposure := by
  simp [State.setPlace]

@[simp] theorem State.exposure_takeNew (s : State) (k : Track) : (s.takeNew k).1.exposure = s.exposure := by
  unfold State.takeNew; repeat' split
  all_goals simp

@[simp] theorem State.exposure_enterService (s : State) : s.enterService.exposure = s.exposure := by
  unfold State.enterService
  split
  · rw [State.exposure_of_besideZones (State.besideZones_settingsStep _ _)]; rfl
  · simp

/-- R194: the end of a commit in flight leaves the working copy. -/
theorem State.exposure_endCommit (s : State) {f : SettingsBlock → SettingsBlock} (h : ∀ b, (f b).working = b.working) :
    (s.endCommit f).exposure = s.exposure := by
  have working : (s.setSettings (f s.settings)).exposure = s.exposure := congrArg (s.regulators, ·) (h s.settings)
  unfold State.endCommit
  split
  · rfl
  · dsimp only
    split <;> simp [working]

@[simp] theorem State.exposure_purge (s : State) (l : Link) : (s.purge l).exposure = s.exposure := by
  unfold State.purge; dsimp only; split <;> simp

@[simp] theorem State.exposure_commitTable (s : State) : s.commitTable.exposure = s.exposure :=
  State.foldl_fixes _ State.exposure (fun t l => by split <;> simp) _ _

@[simp] theorem State.exposure_commitVehicle (s : State) : s.commitVehicle.exposure = s.exposure := by
  simp [State.commitVehicle]

theorem State.exposure_endSlot (s : State) (i : ObjSlot) : (s.endSlot i).exposure = s.exposure := by
  unfold State.endSlot State.noteExpiry; dsimp only; repeat' split
  all_goals simp

@[simp] theorem State.exposure_countDownTable (s : State) : s.countDownTable.exposure = s.exposure :=
  State.foldl_fixes _ State.exposure State.exposure_endSlot _ _

@[simp] theorem State.exposure_startFrame (s : State) : s.startFrame.exposure = s.exposure := by
  have opened : s.openCameras.exposure = s.exposure :=
    State.foldl_fixes _ State.exposure (fun u c => by simp [State.openCamera]) _ _
  rw [← opened]
  unfold State.startFrame
  generalize s.openCameras = u
  rfl

@[simp] theorem State.exposure_canFrame (s : State) (l : Link) (ident : BitVec 11) (payload : List Byte) :
    (s.canFrame l ident payload).exposure = s.exposure := by
  unfold State.canFrame; repeat' split
  all_goals simp

@[simp] theorem State.exposure_cutExchange (s : State) : s.cutExchange.exposure = s.exposure := rfl

@[simp] theorem State.exposure_completeExchange (s : State) (half : List Byte) :
    (s.completeExchange half).exposure = s.exposure := by
  unfold State.completeExchange; dsimp only; repeat' split
  all_goals simp

@[simp] theorem State.exposure_ownerExpiry (s : State) (l : Link) : (s.ownerExpiry l).exposure = s.exposure := by
  unfold State.ownerExpiry; split <;> simp

@[simp] theorem State.exposure_recoveryExpiry (s : State) : s.recoveryExpiry.exposure = s.exposure := by
  unfold State.recoveryExpiry; split <;> simp

theorem State.exposure_takeHead {s t : State} {row : RequestRow} {l : Link} {r : Request}
    (h : s.takeHead row l = some (r, t)) : t.exposure = s.exposure := by
  obtain ⟨rest, -, -, -, rfl⟩ := State.takeHead_eq h
  rfl

@[simp] theorem State.exposure_answerUnknown (l : Link) (s : State) : (s.answerUnknown l).exposure = s.exposure := by
  unfold State.answerUnknown
  split
  · rfl
  · rename_i taken; simp [State.exposure_takeHead taken]

/-! ## Through the requests -/

section
variable (l : Link) (r : Request) (s : State)

/-- Requests of the overlay object table. -/
@[simp] theorem State.exposure_objectRequests :
    (actObjectPut l r s).1.exposure = s.exposure ∧ (actObjectMove l r s).1.exposure = s.exposure ∧
    (actObjectStyle l r s).1.exposure = s.exposure ∧ (actTextSetCursor l r s).1.exposure = s.exposure ∧
    (actTextAppend l r s).1.exposure = s.exposure ∧ (actObjectRemove l r s).1.exposure = s.exposure ∧
    (actObjectRemoveAll l r s).1.exposure = s.exposure ∧ (actStripSet l r s).1.exposure = s.exposure := by
  unfold actObjectPut actObjectMove actObjectStyle actTextSetCursor actTextAppend actObjectRemove actObjectRemoveAll actStripSet
  and_intros
  all_goals try dsimp only
  all_goals repeat' split
  all_goals simp

/-- Requests of the vehicle state, the tracks and the zones. -/
@[simp] theorem State.exposure_vehicleRequests :
    (actVehicleState l r s).1.exposure = s.exposure ∧ (actBodyState l r s).1.exposure = s.exposure ∧
    (actTrackUpdate l r s).1.exposure = s.exposure ∧ (actTrackDrop l r s).1.exposure = s.exposure ∧
    (actZoneAck l r s).1.exposure = s.exposure := by
  unfold actVehicleState actBodyState actTrackUpdate actTrackDrop actZoneAck
  and_intros
  all_goals try dsimp only
  all_goals repeat' split
  all_goals simp

/-- Requests that no link is refused: a view, a reading of the settings. -/
@[simp] theorem State.exposure_openRequests :
    (actViewRequest r s).1.exposure = s.exposure ∧ (actSettingsRead r s).1.exposure = s.exposure := by
  unfold actViewRequest actSettingsRead
  and_intros
  all_goals dsimp only
  all_goals repeat' split
  all_goals simp

/-- Requests of the view masks, of the settings block but the commit, and the status query. -/
@[simp] theorem State.exposure_settingsRequests :
    (actViewMaskSet l r s).1.exposure = s.exposure ∧ (actViewMaskClear l r s).1.exposure = s.exposure ∧
    (actStatusQuery l r s).1.exposure = s.exposure ∧ (actServiceEnter l r s).1.exposure = s.exposure ∧
    (actServiceExit l r s).1.exposure = s.exposure ∧ (actSettingsWrite l r s).1.exposure = s.exposure := by
  unfold actViewMaskSet actViewMaskClear actStatusQuery actServiceEnter actServiceExit actSettingsWrite
  and_intros
  all_goals try dsimp only
  all_goals repeat' split
  all_goals simp

end

end Sys2Proof.Machine
end

section
/-! SUPPORT. The regulator of one camera within its limits (R44), through every operation on that camera. -/

namespace Sys2Proof.Machine

/-- R43 and R44 of one camera: its settings give limits, and its regulator lies within them. -/
structure State.ExposureOk (s : State) (c : Camera) : Prop where
  limits : (s.body.camera c).Limits
  regulator : (s.reg c).Ok (s.body.camera c)

theorem State.ExposureOk.congr {s t : State} {c : Camera} (h : s.ExposureOk c) (body : t.body = s.body) (reg : t.reg = s.reg) :
    t.ExposureOk c :=
  ⟨body ▸ h.limits, body ▸ reg ▸ h.regulator⟩

theorem State.body_of_besideCamera {c : Camera} {s t : State} (h : t.besideCamera c = s.besideCamera c) : t.body = s.body :=
  (congrArg State.body h :)

section
variable {s : State} {c : Camera}

theorem State.exposureOk_noteCamera {b : State} (h : s.ExposureOk c) : (State.noteCamera c b s).ExposureOk c :=
  h.congr (by simp) (by simp)

/-- An operation on the camera that leaves gain, duty and stop timer. -/
theorem State.ExposureOk.heater {t : State} (h : s.ExposureOk c) (body : t.body = s.body) (gain : (t.reg c).gain = (s.reg c).gain)
    (duty : (t.reg c).duty = (s.reg c).duty) (timer : (t.reg c).stopTimer = (s.reg c).stopTimer) : t.ExposureOk c :=
  ⟨body ▸ h.limits, body ▸ h.regulator.congr gain duty timer⟩

/-- R53: the heater demand is no matter of R44. -/
theorem State.ExposureOk.workHeater (h : s.ExposureOk c) : (s.workHeater c).ExposureOk c :=
  h.heater rfl (by simp [State.workHeater]) (by simp [State.workHeater]) (by simp [State.workHeater])

theorem State.ExposureOk.addStatusByte (h : s.ExposureOk c) (cycle : Nat) (b : Byte) :
    (s.addStatusByte c cycle b).ExposureOk c := by
  have reg := (State.addStatusByte_statusOnly (s := s) (c := c) cycle b).reg
  exact h.heater (State.body_of_besideCamera (s.besideCamera_addStatusByte c cycle b)) (congrArg Regulator.gain reg :)
    (congrArg Regulator.duty reg :) (congrArg Regulator.stopTimer reg :)

/-- R29: a fill that ends may hand its frame to the regulator. -/
theorem State.ExposureOk.endFill (h : s.ExposureOk c) (f : Fill) : (s.endFill c f).ExposureOk c := by
  have body : (s.endFill c f).body = s.body := State.endFill_body
  refine ⟨by rw [body]; exact h.limits, ?_⟩
  rw [body]
  by_cases ends : s.endsAbandoned c f
  · rw [(State.endFill_abandons ends).2]; exact h.regulator
  · rw [(State.endFill_completes ends).2]; exact h.regulator.takeFrame h.limits _ _ _

theorem State.ExposureOk.finishCopy (h : s.ExposureOk c) : (s.finishCopy c).ExposureOk c := by
  unfold State.finishCopy
  split
  · exact h
  · have finished : (s.setPict c (s.pict c).finishCopy).ExposureOk c := h.congr rfl rfl
    dsimp only
    split
    · split
      · exact finished.endFill _
      · exact finished
    · exact finished

/-- A frame-start hands no frame over. -/
theorem State.frameStart_reg (cycle : Nat) : (s.frameStart c cycle).reg = s.reg := by
  have opened : ∀ u : State, (u.openFill c cycle).reg = u.reg := fun u => by
    unfold State.openFill; dsimp only; split <;> simp
  unfold State.frameStart State.enterLocked
  dsimp only
  repeat' split
  all_goals simp [opened]

theorem State.ExposureOk.judgeGroup (h : s.ExposureOk c) (f : Fill) (g : Nat) (check : Byte) :
    (s.judgeGroup c f g check).ExposureOk c :=
  h.congr (State.body_of_besideCamera (s.besideCamera_judgeGroup c f g check)) (s.judgeGroup_reg c f g check)

theorem State.ExposureOk.writeRow (h : s.ExposureOk c) (f : Fill) (r : Nat) (k : RowRecord) :
    (s.writeRow c f r k).ExposureOk c :=
  h.congr (State.body_of_besideCamera (s.besideCamera_writeRow c f r k)) State.writeRow_reg

theorem State.ExposureOk.lineInFill (h : s.ExposureOk c) (r : Nat) (k : RowRecord) : (s.lineInFill c r k).ExposureOk c := by
  have finished : ∀ due : Bool, (if due then s.finishCopy c else s).ExposureOk c := fun due => by
    cases due
    · exact h
    · exact h.finishCopy
  unfold State.lineInFill
  dsimp only
  split
  · exact finished _
  · have written := (finished (r % 8 == 0 && decide (8 ≤ r))).writeRow ‹Fill› r k
    split
    · exact written.judgeGroup _ _ _
    · exact written

theorem State.ExposureOk.lastInFill (h : s.ExposureOk c) (k : RowRecord) : (s.lastInFill c k).ExposureOk c := by
  unfold State.lastInFill
  dsimp only
  split
  · exact h.finishCopy
  · refine State.ExposureOk.addStatusByte ?_ _ _
    have marked : ∀ f : Fill, ((s.finishCopy c).setRecv c { (s.finishCopy c).recv c with fill := some f }).ExposureOk c :=
      fun f => h.finishCopy.congr rfl rfl
    unfold State.endIfDone
    have judged : ∀ f k, (State.markJudged (State.judgeGroup _ c f 59 k) c).ExposureOk c := fun f k =>
      ((marked f).judgeGroup f 59 k).congr rfl rfl
    split
    · exact (judged _ _).endFill _
    · exact judged _ _

theorem State.ExposureOk.takePlace (h : s.ExposureOk c) (n : Nat) (k : RowRecord) : (s.takePlace c n k).ExposureOk c := by
  unfold State.takePlace
  repeat' split
  · exact h
  · exact h.lineInFill _ k
  · exact h.lastInFill k
  · exact h.finishCopy
  · exact h

theorem State.ExposureOk.wake (h : s.ExposureOk c) : (s.wake c).ExposureOk c :=
  h.congr (State.body_of_besideCamera (s.besideCamera_wake c)) (s.wake_keeps c).2

theorem State.ExposureOk.frameStart (h : s.ExposureOk c) (cycle : Nat) : (s.frameStart c cycle).ExposureOk c :=
  h.congr (State.body_of_besideCamera (s.besideCamera_frameStart c cycle)) (State.frameStart_reg cycle)

/-- R1 to R3, R6, R7, R10: a line or blanking record. -/
theorem State.ExposureOk.rowRecord (h : s.ExposureOk c) (k : RowRecord) : (s.rowRecord c k).ExposureOk c := by
  have counted : (s.setRecv c { s.recv c with place := (s.recv c).place + 1 }).ExposureOk c := h.congr rfl rfl
  unfold State.rowRecord
  dsimp only
  split
  · exact h
  · exact h
  · split
    · exact h.congr (State.body_of_besideCamera (s.besideCamera_confirmFails c)) (by simp)
    · exact counted
  · split
    · exact h.congr (State.body_of_besideCamera (s.besideCamera_missingFrameStart c)) (by simp)
    · split
      · exact counted
      · exact State.exposureOk_noteCamera (counted.takePlace _ k)

/-- R4 -/
theorem State.ExposureOk.fallSilent (h : s.ExposureOk c) : (s.fallSilent c).ExposureOk c := by
  unfold State.fallSilent
  split
  · exact h
  · have silent : ∀ r, ((s.leaveLocked c).setRecv c r).ExposureOk c := fun r => h.congr (by simp) (by simp)
    exact State.exposureOk_noteCamera (silent _).workHeater

/-- R13 -/
theorem State.ExposureOk.windowEnd (h : s.ExposureOk c) : (s.windowEnd c).ExposureOk c := by
  refine h.congr (State.body_of_besideCamera (s.besideCamera_windowEnd c)) ?_
  unfold State.windowEnd
  dsimp only
  repeat' split
  all_goals simp

/-- R50 -/
theorem State.ExposureOk.stopExpiry (h : s.ExposureOk c) : (s.setReg c (s.reg c).stopExpiry).ExposureOk c :=
  ⟨h.limits, by rw [State.reg_setReg_self]; exact h.regulator.stopExpiry⟩

end

end Sys2Proof.Machine
end

section
/-! Every step keeps gains and duties within their limits (R44), and what is handed to the return word in CRANK is duty 0 and heater
off: O13. -/

namespace Sys2Proof.Machine

/-! ## From one camera to four -/

/-- R43 and R44 of every camera: the invariant that every step keeps. -/
def State.ExposuresOk (s : State) : Prop := ∀ c, s.ExposureOk c

theorem State.SettingsOk.exposures {s : State} (h : s.SettingsOk) (regulators : s.RegulatorsOk) : s.ExposuresOk :=
  fun c => ⟨Body.camera_limits h.1.valid.1 c, regulators c⟩

theorem State.exposure_fields {s : State} {g : Vector Regulator 4} {b : Body} (e : s.exposure = (g, b)) :
    s.body = b ∧ ∀ c, s.reg c = g[c] := by
  obtain ⟨regulators, body⟩ := Prod.mk.inj e
  exact ⟨body, fun c => by rw [State.reg, regulators]⟩

theorem State.ExposuresOk.of_exposure {s t : State} (h : s.ExposuresOk) (e : t.exposure = s.exposure) : t.ExposuresOk :=
  have ⟨body, reg⟩ := State.exposure_fields e
  fun c => (h c).congr body (funext reg)

theorem State.ExposuresOk.settle {s : State} (h : s.ExposuresOk) : s.settle.ExposuresOk := h.of_exposure rfl

/-- What touches one camera alone and leaves its regulator within its limits leaves them all so. -/
theorem State.ExposuresOk.camera_moves {s u : State} {c : Camera} (h : s.ExposuresOk)
    (beside : u.besideCamera c = s.besideCamera c) (ok : u.ExposureOk c) : u.ExposuresOk := by
  intro d
  by_cases hd : d = c
  · exact hd ▸ ok
  · obtain ⟨-, -, reg⟩ := State.otherCameras_of_besideCamera beside d hd
    have body := State.body_of_besideCamera beside
    exact ⟨body ▸ (h d).limits, by rw [reg, body]; exact (h d).regulator⟩

/-- R58, R59: the regulators at their starting values under settings in order. -/
theorem State.exposuresOk_of_restart {s : State} {b : Body} (lim : ∀ c, (b.camera c).Limits)
    (e : s.exposure = (Vector.ofFn fun c => Regulator.atReset (b.camera c), b)) : s.ExposuresOk := by
  obtain ⟨body, reg⟩ := State.exposure_fields e
  intro c
  refine ⟨body ▸ lim c, ?_⟩
  rw [body, reg]
  simpa using Regulator.atReset_ok (lim c)

/-! ## Resets -/

/-- R58, R190: after the end of the settings load. -/
theorem State.endLoad_exposure (s : State) (found : Option Body) :
    (s.endLoad found).exposure =
      (Vector.ofFn fun c => Regulator.atReset ((found.getD Body.builtIn).camera c), found.getD Body.builtIn) := by
  simp only [State.endLoad, State.exposure_updates, State.exposure_zones]
  rfl

/-- R59, R195: after a warm reset. -/
theorem State.warmReset_exposure (s : State) {first : State → State} (h : ∀ t : State, (first t).exposure = t.exposure) :
    (s.warmReset first).exposure = (Vector.ofFn fun c => Regulator.atReset (s.body.camera c), s.body) := by
  have blocks : s.warmBlocks.exposure = (Vector.ofFn fun c => Regulator.atReset (s.body.camera c), s.body) := rfl
  unfold State.warmReset State.noteServiceEnd
  split <;> simp [h, blocks]

theorem State.ExposuresOk.warmReset {s : State} (h : s.ExposuresOk) {first : State → State}
    (keeps : ∀ t : State, (first t).exposure = t.exposure) : (s.warmReset first).ExposuresOk :=
  State.exposuresOk_of_restart (fun c => (h c).limits) (s.warmReset_exposure keeps)

theorem State.ExposuresOk.answerReset {s : State} (h : s.ExposuresOk) (l : Link) : (s.answerReset l).ExposuresOk := by
  unfold State.answerReset
  split
  · exact h
  · rename_i taken
    have head := h.of_exposure (State.exposure_takeHead taken)
    split
    · exact head.of_exposure rfl
    · split
      · exact head.of_exposure rfl
      · exact head.warmReset fun _ => rfl

theorem State.ExposuresOk.lineFalls {s : State} (h : s.ExposuresOk) : s.lineFalls.ExposuresOk := by
  have low : ({ s with resetLineHigh := false } : State).ExposuresOk := h.of_exposure rfl
  unfold State.lineFalls
  split
  · split
    · exact (low.warmReset fun _ => rfl).settle
    · exact low
  · exact h

/-- R190: a record that the load finds is put in force only where it is valid. -/
theorem SettingsMemory.validBody_valid {m : SettingsMemory} {b : Body} (h : m.validBody = some b) : b.valid = true := by
  unfold SettingsMemory.validBody at h
  split at h
  · cases h
  · exact (Option.filter_eq_some_iff.mp h).2

/-- R190, R197: after a loss of power the regulators stand at the default starting values under the defaults. -/
theorem State.exposuresOk_of_powerLoss {s t : State} (e : t.exposure = s.powerLoss.exposure) : t.ExposuresOk := by
  have initial : ∀ c, (Body.builtIn.camera 0).initialGain = (Body.builtIn.camera c).initialGain := fun c => by
    have same := (Body.builtIn_camera 0).trans (Body.builtIn_camera c).symm
    simp only [Prod.mk.injEq] at same
    exact same.2.1
  refine State.exposuresOk_of_restart Body.builtIn_camera_limits (e.trans (Prod.ext (Vector.ext fun i hi => ?_) rfl))
  simp [State.exposure, State.powerLoss, State.reset, Regulator.atReset, initial ⟨i, hi⟩]

/-! ## The commit (R51) -/

theorem State.commitRegulators_reg (s : State) (old : Body) (c : Camera) :
    (s.commitRegulators old).reg c =
      (s.reg c).commit (old.camera c) (s.body.camera c) (s.recv c).accepted := by
  simp [State.reg, State.commitRegulators]

/-- R51, R193: every regulator takes the commit, whatever record its camera has accepted, and the new settings are in force. -/
theorem State.applyCommit_exposure (s : State) (new : Body) :
    (s.applyCommit new).body = new ∧
      ∀ c, ∃ accepted, (s.applyCommit new).reg c = (s.reg c).commit (s.body.camera c) (new.camera c) accepted := by
  have table : (s.setSettings (s.settings.putInForce new)).commitTable.exposure = (s.regulators, new) :=
    State.exposure_commitTable _
  have last : (s.applyCommit new).exposure =
      ((s.setSettings (s.settings.putInForce new)).commitTable.commitRegulators s.body).exposure := by
    simp [State.applyCommit]
  generalize (s.setSettings (s.settings.putInForce new)).commitTable = u at table last
  obtain ⟨body, reg⟩ := State.exposure_fields table
  obtain ⟨bodyAfter, regAfter⟩ := State.exposure_fields last
  refine ⟨bodyAfter.trans body, fun c => ⟨(u.recv c).accepted, (regAfter c).trans ?_⟩⟩
  have told := u.commitRegulators_reg s.body c
  rw [body, reg] at told
  exact told

/-- R193: a staging copy in which nothing fails is put in force. -/
theorem State.ExposuresOk.tryCommit {s : State} (h : s.ExposuresOk) (staging : Body) : (s.tryCommit staging).1.ExposuresOk := by
  unfold State.tryCommit
  split
  · exact h
  · rename_i passes
    obtain ⟨body, reg⟩ := s.applyCommit_exposure staging
    have lim := Body.camera_limits (Body.valid_iff.mpr passes)
    intro c
    obtain ⟨accepted, told⟩ := reg c
    exact ⟨by rw [body]; exact lim c, by rw [body, told]; exact (h c).regulator.commit (lim c) accepted⟩

theorem State.ExposuresOk.settingsCommit {s : State} (h : s.ExposuresOk) (l : Link) (r : Request) :
    (actSettingsCommit l r s).1.ExposuresOk := by
  unfold actSettingsCommit
  split
  · exact h
  · exact h.tryCommit _
  · exact h

/-! ## The supply and the clock -/

/-- R54 -/
theorem State.ExposuresOk.dipExpiry {s : State} (h : s.ExposuresOk) : s.dipExpiry.ExposuresOk := by
  unfold State.dipExpiry
  split
  · exact h
  · intro c
    refine ⟨(h c).limits, ?_⟩
    have reg : ∀ u, (((s.setSupply u).crankRegulators).noteSupply).reg c = (s.reg c).enterCrank := fun u => by
      simp [State.reg, State.noteSupply, State.raise, State.crankRegulators, State.setSupply]
    rw [reg]
    exact (h c).regulator.enterCrank

/-- A step on an empty queue (log 1). -/
theorem State.ExposuresOk.idle {s : State} (h : s.ExposuresOk) : s.idle.ExposuresOk := by
  unfold State.idle
  split
  · exact h
  · intro c
    have reg : s.millisecond.reg c = (s.reg c).tick := by simp [State.reg, State.millisecond]
    exact ⟨(h c).limits, by rw [reg]; exact (h c).regulator.tick⟩

/-! ## The kinds of commands -/

section
variable {s t : State}

/-- A command of one camera. -/
theorem State.ExposuresOk.camera {c : Camera} {f : State → State} (h : s.ExposuresOk)
    (beside : ∀ u : State, (f u).besideCamera c = u.besideCamera c) (ok : ∀ u : State, u.ExposureOk c → (f u).ExposureOk c)
    (next : whileRunning s f = .next t) : t.ExposuresOk :=
  whileRunning_keeps State.ExposuresOk (fun _ hu => hu.settle) f
    (fun u _ hu => hu.camera_moves (beside u) (ok u (hu c))) next h

/-- A command of another block. -/
theorem State.ExposuresOk.block {f : State → State} (h : s.ExposuresOk) (keeps : ∀ u : State, (f u).exposure = u.exposure)
    (next : whileRunning s f = .next t) : t.ExposuresOk :=
  h.of_exposure (whileRunning_fixes State.exposure (fun _ => rfl) f keeps next)

/-- A request of another block. -/
theorem State.ExposuresOk.request {row : RequestRow} {l : Link} {act : Request → State → State × Answer} (h : s.ExposuresOk)
    (next : whileRunning s (answering row l act) = .next t) (keeps : ∀ r u, (act r u).1.exposure = u.exposure) :
    t.ExposuresOk :=
  h.block (answering_fixes State.exposure (fun _ _ _ => rfl) row l act keeps) next

/-- An event of a link controller. -/
theorem State.ExposuresOk.link {l : Link} {f : LinkCtl → LinkCtl} (h : s.ExposuresOk)
    (next : (whileRunning s fun u => u.onCtl l f) = .next t) : t.ExposuresOk :=
  h.block (f := fun u => u.onCtl l f) (fun _ => rfl) next

/-- The end of a commit in flight. -/
theorem State.ExposuresOk.commitEnds {f : SettingsBlock → SettingsBlock} (h : s.ExposuresOk)
    (next : (whileRunning s fun u => u.endCommit f) = .next t) (keeps : ∀ b, (f b).working = b.working) : t.ExposuresOk :=
  h.block (fun u => u.exposure_endCommit keeps) next

/-- An event of the supply monitor. -/
theorem State.ExposuresOk.powered {f : State → State} (h : s.ExposuresOk) (keeps : s.ExposuresOk → (f s).ExposuresOk)
    (next : whilePowered s f = .next t) : t.ExposuresOk := by
  unfold whilePowered at next
  split at next
  · obtain rfl := Host.Outcome.next.inj next; exact h
  · obtain rfl := Host.Outcome.next.inj next; exact keeps h
  · obtain rfl := Host.Outcome.next.inj next; exact (keeps h).settle

theorem State.ExposuresOk.supply {f : Supply → Supply} (h : s.ExposuresOk)
    (next : (whilePowered s fun u => u.setSupply (f u.supply)) = .next t) : t.ExposuresOk :=
  h.powered (f := fun u => u.setSupply (f u.supply)) (fun hs => hs.of_exposure rfl) next

/-- The end of the settings load. -/
theorem State.ExposuresOk.loaded {found : Option Body} (h : s.ExposuresOk) (valid : ∀ b, found = some b → b.valid = true)
    (next : whileLoading s found = .next t) : t.ExposuresOk := by
  have lim : ∀ c, ((found.getD Body.builtIn).camera c).Limits := by
    cases found with
    | none => exact Body.builtIn_camera_limits
    | some b => exact Body.camera_limits (valid b rfl)
  obtain rfl := Host.Outcome.next.inj next
  split
  · exact (State.exposuresOk_of_restart lim (s.endLoad_exposure found)).settle
  · exact h

/-- A command whose answer is written out, with regulators and working copy as they were. -/
theorem State.ExposuresOk.same (h : s.ExposuresOk) {u : State}
    (next : (.next u : Host.Outcome State Fault Refusal) = .next t) (e : u.exposure = s.exposure) : t.ExposuresOk :=
  Host.Outcome.next.inj next ▸ h.of_exposure e

/-! ## Every command (O13) -/

theorem State.ExposuresOk.frameStartRecord {c : Camera} {packet : List Byte} (h : s.ExposuresOk)
    (next : execFrameStartRecord c packet s = .next t) : t.ExposuresOk := by
  unfold execFrameStartRecord at next
  split at next
  · rename_i cycle _
    split at next
    · cases next
    · exact h.camera (c := c) (fun u => by simp) (fun u hu => hu.wake.frameStart cycle) next
  · exact h.same next rfl

theorem State.ExposuresOk.rowRecord {c : Camera} {k : RowRecord} (h : s.ExposuresOk)
    (next : (whileRunning s fun u => u.rowArrives c k) = .next t) : t.ExposuresOk :=
  h.camera (fun u => u.besideCamera_rowArrives c k) (fun _ hu => hu.wake.rowRecord k) next

theorem State.exposure_unless {u : State} {P : Prop} [Decidable P] (h : t.exposure = u.exposure) :
    (if P then u else t).exposure = u.exposure := by
  split
  · rfl
  · exact h

theorem State.ExposuresOk.exec {i : Instr} (h : s.ExposuresOk) (next : exec i s = .next t) : t.ExposuresOk := by
  cases i with
  | frameStartRecord c packet => exact h.frameStartRecord next
  | lineRecord c packet =>
    change execLineRecord c packet s = .next t at next
    unfold execLineRecord at next
    split at next
    · exact h.rowRecord next
    · exact h.same next rfl
  | blankingRecord c packet =>
    change execBlankingRecord c packet s = .next t at next
    unfold execBlankingRecord at next
    split at next
    · exact h.rowRecord next
    · exact h.same next rfl
  | silenceTimerExpiry c => exact h.camera (fun u => u.besideCamera_fallSilent c) (fun _ hu => hu.fallSilent) next
  | returnTimerExpiry c =>
    exact h.block (fun u => State.exposure_unless (rfl : (u.sendWord c).exposure = u.exposure)) next
  | errorWindowEnd c => exact h.camera (fun u => u.besideCamera_windowEnd c) (fun _ hu => hu.windowEnd) next
  | concealmentCopyFinish c =>
    exact h.camera (c := c) (fun u => by simp) (fun u hu => State.exposureOk_noteCamera hu.finishCopy) next
  | stopTimerExpiry c =>
    exact h.camera (c := c) (f := fun u => u.setReg c (u.reg c).stopExpiry) (fun u => by simp) (fun _ hu => hu.stopExpiry) next
  | outputFrameStart =>
    change execOutputFrameStart s = .next t at next
    unfold execOutputFrameStart at next
    split at next
    · exact h.block State.exposure_startFrame next
    · exact h.same next rfl
    · exact h.same next rfl
  | outputFrameEnd =>
    change execOutputFrameEnd s = .next t at next
    unfold execOutputFrameEnd at next
    split at next
    · exact h.block (fun u => by simp) next
    · exact h.same next rfl
    · exact h.same next rfl
  | objectPut l | objectMove l | objectStyle l | objectTextSetCursor l | objectTextAppend l | objectRemove l
  | objectRemoveAll l | stripSet l | vehicleState l | bodyState l | trackUpdate l | trackDrop l | zoneAck l | viewRequest l
  | viewMaskSet l | viewMaskClear l | statusQuery l | serviceEnter l | serviceExit l | settingsWrite l | settingsRead l =>
    exact h.request next fun r u => by simp
  | settingsCommit l =>
    exact whileRunning_keeps State.ExposuresOk (fun _ hu => hu.settle) _
      (answering_keeps State.ExposuresOk (fun _ _ _ hu => hu.of_exposure rfl) _ l _ fun r _ _ hu => hu.settingsCommit l r) next h
  | ownerSilenceTimerExpiry l => exact h.block (fun u => u.exposure_ownerExpiry l) next
  | indicatorOffDelayExpiry | chassisSilenceTimerExpiry | bodySilenceTimerExpiry =>
    exact h.block (fun u => State.exposure_unless (u.exposure_takeVehicle _)) next
  | trackExpiry p => exact h.block (fun u => State.exposure_unless (u.exposure_setPlace p none)) next
  | holdTimerExpiry z => exact h.block (f := fun u => u.holdExpiry z) (fun u => by simp) next
  | dwellPeriodEnd z => exact h.block (f := fun u => u.dwellEnd z) (fun u => by simp) next
  | segmentTimerExpiry => exact h.block (f := fun u => { u with alert := u.alert.segmentExpiry u.body }) (fun _ => rfl) next
  | causeTimerExpiry i => exact h.block (f := fun u => u.causeExpiry i) (fun u => by simp) next
  | showTimerExpiry => exact h.block (f := State.showExpiry) (fun u => by simp) next
  | canRequestFrame p ident payload => exact h.block (fun u => u.exposure_canFrame p.link ident payload) next
  | spiExchangeStart =>
    change execSpiExchangeStart s = .next t at next
    unfold execSpiExchangeStart at next
    split at next
    · exact h.link next
    · exact h.same next rfl
    · exact h.same next rfl
  | spiExchange half =>
    change execSpiExchange half s = .next t at next
    unfold execSpiExchange at next
    split at next
    · refine h.block (fun u => ?_) next
      split
      · exact u.exposure_cutExchange
      · exact u.exposure_completeExchange half
    · exact h.same next rfl
    · exact h.same next rfl
  | spiExchangeCutShort =>
    change execSpiExchangeCutShort s = .next t at next
    unfold execSpiExchangeCutShort at next
    split at next
    · exact h.block State.exposure_cutExchange next
    · exact h.same next rfl
    · exact h.same next rfl
  | canFrameAcknowledged p | canArbitrationLoss p | canBusError p | canBusOff p | canBusOffRecovery p =>
    exact h.link next
  | unknownKind l => exact h.block (State.exposure_answerUnknown l) next
  | commitWriteComplete | commitWriteFailed | commitLimitExpiry =>
    exact h.commitEnds next fun _ => rfl
  | coldReset below => exact Host.Outcome.next.inj next ▸ State.exposuresOk_of_powerLoss (s := s) rfl
  | settingsLoadEnd => exact h.loaded (fun b found => SettingsMemory.validBody_valid found) next
  | settingsLoadLimitExpiry | settingsLoadNotAcknowledged => exact h.loaded (fun _ found => by cases found) next
  | resetN => exact Host.Outcome.next.inj next ▸ h.lineFalls
  | reset l =>
    exact whileRunning_keeps State.ExposuresOk (fun _ hu => hu.settle) _ (fun _ _ hu => hu.answerReset l) next h
  | supplyFallBelow18V | supplyRiseTo18V | supplyRiseTo20V | supplyFallBelow20V =>
    exact h.supply next
  | dipTimerExpiry => exact h.powered State.ExposuresOk.dipExpiry next
  | recoveryTimerExpiry => exact h.powered (fun hs => hs.of_exposure s.exposure_recoveryExpiry) next
  | supplyStop =>
    obtain rfl := Host.Outcome.next.inj next
    split
    · exact h
    · exact State.exposuresOk_of_powerLoss (s := s) rfl
  | resetNRise => exact h.same next rfl

end

/-- The default settings with camera 0's illuminator fitted, in force but not committed, and regulator 0 at the stop duty with its stop
timer running. -/
def State.dimmed : State :=
  { State.reset.setReg 0 { State.reset.reg 0 with duty := 20, stopTimer := some 3000 } with
    settings := { State.reset.settings with working := Body.builtIn.write 2 12 [1], state := .modified } }

/-- The hypotheses of O13 hold with a stop timer running, and the handing over in CRANK hides a duty that is held. -/
theorem State.dimmed_ok :
    State.dimmed.SettingsOk ∧ State.dimmed.RegulatorsOk ∧ (State.dimmed.reg 0).stopTimer.isSome = true ∧
      (State.dimmed.reg 0).handedDuty .normal = 20 ∧ (State.dimmed.reg 0).handedDuty .crank = 0 := by
  have settings : State.dimmed.body.valid = true ∧ State.dimmed.body.wf = true := by decide +kernel
  have regulators : ∀ c, let cfg := State.dimmed.body.camera c
      let r := State.dimmed.reg c
      (cfg.gainFloor ≤ r.gain ∧ r.gain ≤ cfg.gainCeiling) ∧ (r.duty = 0 ∨ (cfg.stopDuty ≤ r.duty ∧ r.duty ≤ 100)) ∧
        (cfg.fitted = false → r.duty = 0) ∧ (r.stopTimer.isSome = true → r.duty = cfg.stopDuty) := by decide +kernel
  refine ⟨⟨?_, rfl⟩, fun c => ?_, by decide +kernel⟩
  · exact ⟨settings, rfl, fun _ e => (by cases e), fun e => (by cases e), fun e => (by cases e), fun e => (by cases e),
      fun e => (by cases e), fun _ e => (by cases e)⟩
  · obtain ⟨gain, duty, fitted, timer⟩ := regulators c
    exact ⟨gain, duty, fitted, timer⟩

/-- Settles O13: settings in order give every camera limits that hold (R43); a millisecond, or the command in front, keeps its regulator
within them. -/
theorem regulatorsStayWithinLimits : Obligations.RegulatorsStayWithinLimits := by
  refine ⟨fun s t settings regulators stepped => ?_, fun _ => ⟨rfl, rfl, rfl, rfl⟩⟩
  have ok := settings.exposures regulators
  have kept : t.ExposuresOk := by
    unfold step at stepped
    split at stepped
    · exact Host.Outcome.next.inj stepped ▸ ok.idle
    · rename_i i rest _
      have queued : (s.withPending rest).ExposuresOk := ok.of_exposure rfl
      exact queued.exec stepped
  exact fun c => (kept c).regulator

end Sys2Proof.Machine
end

section
/-! SUPPORT. The ladder of a calibration (R62, R66, R67): the rung and fraction of a depth, and the range of what is interpolated. -/

namespace Sys2Proof.Machine

/-! ## The rung of a depth (R66) -/

section
variable {k : Calibration} {d : Int} {i : Nat} {f : Int}

/-- R62: the depths of the ladder rise from rung to rung. -/
theorem Calibration.Ok.depth_lt (h : k.Ok) {j : Nat} (lt : i < j) (le : j ≤ 8) : (k.rung i).depth < (k.rung j).depth := by
  induction j, lt using Nat.le_induction with
  | base => exact h.depth i (by omega)
  | succ j _ ih => exact (ih (by omega)).trans (h.depth j (by omega))

theorem Calibration.locate_eq_none_iff : k.locate d = none ↔ d < (k.rung 0).depth ∨ (k.rung 8).depth < d := by
  unfold Calibration.locate
  split
  case isTrue outside => simp [outside]
  case isFalse within =>
    refine iff_of_false (fun missing => ?_) within
    split at missing
    · cases missing
    · rename_i none_found
      have above := List.find?_eq_none.mp none_found 0 (by decide)
      simp only [decide_eq_true_eq] at above
      omega

/-- R66: the rung is the highest of the first eight whose depth is at most d. -/
theorem Calibration.locate_eq_some (h : k.locate d = some (i, f)) :
    i ≤ 7 ∧ (k.rung i).depth ≤ d ∧ d ≤ (k.rung 8).depth ∧ (∀ j, i < j → j ≤ 7 → d < (k.rung j).depth) ∧
      f = (d - (k.rung i).depth) * 256 / ((k.rung (i + 1)).depth - (k.rung i).depth) := by
  unfold Calibration.locate at h
  split at h
  case isTrue => cases h
  case isFalse within =>
    split at h
    case h_2 => cases h
    case h_1 place found =>
      obtain ⟨rfl, rfl⟩ := Prod.mk.inj (Option.some.inj h)
      obtain ⟨below, before, after, ladder, above⟩ := List.find?_eq_some_iff_append.mp found
      simp only [decide_eq_true_eq] at below
      have descending : (before ++ place :: after).Pairwise (· > ·) := by rw [← ladder]; decide
      have all : ∀ j, j ≤ 7 ↔ j ∈ before ++ place :: after := fun j => by rw [← ladder]; simp; omega
      refine ⟨(all _).mpr (by simp), below, by omega, fun j higher le => ?_, rfl⟩
      have earlier : j ∈ before := by
        obtain hj | hj := List.mem_append.mp ((all j).mp le)
        · exact hj
        · obtain rfl | hj := List.mem_cons.mp hj
          · omega
          · have := List.rel_of_pairwise_cons (List.pairwise_append.mp descending).2.1 hj
            omega
      simpa using above j earlier

theorem fraction_bounds {lo hi : Int} (le : lo ≤ d) (ge : d ≤ hi) (rises : lo < hi) :
    0 ≤ (d - lo) * 256 / (hi - lo) ∧ (d - lo) * 256 / (hi - lo) ≤ 256 ∧ ((d - lo) * 256 / (hi - lo) = 256 ↔ d = hi) ∧
      (d = lo → (d - lo) * 256 / (hi - lo) = 0) := by
  have step : 0 < hi - lo := by omega
  have top : (d - lo) * 256 / (hi - lo) ≤ 256 := Int.ediv_le_of_le_mul step (by omega)
  refine ⟨Int.ediv_nonneg (by omega) (by omega), top, ⟨fun full => ?_, ?_⟩, ?_⟩
  · have := (Int.le_ediv_iff_mul_le step).mp full.ge
    omega
  · rintro rfl
    exact Int.mul_ediv_cancel_left _ step.ne'
  · rintro rfl
    simp

/-- R66: the fraction is 256 at the last rung alone, and 0 at the depth of its rung. -/
theorem Calibration.Ok.fraction (ok : k.Ok) (h : k.locate d = some (i, f)) :
    0 ≤ f ∧ f ≤ 256 ∧ (f = 256 ↔ d = (k.rung 8).depth) ∧ (d = (k.rung i).depth → f = 0) := by
  obtain ⟨le, below, last, above, rfl⟩ := Calibration.locate_eq_some h
  have next : d ≤ (k.rung (i + 1)).depth ∧ (d = (k.rung (i + 1)).depth ↔ d = (k.rung 8).depth) := by
    obtain rfl | lt := Nat.eq_or_lt_of_le le
    · exact ⟨last, Iff.rfl⟩
    · have short := above (i + 1) (by omega) (by omega)
      have := ok.depth_lt (i := i + 1) (j := 8) (by omega) (by omega)
      omega
  rw [← next.2]
  exact fraction_bounds below next.1 (ok.depth i (by omega))

/-! ## Interpolation (R67) and what is seen (R68) -/

theorem interpolated_between {a b lo hi : Int} (f0 : 0 ≤ f) (f256 : f ≤ 256) (ha : lo ≤ a ∧ a ≤ hi) (hb : lo ≤ b ∧ b ≤ hi) :
    lo ≤ a + round256 ((b - a) * f) ∧ a + round256 ((b - a) * f) ≤ hi := by
  unfold round256
  obtain up | down := le_total a b
  · have := mul_nonneg (sub_nonneg.mpr up) f0
    have := mul_le_mul_of_nonneg_left f256 (sub_nonneg.mpr up)
    omega
  · have := mul_nonneg (sub_nonneg.mpr down) f0
    have := mul_le_mul_of_nonneg_left f256 (sub_nonneg.mpr down)
    have : (b - a) * f = -((a - b) * f) := by ring
    omega

/-- A value that keeps within its range on all nine rungs keeps within it between them. -/
theorem Calibration.Ok.lerp (ok : k.Ok) (h : k.locate d = some (i, f)) {value : Rung → Int} {lo hi : Int}
    (range : ∀ j, j ≤ 8 → lo ≤ value (k.rung j) ∧ value (k.rung j) ≤ hi) :
    lo ≤ k.lerp value (i, f) ∧ k.lerp value (i, f) ≤ hi := by
  obtain ⟨f0, f256, -, -⟩ := ok.fraction h
  have := (Calibration.locate_eq_some h).1
  exact interpolated_between f0 f256 (range i (by omega)) (range (i + 1) (by omega))

/-- R61, R68: what a camera sees is calibrated, on the ladder, and in a column of the picture. -/
theorem Calibration.see_eq_some {p : Pt} {q : Px} (h : k.see p = some q) :
    k.calibrated = true ∧ (0 ≤ q.col ∧ q.col ≤ 799) ∧
      ∃ at_, k.locate (k.depthAcross p).1 = some at_ ∧ q.row = k.lerp Rung.row at_ := by
  unfold Calibration.see at h
  split at h
  case isFalse => cases h
  case isTrue calibrated =>
    unfold Calibration.project at h
    split at h
    case h_1 => cases h
    case h_2 at_ located =>
      dsimp only at h
      split at h
      case isFalse => cases h
      case isTrue columns =>
        obtain rfl := Option.some.inj h
        exact ⟨calibrated, columns, at_, located, rfl⟩

end

end Sys2Proof.Machine
end

section
/-! SUPPORT. Blending (R164): a blend lies between its two values, and what is drawn in valid settings (R117, R166) over a picture
stays a sample of 0 to 255. -/

namespace Sys2Proof.Machine

/-! ## One component -/

theorem blend_between {alpha o b lo hi : Nat} (le : alpha ≤ 16) (ho : lo ≤ o ∧ o ≤ hi) (hb : lo ≤ b ∧ b ≤ hi) :
    lo ≤ blend alpha o b ∧ blend alpha o b ≤ hi := by
  obtain ⟨rest, whole⟩ := Nat.exists_eq_add_of_le le
  have split (n : Nat) : alpha * n + rest * n = 16 * n := by rw [← Nat.add_mul, ← whole]
  have rest_eq : 16 - alpha = rest := by omega
  have low := split lo
  have high := split hi
  have := Nat.mul_le_mul_left alpha ho.1
  have := Nat.mul_le_mul_left alpha ho.2
  have := Nat.mul_le_mul_left rest hb.1
  have := Nat.mul_le_mul_left rest hb.2
  rw [blend, rest_eq]
  omega

@[simp] theorem blend_zero (o b : Nat) : blend 0 o b = b := by
  unfold blend
  omega

@[simp] theorem blend_sixteen (o b : Nat) : blend 16 o b = o := by
  unfold blend
  omega

/-! ## Colours and figures -/

/-- The three components are samples. -/
structure Colour.Fits (c : Colour) : Prop where
  y : c.y ≤ 255
  cb : c.cb ≤ 255
  cr : c.cr ≤ 255

@[simp] theorem Colour.over_sixteen (o b : Colour) : o.over 16 b = o := by simp [Colour.over]

theorem Colour.Fits.over {o b : Colour} (ho : o.Fits) (hb : b.Fits) {alpha : Nat} (le : alpha ≤ 16) : (o.over alpha b).Fits :=
  ⟨(blend_between le ⟨Nat.zero_le _, ho.y⟩ ⟨Nat.zero_le _, hb.y⟩).2,
    (blend_between le ⟨Nat.zero_le _, ho.cb⟩ ⟨Nat.zero_le _, hb.cb⟩).2,
    (blend_between le ⟨Nat.zero_le _, ho.cr⟩ ⟨Nat.zero_le _, hb.cr⟩).2⟩

theorem black_fits : black.Fits := ⟨by decide, by decide, by decide⟩
theorem grey_fits : grey.Fits := ⟨by decide, by decide, by decide⟩
theorem white_fits : white.Fits := ⟨by decide, by decide, by decide⟩

/-- A figure whose blend over a sample is a sample. -/
structure Figure.Fits (g : Figure) : Prop where
  colour : g.colour.Fits
  alpha : g.alpha ≤ 16

theorem Figure.Fits.draw {g : Figure} (h : g.Fits) (q : Px) {b : Colour} (hb : b.Fits) : (Figure.draw q b g).Fits := by
  unfold Figure.draw
  split
  · exact h.colour.over hb h.alpha
  · exact hb

theorem drawAll_cons (g : Figure) (fs : List Figure) (q : Px) (b : Colour) :
    drawAll (g :: fs) q b = drawAll fs q (Figure.draw q b g) := rfl

theorem drawAll_append (fs gs : List Figure) (q : Px) (b : Colour) : drawAll (fs ++ gs) q b = drawAll gs q (drawAll fs q b) :=
  List.foldl_append

theorem drawAll_fits {fs : List Figure} (h : ∀ g ∈ fs, g.Fits) (q : Px) {b : Colour} (hb : b.Fits) : (drawAll fs q b).Fits := by
  induction fs generalizing b with
  | nil => exact hb
  | cons g fs ih =>
    obtain ⟨hg, hfs⟩ := List.forall_mem_cons.mp h
    exact ih hfs (hg.draw q hb)

/-- Figures that do not cover a pixel leave it. -/
theorem drawAll_of_clear {fs : List Figure} {q : Px} (clear : ∀ g ∈ fs, g.covers q = false) (b : Colour) : drawAll fs q b = b := by
  induction fs with
  | nil => rfl
  | cons g fs ih =>
    obtain ⟨hg, hfs⟩ := List.forall_mem_cons.mp clear
    rw [drawAll_cons, Figure.draw, if_neg (by simp [hg]), ih hfs]

/-- An opaque figure covers what was drawn before it, where the figures after it leave the pixel alone. -/
theorem drawAll_opaque {before after : List Figure} {g : Figure} {q : Px} (covers : g.covers q = true) (solid : g.alpha = 16)
    (clear : ∀ f ∈ after, f.covers q = false) (b : Colour) : drawAll (before ++ g :: after) q b = g.colour := by
  rw [drawAll_append, drawAll_cons, drawAll_of_clear clear, Figure.draw, if_pos covers, solid, Colour.over_sixteen]

/-! ## The picture (R158) -/

theorem cameraPixel_fits (pixels : Memory) (row col : Nat) : (cameraPixel pixels row col).Fits :=
  have sample (i : Nat) := Nat.le_of_lt_succ (Memory.read Config.blankPixel pixels i).isLt
  ⟨sample _, sample _, sample _⟩

theorem Colour.mean_fits {a b c d : Colour} (ha : a.Fits) (hb : b.Fits) (hc : c.Fits) (hd : d.Fits) : (Colour.mean a b c d).Fits := by
  have mean {w x y z : Nat} (hw : w ≤ 255) (hx : x ≤ 255) (hy : y ≤ 255) (hz : z ≤ 255) : mean4 w x y z ≤ 255 := by
    unfold mean4
    omega
  exact ⟨mean ha.y hb.y hc.y hd.y, mean ha.cb hb.cb hc.cb hd.cb, mean ha.cr hb.cr hc.cr hd.cr⟩

theorem Pane.picture_fits (p : Pane) (pixels : Memory) (q : Px) : (p.picture pixels q).Fits := by
  unfold Pane.picture
  dsimp only
  split
  · exact Colour.mean_fits (cameraPixel_fits ..) (cameraPixel_fits ..) (cameraPixel_fits ..) (cameraPixel_fits ..)
  · exact cameraPixel_fits ..

theorem State.firstStep_fits (s : State) (k : Snapshot) (out : Output) (p : Pane) (q : Px) : (s.firstStep k out p q).Fits := by
  unfold State.firstStep
  dsimp only
  split
  · exact grey_fits
  · exact grey_fits
  · exact Pane.picture_fits ..

/-! ## Valid settings: the entries the drawing uses (R117, R166) -/

section
variable {b : Body}

theorem Body.checks_pass (h : b.valid = true) {n : Nat} (low : 1 ≤ n) (high : n ≤ 8) : ∀ c ∈ sectionChecks b n, c.2 = true :=
  sectionFailure_none.mp (Body.firstFailure_none.mp (Body.valid_iff.mp h) n low high)

theorem Body.paletteAlpha_le (h : b.valid = true) {e : Nat} (he : e ≤ 15) : b.paletteAlpha e ≤ 16 := by
  have checked : (4 * e + 3, decide (b.paletteAlpha e ≤ 16)) ∈ sectionChecks b 7 := by
    have : e ∈ List.range 16 := List.mem_range.mpr (by omega)
    simp only [sectionChecks, appearanceChecks, List.mem_append, List.mem_map]
    exact .inl (.inl (.inl ⟨e, this, rfl⟩))
  exact of_decide_eq_true (Body.checks_pass h (by decide) (by decide) _ checked)

theorem Body.markerColour_le (h : b.valid = true) (cls : TrackClass) : b.markerColour cls.index ≤ 15 := by
  have checked : (193 + cls.index, decide (b.markerColour cls.index ≤ 15)) ∈ sectionChecks b 7 := by
    have : cls.index ∈ List.range 4 := by cases cls <;> decide
    simp only [sectionChecks, appearanceChecks, List.mem_append, List.mem_map]
    exact .inr ⟨cls.index, this, rfl⟩
  exact of_decide_eq_true (Body.checks_pass h (by decide) (by decide) _ checked)

theorem Body.zone_colours_le (h : b.valid = true) (z : Zone) :
    (b.zone z).colourClear ≤ 15 ∧ (b.zone z).colourCaution ≤ 15 ∧ (b.zone z).colourWarning ≤ 15 := by
  have checks : ∀ c ∈ zoneChecks b z, c.2 = true := fun c hc =>
    Body.checks_pass h (n := 4) (by decide) (by decide) c
      (List.mem_append_left _ (List.mem_flatMap.mpr ⟨z, List.mem_finRange z, hc⟩))
  simp only [zoneChecks, List.forall_mem_cons, decide_eq_true_eq] at checks
  obtain ⟨-, -, -, -, -, -, -, -, -, clear, caution, warning, -⟩ := checks
  exact ⟨clear, caution, warning⟩

theorem Body.paletteColour_fits (b : Body) (e : Nat) : (b.paletteColour e).Fits :=
  have sample (i : Nat) : b.u8 7 i ≤ 255 := Nat.le_of_lt_succ (byteAt (b.sec 7) i).isLt
  ⟨sample _, sample _, sample _⟩

theorem Body.inEntry_fits (h : b.valid = true) {e : Nat} (he : e ≤ 15) (covers : Px → Bool) : (b.inEntry e covers).Fits :=
  ⟨b.paletteColour_fits e, Body.paletteAlpha_le h he⟩

end

/-! ## The figures of a pane (R159 to R163) -/

section
variable {k : Snapshot}

/-- The objects of the snapshot are drawn in palette entries there are (R80). -/
def Snapshot.ObjectsInPalette (k : Snapshot) : Prop := ∀ (i : ObjSlot) (o : ObjRecord), k.objects[i] = some o → o.colour ≤ 15

theorem ZoneSettings.outlineEntry_mem {cfg : ZoneSettings} {r : ZoneRec} {e : Nat} (h : cfg.outlineEntry r = some e) :
    e = cfg.colourClear ∨ e = cfg.colourCaution ∨ e = cfg.colourWarning := by
  unfold ZoneSettings.outlineEntry at h
  split at h <;> simp_all

theorem Snapshot.zoneFigure_fits (valid : k.settings.valid = true) {p : Pane} {z : Zone} {g : Figure}
    (h : k.zoneFigure p z = some g) : g.Fits := by
  obtain ⟨clear, caution, warning⟩ := Body.zone_colours_le valid z
  unfold Snapshot.zoneFigure at h
  dsimp only at h
  split at h
  case h_2 => cases h
  case h_1 e _ chosen =>
    obtain rfl := Option.some.inj h
    have : e ≤ 15 := by
      obtain rfl | rfl | rfl := ZoneSettings.outlineEntry_mem chosen <;> assumption
    exact Body.inEntry_fits valid this _

theorem Snapshot.ofLayer_colour_le (objects : k.ObjectsInPalette) {n : Nat} {o : ObjRecord} (h : o ∈ k.ofLayer n) : o.colour ≤ 15 := by
  obtain ⟨entry, he, rfl⟩ := List.mem_filterMap.mp (List.mem_of_mem_filter h)
  obtain ⟨i, hi, eq⟩ := List.getElem_of_mem he
  exact objects ⟨i, by simpa using hi⟩ o (by simpa using eq)

theorem Snapshot.objectFigures_fits (valid : k.settings.valid = true) (objects : k.ObjectsInPalette) {out : Output} {p : Pane}
    {number : BitVec 32} {layers : List Nat} : ∀ g ∈ k.objectFigures out p number layers, g.Fits := by
  intro g hg
  obtain ⟨o, ho, rfl⟩ := List.mem_map.mp hg
  obtain ⟨n, -, layer⟩ := List.mem_flatMap.mp (List.mem_of_mem_filter ho)
  exact Body.inEntry_fits valid (Snapshot.ofLayer_colour_le objects layer) _

theorem Snapshot.markerFigures_fits (valid : k.settings.valid = true) {p : Pane} : ∀ g ∈ k.markerFigures p, g.Fits := by
  intro g hg
  obtain ⟨t, -, drawn⟩ := List.mem_filterMap.mp hg
  split at drawn
  · cases drawn
  · obtain ⟨q, -, rfl⟩ := Option.map_eq_some_iff.mp drawn
    exact Body.inEntry_fits valid (Body.markerColour_le valid t.cls) _

theorem borderColour_fits (c : CameraShot) : (borderColour c).Fits := by
  unfold borderColour
  split
  · exact ⟨by decide, by decide, by decide⟩
  · split
    · exact ⟨by decide, by decide, by decide⟩
    · exact ⟨by decide, by decide, by decide⟩

theorem Pane.sixth_fits (p : Pane) (c : CameraShot) : ∀ g ∈ p.sixth c, g.Fits := by
  refine List.forall_mem_cons.mpr ⟨⟨borderColour_fits c, le_rfl⟩, ?_⟩
  have opaque_white (covers : Px → Bool) : (⟨covers, white, 16⟩ : Figure).Fits := ⟨white_fits, le_rfl⟩
  have opaque_black (covers : Px → Bool) : (⟨covers, black, 16⟩ : Figure).Fits := ⟨black_fits, le_rfl⟩
  cases c.freshness with
  | fresh => simp
  | stale => simp [opaque_white, opaque_black]
  | lost => simp [opaque_white]

theorem Snapshot.figures_fits (valid : k.settings.valid = true) (objects : k.ObjectsInPalette) (out : Output) (number : BitVec 32)
    (p : Pane) : ∀ g ∈ k.figures out number p, g.Fits := by
  simp only [Snapshot.figures, List.forall_mem_append]
  refine ⟨⟨⟨⟨fun g hg => ?_, Snapshot.objectFigures_fits valid objects⟩, Snapshot.markerFigures_fits valid⟩,
    Snapshot.objectFigures_fits valid objects⟩, p.sixth_fits _⟩
  obtain ⟨z, -, hz⟩ := List.mem_filterMap.mp hg
  exact Snapshot.zoneFigure_fits valid hz

/-! ## Every output pixel -/

theorem Snapshot.stripPixel_fits (k : Snapshot) (number : BitVec 32) (q : Px) : (k.stripPixel number q).Fits := by
  unfold Snapshot.stripPixel
  dsimp only
  split
  · refine (Body.paletteColour_fits ..).over black_fits ?_
    split <;> decide
  · exact black_fits

theorem startingPixel_fits (out : Output) (q : Px) : (startingPixel out q).Fits :=
  (⟨white_fits, le_rfl⟩ : Figure.Fits _).draw q black_fits

theorem State.runningPixel_fits (s : State) (valid : k.settings.valid = true) (objects : k.ObjectsInPalette) (out : Output)
    (number : BitVec 32) (q : Px) : (s.runningPixel k out number q).Fits := by
  unfold State.runningPixel
  split
  · exact k.stripPixel_fits number q
  · split
    · exact drawAll_fits (Snapshot.figures_fits valid objects out number _) q (s.firstStep_fits ..)
    · exact black_fits

theorem State.outputPixel_fits {s : State} {out : Output} {q : Px} {f : Frame} {v : Colour} (frame : s.frame = some f)
    (body : ∀ k, f.body = .running k → k.settings.valid = true ∧ k.ObjectsInPalette) (h : s.outputPixel out q = some v) : v.Fits := by
  simp only [State.outputPixel, frame, Option.map_some, Option.some.injEq] at h
  subst h
  split
  · exact black_fits
  · split
    · exact startingPixel_fits out q
    · rename_i k running
      exact s.runningPixel_fits (body k running).1 (body k running).2 out f.number q

end

end Sys2Proof.Machine
end

section
/-! SUPPORT. What an output pixel is (R157, R167, R168, R170, R171), and which figures a pane draws (R159, R160, R162, R163). -/

namespace Sys2Proof.Machine

/-! ## The kinds of output pixel -/

section
variable {s : State} {out : Output} {q : Px} {f : Frame} {k : Snapshot}

/-- R171: the pixel is drawn black after a warm reset within the frame. -/
def Frame.Blacked (f : Frame) (out : Output) (q : Px) : Prop := ∃ n : Nat, f.blackRow out = some n ∧ (n : Int) ≤ q.row

theorem Frame.blacked_iff :
    f.Blacked out q ↔ ∃ b, f.blackFrom = some b ∧ ((match out with | .monitor => b.1 | .recorder => b.2 : Nat) : Int) ≤ q.row := by
  cases out <;> simp only [Frame.Blacked, Frame.blackRow, Option.map_eq_some_iff, exists_exists_and_eq_and]

theorem State.outputPixel_of_no_frame (h : s.frame = none) : s.outputPixel out q = none := by
  simp [State.outputPixel, h]

theorem State.outputPixel_of_blacked (frame : s.frame = some f) (h : f.Blacked out q) : s.outputPixel out q = some black := by
  obtain ⟨n, row, le⟩ := h
  simp [State.outputPixel, frame, row, le]

theorem Frame.any_blackRow (drawn : ¬ f.Blacked out q) : (f.blackRow out).any (fun n : Nat => decide ((n : Int) ≤ q.row)) = false := by
  cases row : f.blackRow out with
  | none => rfl
  | some n => exact decide_eq_false fun le => drawn ⟨n, row, le⟩

theorem State.outputPixel_of_starting {p : SupplyState} (frame : s.frame = some f) (starting : f.body = .starting p)
    (drawn : ¬ f.Blacked out q) : s.outputPixel out q = some (startingPixel out q) := by
  simp [State.outputPixel, frame, Frame.any_blackRow drawn, starting]

theorem State.outputPixel_of_running (frame : s.frame = some f) (running : f.body = .running k) (drawn : ¬ f.Blacked out q) :
    s.outputPixel out q = some (s.runningPixel k out f.number q) := by
  simp [State.outputPixel, frame, Frame.any_blackRow drawn, running]

theorem startingPixel_eq (out : Output) (q : Px) :
    startingPixel out q =
      if textCovers (glyphsOf "STARTING") 2 ⟨228, match out with | .monitor => 576 | .recorder => 336⟩ q then white else black := by
  cases out <;> simp [startingPixel, Figure.draw]

theorem State.runningPixel_of_strip (s : State) (k : Snapshot) (number : BitVec 32) (h : q.row < 32) :
    s.runningPixel k .monitor number q = k.stripPixel number q :=
  if_pos ⟨rfl, h⟩

theorem State.runningPixel_of_pane (s : State) (k : Snapshot) (number : BitVec 32) (below : out = .monitor → 32 ≤ q.row) {p : Pane}
    (holder : (k.panesOf out).find? (fun p => p.holds q) = some p) :
    s.runningPixel k out number q = s.panePixel k out number p q := by
  rw [State.runningPixel, if_neg fun ⟨monitor, strip⟩ => not_lt.mpr (below monitor) strip, holder]

theorem State.runningPixel_outside (s : State) (k : Snapshot) (number : BitVec 32) (below : out = .monitor → 32 ≤ q.row)
    (outside : ∀ p ∈ k.panesOf out, p.holds q = false) : s.runningPixel k out number q = black := by
  have unheld : (k.panesOf out).find? (fun p => p.holds q) = none :=
    List.find?_eq_none.mpr fun p hp held => Bool.false_ne_true ((outside p hp).symm.trans held)
  rw [State.runningPixel, if_neg fun ⟨monitor, strip⟩ => not_lt.mpr (below monitor) strip, unheld]

/-- Figures that leave a pixel show the picture there. -/
theorem State.panePixel_of_clear {number : BitVec 32} {p : Pane} (clear : ∀ g ∈ k.figures out number p, g.covers q = false) :
    s.panePixel k out number p q = s.firstStep k out p q :=
  drawAll_of_clear clear _

/-- Table 9-3: the border, where badge and camera text leave it. -/
theorem State.panePixel_of_border {number : BitVec 32} {p : Pane} (border : p.border q = true)
    (clear : ∀ g ∈ (p.sixth k.cameras[p.camera]).tail, g.covers q = false) :
    s.panePixel k out number p q = borderColour k.cameras[p.camera] :=
  drawAll_opaque (g := ⟨p.border, borderColour k.cameras[p.camera], 16⟩) border rfl clear _

theorem State.firstStep_of_no_picture {p : Pane}
    (h : (k.cameras[p.camera]).freshness = .lost ∨ (k.cameras[p.camera]).slotOf out = none) : s.firstStep k out p q = grey := by
  unfold State.firstStep
  obtain lost | absent := h
  · simp only [lost]
  · dsimp only
    rw [absent]
    cases (k.cameras[p.camera]).freshness <;> rfl

theorem State.firstStep_of_slot {p : Pane} {i : SlotIx} (fresh : (k.cameras[p.camera]).freshness ≠ .lost)
    (held : (k.cameras[p.camera]).slotOf out = some i) :
    s.firstStep k out p q = p.picture ((s.pict p.camera).slot i).pixels q := by
  unfold State.firstStep
  dsimp only
  rw [held]
  cases seen : (k.cameras[p.camera]).freshness with
  | lost => exact absurd seen fresh
  | fresh | stale => rfl

/-- R158, FULL: the camera pixel itself. -/
theorem Pane.picture_of_full {pixels : Memory} (p : Pane) (full : p.half = false) :
    p.picture pixels q = cameraPixel pixels (p.cy + (q.row - p.py)).toNat (p.cx + (q.col - p.px)).toNat := by
  simp [Pane.picture, full]

/-- R158, HALF: the average of four camera pixels. -/
theorem Pane.picture_of_half {pixels : Memory} (p : Pane) (half : p.half = true) :
    p.picture pixels q =
      let r := (p.cy + 2 * (q.row - p.py)).toNat
      let c := (p.cx + 2 * (q.col - p.px)).toNat
      Colour.mean (cameraPixel pixels r c) (cameraPixel pixels r (c + 1)) (cameraPixel pixels (r + 1) c)
        (cameraPixel pixels (r + 1) (c + 1)) := by
  simp [Pane.picture, half]

end

/-! ## The strip (R167, R168) -/

section
variable {k : Snapshot}

theorem ofTarget_iff {n target : Nat} {test : Fin n → Bool} :
    ofTarget target test = true ↔ ∃ i : Fin n, (target = 255 ∨ target = i.val) ∧ test i = true := by
  unfold ofTarget
  split
  case isTrue any => simp [any]
  case isFalse one => simp [one, eq_comm (a := target)]

theorem ZoneRec.occupied_iff {r : ZoneRec} : r.face.occupied = true ↔ r.state = .caution ∨ r.state = .warning ∨ r.state = .hold := by
  simp [ZoneFace.occupied, ZoneRec.face, or_assoc]

theorem ZoneRec.warns_iff {r : ZoneRec} : r.face.warns = true ↔ r.state = .warning ∨ (r.state = .hold ∧ r.held = .warning) := by
  simp [ZoneFace.warns, ZoneRec.face]

theorem Snapshot.linkIcon_iff {p : Nat} :
    ((k.linkIcon p).1 = true ↔ ∃ i : Fin 3, k.lit[i].getLsbD p = true) ∧
      ((k.linkIcon p).2 = true ↔ ∃ i : Fin 3, k.lit[i].getLsbD p = true ∧ k.blink[i].getLsbD p = true) := by
  simp [Snapshot.linkIcon, litBy]

theorem Blink.slow_on {n : BitVec 32} : Blink.slow.on n = true ↔ n.toNat % 32 < 16 := by simp [Blink.on]

theorem Blink.fast_on {n : BitVec 32} : Blink.fast.on n = true ↔ n.toNat % 8 < 4 := by simp [Blink.on]

/-- R168: the six kinds of Table 9-6. -/
theorem Snapshot.iconOn_iff {p : Nat} {a : StripAssignment} {number : BitVec 32} :
    k.iconOn p a number = true ↔
      (a.kind = 1 ∧ (∃ i : Fin 3, k.lit[i].getLsbD p = true) ∧
        ((∃ i : Fin 3, k.lit[i].getLsbD p = true ∧ k.blink[i].getLsbD p = true) → number.toNat % 32 < 16)) ∨
      (a.kind = 2 ∧ ∃ z : Zone, (a.target = 255 ∨ a.target = z.val) ∧
        (k.zones[z].state = .caution ∨ k.zones[z].state = .warning ∨ k.zones[z].state = .hold)) ∨
      (a.kind = 3 ∧ ∃ z : Zone, (a.target = 255 ∨ a.target = z.val) ∧
        (k.zones[z].state = .warning ∨ (k.zones[z].state = .hold ∧ k.zones[z].held = .warning))) ∨
      (a.kind = 4 ∧ ∃ c : Camera, (a.target = 255 ∨ a.target = c.val) ∧ k.cameras[c].freshness ≠ .fresh) ∨
      (a.kind = 5 ∧ k.supply = .crank) ∨ (a.kind = 6 ∧ k.settingsState ≠ .valid) := by
  unfold Snapshot.iconOn
  split
  case h_1 kind =>
    obtain ⟨lit, blinks⟩ := k.linkIcon_iff (p := p)
    have on : ((k.linkIcon p).1 && (!(k.linkIcon p).2 || Blink.slow.on number)) = true ↔
        (k.linkIcon p).1 = true ∧ ((k.linkIcon p).2 = true → Blink.slow.on number = true) := by
      simp [imp_iff_not_or]
    rw [on, lit, blinks, Blink.slow_on]
    simp [kind]
  case h_2 kind => simp [kind, ofTarget_iff, ZoneRec.occupied_iff]
  case h_3 kind => simp [kind, ofTarget_iff, ZoneRec.warns_iff]
  case h_4 kind => simp [kind, ofTarget_iff]
  case h_5 kind => simp [kind]
  case h_6 kind => simp [kind]
  case h_7 =>
    refine iff_of_false Bool.false_ne_true ?_
    rintro (⟨kind, -⟩ | ⟨kind, -⟩ | ⟨kind, -⟩ | ⟨kind, -⟩ | ⟨kind, -⟩ | ⟨kind, -⟩) <;> contradiction

/-- R167: the place of a pixel on the strip shows its icon, at full colour when on and at 4/16 when off. -/
theorem Snapshot.stripPixel_eq (k : Snapshot) (number : BitVec 32) {q : Px} {place : Nat} (at_ : place = (q.col / 40).toNat) :
    k.stripPixel number q =
      let a := k.settings.strip place
      let x := q.col - 40 * place
      if a.kind ≠ 0 ∧ 4 ≤ x ∧ x < 36 ∧ Config.iconPixel a.icon q.row.toNat (x - 4).toNat = true then
        if k.iconOn place a number then k.settings.paletteColour a.entry
        else (k.settings.paletteColour a.entry).over 4 black
      else black := by
  subst at_
  have bounds (p : Nat) : (40 * (p : Int) + 4 ≤ q.col ↔ 4 ≤ q.col - 40 * p) ∧ (q.col < 40 * (p : Int) + 36 ↔ q.col - 40 * p < 36) := by
    omega
  simp only [Snapshot.stripPixel, (bounds _).1, (bounds _).2]
  refine if_congr Iff.rfl ?_ rfl
  split
  · rw [Colour.over_sixteen]
  · rfl

end

/-! ## The figures of a pane -/

section
variable (k : Snapshot)

/-- R159: a zone that is enabled and not IDLE is outlined in the entry of its state, or of its held level in HOLD. -/
theorem Snapshot.zoneFigure_eq (p : Pane) (z : Zone) :
    k.zoneFigure p z =
      let cfg := k.settings.zone z
      let r := k.zones[z]
      if cfg.enabled = true ∧ r.state ≠ .idle then
        some (k.settings.inEntry
          (if r.state = .clear then cfg.colourClear
           else if r.state = .warning ∨ (r.state = .hold ∧ r.held = .warning) then cfg.colourWarning else cfg.colourCaution)
          (linesCover (if p.half then 1 else 2)
            (p.mapLines ((k.settings.calibration p.camera).outline ⟨cfg.xMin, cfg.yMin⟩ ⟨cfg.xMax, cfg.yMax⟩))))
      else none := by
  unfold Snapshot.zoneFigure ZoneSettings.outlineEntry
  dsimp only
  cases (k.settings.zone z).enabled with
  | false => simp
  | true =>
    cases k.zones[z].state with
    | idle | clear | caution | warning => simp
    | hold => cases k.zones[z].held <;> simp

/-- R82, R160: the objects of a layer that are shown, layer by layer. -/
theorem Snapshot.objectFigures_eq (out : Output) (p : Pane) (number : BitVec 32) (layers : List Nat) :
    k.objectFigures out p number layers =
      (layers.flatMap fun n => (k.objects.toList.filterMap id).filter fun o =>
        decide (o.layer = n ∧ (o.showConds = 0 ∨ k.conds.bits &&& o.showConds ≠ 0)) && o.outputs.getLsbD out.bit &&
          o.cameras.getLsbD p.camera.val && o.blink.on number).map fun o =>
        k.settings.inEntry o.colour (o.shape.covers o.anchor (k.settings.calibration p.camera) p) := by
  have shown (n : Nat) (o : ObjRecord) : (o.shownIn out p.camera k.conds number && o.layer == n) =
      (decide (o.layer = n ∧ (o.showConds = 0 ∨ k.conds.bits &&& o.showConds ≠ 0)) && o.outputs.getLsbD out.bit &&
        o.cameras.getLsbD p.camera.val && o.blink.on number) := by
    rw [Bool.eq_iff_iff]
    simp only [ObjRecord.shownIn, Conditions.some, Bool.and_eq_true, Bool.or_eq_true, beq_iff_eq, bne_iff_ne, decide_eq_true_eq]
    tauto
  simp only [Snapshot.objectFigures, Snapshot.ofLayer, List.filter_flatMap, List.filter_filter, shown]

theorem rectCovers_eq {row col h w : Int} (high : 1 ≤ h) (wide : 1 ≤ w) :
    rectCovers ⟨row, col⟩ ⟨row + h - 1, col + w - 1⟩ = fun q =>
      decide (row ≤ q.row ∧ q.row < row + h ∧ col ≤ q.col ∧ q.col < col + w) := by
  funext q
  rw [Bool.eq_iff_iff]
  simp only [rectCovers, Bool.and_eq_true, decide_eq_true_eq]
  omega

/-- R75, R162: a track that counts and that the camera sees has its marker. -/
theorem Snapshot.markerFigures_eq (p : Pane) :
    k.markerFigures p = (k.tracks.toList.filterMap id).filterMap fun t =>
      match (k.settings.calibration p.camera).see ⟨t.x, t.y⟩ with
      | some q =>
        if k.settings.countFloor ≤ t.confidence then
          some (k.settings.inEntry (k.settings.markerColour t.cls.index) (markerCovers p.half t.cls (p.map q)))
        else none
      | none => none := by
  refine List.filterMap_congr fun t _ => ?_
  cases (k.settings.calibration p.camera).see ⟨t.x, t.y⟩ with
  | none => simp only [Option.map_none, ite_self]
  | some q => simp only [Option.map_some, ← not_lt, ite_not]

/-- Table 9-3: a FRESH camera has neither badge nor text. -/
theorem Pane.sixth_tail_of_fresh (p : Pane) {c : CameraShot} (fresh : c.freshness = .fresh) : (p.sixth c).tail = [] := by
  rw [Pane.sixth, List.tail_cons, fresh]

/-- Table 9-3: the camera text of a LOST camera. -/
theorem Pane.sixth_tail_of_lost (p : Pane) {c : CameraShot} (lost : c.freshness = .lost) :
    (p.sixth c).tail =
      [⟨textCovers (glyphsOf ("NO CAMERA " ++ toString p.camera.val)) 1 ⟨p.py + (p.h - 12) / 2, p.px + (p.w - 88) / 2⟩, white, 16⟩] := by
  rw [Pane.sixth, List.tail_cons, lost]

/-- Table 9-3: the badge of a STALE camera, 16 rows by 36 columns, and its text. -/
theorem Pane.sixth_tail_of_stale (p : Pane) {c : CameraShot} (stale : c.freshness = .stale) :
    (p.sixth c).tail =
      [⟨fun q => decide (p.py + 4 ≤ q.row ∧ q.row < p.py + 4 + 16 ∧ p.px + 4 ≤ q.col ∧ q.col < p.px + 4 + 36), black, 16⟩,
       ⟨textCovers (glyphsOf "HELD") 1 ⟨p.py + 6, p.px + 6⟩, white, 16⟩] := by
  have badge := rectCovers_eq (row := p.py + 4) (col := p.px + 4) (h := 16) (w := 36) (by decide) (by decide)
  rw [show p.py + 4 + 16 - 1 = p.py + 19 by omega, show p.px + 4 + 36 - 1 = p.px + 39 by omega] at badge
  rw [Pane.sixth, List.tail_cons, stale, ← badge]

theorem Pane.border_iff {p : Pane} {q : Px} : p.border q = true ↔ p.holds q = true ∧
    (q.row < p.py + 2 ∨ p.py + p.h - 2 ≤ q.row ∨ q.col < p.px + 2 ∨ p.px + p.w - 2 ≤ q.col) := by
  simp only [Pane.border, Bool.and_eq_true, Bool.not_eq_true', Bool.and_eq_false_iff, decide_eq_false_iff_not, not_le, not_lt, or_assoc]

/-- R75, R162: the outline of the marker's rectangle, counted from its top left pixel, and the letter above it. -/
theorem markerCovers_iff {half : Bool} {cls : TrackClass} {a q : Px} :
    let w : Int := if half then 12 else 24
    let h : Int := if half then 16 else 32
    let n : Int := if half then 1 else 2
    let i := q.row - (a.row - (h - 1))
    let j := q.col - (a.col - w / 2)
    markerCovers half cls a q = true ↔
      (0 ≤ i ∧ i < h ∧ 0 ≤ j ∧ j < w ∧ (i < n ∨ h - n ≤ i ∨ j < n ∨ w - n ≤ j)) ∨
        textCovers (glyphsOf cls.letter) 1 ⟨a.row - (h - 1) - 13, a.col - 4⟩ q = true := by
  dsimp only
  simp only [markerCovers, Bool.or_eq_true]
  refine or_congr_left ?_
  simp only [Bool.and_eq_true, Bool.not_eq_true', Bool.and_eq_false_iff, decide_eq_true_eq, decide_eq_false_iff_not]
  cases half
  · simp only [Bool.false_eq_true, if_false]
    omega
  · simp only [if_true]
    omega

end

end Sys2Proof.Machine
end

section
/-! SUPPORT. The bytes of a frame's tag (Table 12-4) and of the tag line (R169, R202). -/

namespace Sys2Proof.Machine

/-! ## Reading bytes of a list -/

theorem byteAt_append_left {as bs : List Byte} {i : Nat} (h : i < as.length) : byteAt (as ++ bs) i = byteAt as i :=
  List.getD_append _ _ _ _ h

theorem byteAt_append_right {as bs : List Byte} {n : Nat} (len : as.length = n) (i : Nat) :
    byteAt (as ++ bs) (n + i) = byteAt bs i := by
  rw [← len, byteAt, List.getD_append_right _ _ _ _ (by omega), Nat.add_sub_cancel_left, byteAt]

/-- Records of n bytes each, one after the other. -/
theorem byteAt_flatMap {α : Type} {g : α → List Byte} {n : Nat} (len : ∀ a, (g a).length = n) {as : List α} {i j : Nat}
    (hi : i < as.length) (hj : j < n) : byteAt (as.flatMap g) (n * i + j) = byteAt (g as[i]) j := by
  induction as generalizing i with
  | nil => cases hi
  | cons a as ih =>
    rw [List.flatMap_cons]
    cases i with
    | zero =>
      rw [Nat.mul_zero, Nat.zero_add]
      exact byteAt_append_left (by rw [len]; exact hj)
    | succ i =>
      rw [show n * (i + 1) + j = n + (n * i + j) by ring, byteAt_append_right (len a)]
      exact ih (by simpa using hi)

theorem length_flatMap_records {α : Type} {g : α → List Byte} {n : Nat} (len : ∀ a, (g a).length = n) (as : List α) :
    (as.flatMap g).length = n * as.length := by
  simp [List.length_flatMap, len, Nat.mul_comm]

theorem byte_append_byte {n : Nat} (w : BitVec n) : w.extractLsb' 8 8 ++ w.extractLsb' 0 8 = w.extractLsb' 0 16 :=
  BitVec.extractLsb'_append_extractLsb'_eq_extractLsb' rfl

/-- Four bytes, most significant first, are the word they are of. -/
theorem be32_joined (w : BitVec 32) : (w.extractLsb' 24 8 ++ w.extractLsb' 16 8) ++ (w.extractLsb' 8 8 ++ w.extractLsb' 0 8) = w := by
  have high : w.extractLsb' 24 8 ++ w.extractLsb' 16 8 = w.extractLsb' 16 16 :=
    BitVec.extractLsb'_append_extractLsb'_eq_extractLsb' rfl
  have whole : w.extractLsb' 16 16 ++ w.extractLsb' 0 16 = w.extractLsb' 0 32 :=
    BitVec.extractLsb'_append_extractLsb'_eq_extractLsb' rfl
  rw [high, byte_append_byte, whole, BitVec.extractLsb'_eq_self]

theorem crc16Bytes_joined (bs : List Byte) : w16At (crc16Bytes bs) 0 = crc16 bs := by
  change (crc16 bs).extractLsb' 8 8 ++ (crc16 bs).extractLsb' 0 8 = crc16 bs
  rw [byte_append_byte, BitVec.extractLsb'_eq_self]

/-- Two bytes of a number of 0 or more give it modulo 65536. -/
theorem be16_toNat (n : Nat) : u16At (be16 n) 0 = n % 65536 := by
  change ((BitVec.ofInt 16 n).extractLsb' 8 8 ++ (BitVec.ofInt 16 n).extractLsb' 0 8).toNat = n % 65536
  rw [byte_append_byte, BitVec.extractLsb'_eq_self, BitVec.toNat_ofInt]
  omega

theorem byte_toNat (n : Nat) : (byte n).toNat = n % 256 := BitVec.toNat_ofNat n 8

theorem byte_toNat_of_lt {n : Nat} (h : n < 256) : (byte n).toNat = n := (byte_toNat n).trans (Nat.mod_eq_of_lt h)

/-! ## The tag of a running body -/

section
variable (k : Snapshot)

theorem CameraShot.tag_length (c : CameraShot) : c.tag.length = 2 := rfl

theorem ZoneRec.tag_length (r : ZoneRec) : r.tag.length = 3 := rfl

/-- The four bytes after the cameras and zones (Table 12-4). -/
def Snapshot.tagTail (k : Snapshot) : List Byte :=
  [byte k.chime.code, byte k.shownView, byte k.supply.code, byte k.settingsState.code]

theorem Snapshot.tag_eq : (FrameBody.running k).tag =
    k.cameras.toList.flatMap CameraShot.tag ++ (k.zones.toList.flatMap ZoneRec.tag ++ k.tagTail) :=
  List.append_assoc ..

theorem Snapshot.cameraTags_length : (k.cameras.toList.flatMap CameraShot.tag).length = 8 := by
  rw [length_flatMap_records CameraShot.tag_length, Vector.length_toList]

theorem Snapshot.zoneTags_length : (k.zones.toList.flatMap ZoneRec.tag).length = 24 := by
  rw [length_flatMap_records ZoneRec.tag_length, Vector.length_toList]

theorem Snapshot.byteAt_camera (c : Camera) {j : Nat} (hj : j < 2) :
    byteAt (FrameBody.running k).tag (2 * c.val + j) = byteAt (k.cameras[c]).tag j := by
  have cameras := k.cameraTags_length
  rw [k.tag_eq, byteAt_append_left (by omega), byteAt_flatMap CameraShot.tag_length (by simp) hj, Vector.getElem_toList]
  rfl

theorem Snapshot.byteAt_zone (z : Zone) {j : Nat} (hj : j < 3) :
    byteAt (FrameBody.running k).tag (8 + (3 * z.val + j)) = byteAt (k.zones[z]).tag j := by
  have zones := k.zoneTags_length
  rw [k.tag_eq, byteAt_append_right k.cameraTags_length, byteAt_append_left (by omega),
    byteAt_flatMap ZoneRec.tag_length (by simp) hj, Vector.getElem_toList]
  rfl

theorem Snapshot.byteAt_tail (j : Nat) : byteAt (FrameBody.running k).tag (32 + j) = byteAt k.tagTail j := by
  rw [k.tag_eq, show 32 + j = 8 + (24 + j) by omega, byteAt_append_right k.cameraTags_length, byteAt_append_right k.zoneTags_length]

theorem FrameBody.tag_length (b : FrameBody) : b.tag.length = 36 := by
  cases b with
  | starting p => rfl
  | running k => rw [k.tag_eq, List.length_append, List.length_append, k.cameraTags_length, k.zoneTags_length]; rfl

end

/-! ## The tag of a frame -/

section
variable (f : Frame)

/-- The 45 bytes that the CRC-16 of a tag covers. -/
def Frame.tagFront (f : Frame) : List Byte := f.body.phaseByte :: be32 f.number ++ be32 f.millis ++ f.body.tag

theorem Frame.tag_eq : f.tag = f.tagFront ++ crc16Bytes f.tagFront := rfl

theorem Frame.tagFront_length : f.tagFront.length = 45 := by
  rw [Frame.tagFront, List.length_append, f.body.tag_length]
  rfl

theorem Frame.tag_length : f.tag.length = 47 := by
  rw [f.tag_eq, List.length_append, f.tagFront_length]
  rfl

theorem Frame.byteAt_phase : byteAt f.tag 0 = f.body.phaseByte := rfl

theorem Frame.w32At_number : w32At f.tag 1 = f.number := be32_joined f.number

theorem Frame.w32At_millis : w32At f.tag 5 = f.millis := be32_joined f.millis

theorem Frame.byteAt_body {i : Nat} (hi : i < 36) : byteAt f.tag (9 + i) = byteAt f.body.tag i := by
  have front := f.tagFront_length
  have len : (f.body.phaseByte :: be32 f.number ++ be32 f.millis).length = 9 := rfl
  rw [f.tag_eq, byteAt_append_left (by omega), Frame.tagFront, byteAt_append_right len]

theorem Frame.w16At_crc : w16At f.tag 45 = crc16 (f.tag.take 45) := by
  have last (j : Nat) : byteAt f.tag (45 + j) = byteAt (crc16Bytes f.tagFront) j := by
    rw [f.tag_eq, byteAt_append_right f.tagFront_length]
  have front : f.tag.take 45 = f.tagFront := by rw [f.tag_eq, List.take_left' f.tagFront_length]
  rw [front, ← crc16Bytes_joined, w16At, w16At, last 0, last 1]

/-- R202: the tag line carries the tag, then Y 16. -/
theorem Frame.u8At_tagLine {i : Nat} (hi : i < 800) : u8At f.tagLine i = if i < 47 then u8At f.tag i else 16 := by
  have len := f.tag_length
  split
  case isTrue tagged => rw [u8At, Frame.tagLine, byteAt_append_left (by omega), u8At]
  case isFalse filled =>
    obtain ⟨j, rfl⟩ := Nat.exists_eq_add_of_le (not_lt.mp filled)
    have fill : byteAt (List.replicate (800 - 47) 16) j = 16 := List.getD_replicate _ (by omega)
    rw [u8At, Frame.tagLine, len, byteAt_append_right len, fill]
    rfl

/-! ## Its bytes in a RUNNING and in a STARTING frame -/

/-- Table 12-4 in a RUNNING frame. -/
theorem Frame.tag_of_running {k : Snapshot} (body : f.body = .running k) :
    u8At f.tag 0 = 1 ∧
    (∀ c : Camera, u8At f.tag (9 + 2 * c.val) = k.cameras[c].freshness.code + 4 * k.cameras[c].lock.code ∧
      u8At f.tag (10 + 2 * c.val) = k.cameras[c].age % 256) ∧
    (∀ z : Zone, u8At f.tag (17 + 3 * z.val) = k.zones[z].state.code + (if k.zones[z].acked then 128 else 0) ∧
      u16At f.tag (18 + 3 * z.val) = k.zones[z].dwell % 65536) ∧
    u8At f.tag 41 = k.chime.code ∧ u8At f.tag 42 = k.shownView % 256 ∧ u8At f.tag 43 = k.supply.code ∧
    u8At f.tag 44 = k.settingsState.code := by
  have camera (c : Camera) (j : Nat) (hj : j < 2) : byteAt f.tag (9 + (2 * c.val + j)) = byteAt (k.cameras[c]).tag j := by
    rw [f.byteAt_body (by omega), body, k.byteAt_camera c hj]
  have zone (z : Zone) (j : Nat) (hj : j < 3) : byteAt f.tag (9 + (8 + (3 * z.val + j))) = byteAt (k.zones[z]).tag j := by
    rw [f.byteAt_body (by omega), body, k.byteAt_zone z hj]
  have tail (j : Nat) (hj : j < 4) : byteAt f.tag (9 + (32 + j)) = byteAt k.tagTail j := by
    rw [f.byteAt_body (by omega), body, k.byteAt_tail]
  refine ⟨?_, fun c => ⟨?_, ?_⟩, fun z => ⟨?_, ?_⟩, ?_, ?_, ?_, ?_⟩
  · rw [u8At, f.byteAt_phase, body]
    rfl
  · rw [u8At, show 9 + 2 * c.val = 9 + (2 * c.val + 0) by omega, camera c 0 (by decide)]
    refine byte_toNat_of_lt ?_
    cases (k.cameras[c]).freshness <;> cases (k.cameras[c]).lock <;> decide
  · rw [u8At, show 10 + 2 * c.val = 9 + (2 * c.val + 1) by omega, camera c 1 (by decide)]
    exact byte_toNat _
  · rw [u8At, show 17 + 3 * z.val = 9 + (8 + (3 * z.val + 0)) by omega, zone z 0 (by decide)]
    refine byte_toNat_of_lt ?_
    cases (k.zones[z]).state <;> cases (k.zones[z]).acked <;> decide
  · rw [u16At, w16At, show 18 + 3 * z.val = 9 + (8 + (3 * z.val + 1)) by omega, zone z 1 (by decide)]
    rw [show 9 + (8 + (3 * z.val + 1)) + 1 = 9 + (8 + (3 * z.val + 2)) by omega, zone z 2 (by decide)]
    exact be16_toNat _
  · rw [u8At, tail 0 (by decide)]
    exact byte_toNat_of_lt (by cases k.chime <;> decide)
  · rw [u8At, tail 1 (by decide)]
    exact byte_toNat _
  · rw [u8At, tail 2 (by decide)]
    exact byte_toNat_of_lt (by cases k.supply <;> decide)
  · rw [u8At, tail 3 (by decide)]
    exact byte_toNat_of_lt (by cases k.settingsState <;> decide)

/-- Every byte of a STARTING body: the cameras LOST with age 255, then 0, the supply state and DEFAULTED (R169). -/
theorem FrameBody.u8At_starting (p : SupplyState) (i : Fin 36) :
    u8At (FrameBody.starting p).tag i =
      if i.val < 8 then (if i.val % 2 = 0 then 2 else 255) else if i.val = 34 then p.code else if i.val = 35 then 1 else 0 := by
  cases p <;> revert i <;> decide

/-- Table 12-4 in a STARTING frame (R169). -/
theorem Frame.tag_of_starting {p : SupplyState} (body : f.body = .starting p) :
    u8At f.tag 0 = 0 ∧ (∀ c : Camera, u8At f.tag (9 + 2 * c.val) = 2 ∧ u8At f.tag (10 + 2 * c.val) = 255) ∧
    (∀ i, 17 ≤ i → i ≤ 42 → u8At f.tag i = 0) ∧ u8At f.tag 43 = p.code ∧ u8At f.tag 44 = 1 := by
  have read (i : Nat) (low : 9 ≤ i) (high : i < 45) : u8At f.tag i =
      if i < 17 then (if i % 2 = 1 then 2 else 255) else if i = 43 then p.code else if i = 44 then 1 else 0 := by
    obtain ⟨j, rfl⟩ := Nat.exists_eq_add_of_le low
    have hj : j < 36 := by omega
    rw [u8At, f.byteAt_body hj, body]
    refine (FrameBody.u8At_starting p ⟨j, hj⟩).trans ?_
    dsimp only
    split_ifs <;> omega
  refine ⟨by rw [u8At, f.byteAt_phase, body]; rfl, fun c => ⟨?_, ?_⟩, fun i low high => ?_, ?_, ?_⟩
  · rw [read _ (by omega) (by omega), if_pos (by omega), if_pos (by omega)]
  · rw [read _ (by omega) (by omega), if_pos (by omega), if_neg (by omega)]
  · rw [read i (by omega) (by omega), if_neg (by omega), if_neg (by omega), if_neg (by omega)]
  · exact read 43 (by decide) (by decide)
  · exact read 44 (by decide) (by decide)

end

end Sys2Proof.Machine
end

section
/-! Projection, the figures and blends of a pane, the strip, the packing into samples, and the frame tag (R62, R65 to R68, R82, R156 to
R171, R202): O60. -/

namespace Sys2Proof.Machine

/-- Settles O60, part by part: the ladder and its interpolation (R66 to R68), the blend (R164), the range of every sample, the kinds of
output pixel, the figures of a pane in their order, the marker, the blinks, the strip, the packing (R165) and the tag (R169, R202). -/
theorem projectionStaysInThePicture : Obligations.ProjectionStaysInThePicture := by
  unfold Obligations.ProjectionStaysInThePicture
  refine ⟨fun k ok => ⟨fun d => Calibration.locate_eq_none_iff, fun d i f located => ?_, fun p q seen => ?_⟩,
    fun alpha o b lo hi le lo_o lo_b o_hi b_hi => ?_, fun s out q f v frame body drawn => ?_, fun s out q => ?_,
    fun k out number p => ?_, fun half cls a q => markerCovers_iff, fun n => ⟨rfl, Blink.slow_on, Blink.fast_on⟩, ?_,
    fun fs g q b => drawAll_append fs [g] q b, fun s out row j a b even odd => ?_, fun f => ?_⟩
  -- The ladder (R66, R67).
  · obtain ⟨le, below, -, above, -⟩ := Calibration.locate_eq_some located
    obtain ⟨f0, f256, last, first⟩ := ok.fraction located
    exact ⟨le, below, above, f0, f256, last, first, ok.lerp located ok.row, ok.lerp located ok.centre, ok.lerp located ok.scale⟩
  -- A point that is seen (R68).
  · obtain ⟨calibrated, ⟨left, right⟩, ⟨i, f⟩, located, row⟩ := Calibration.see_eq_some seen
    obtain ⟨top, bottom⟩ := ok.lerp located ok.row
    exact ⟨calibrated, row ▸ top, row ▸ bottom, left, right⟩
  -- One blend (R164), and the range of what is drawn.
  · obtain ⟨low, high⟩ := blend_between le ⟨lo_o, o_hi⟩ ⟨lo_b, b_hi⟩
    exact ⟨low, high, blend_zero o b, blend_sixteen o b, rfl⟩
  · obtain ⟨y, cb, cr⟩ := State.outputPixel_fits frame body drawn
    exact ⟨y, cb, cr⟩
  -- The kinds of output pixel (R157, R158, R163, R170, R171).
  · refine ⟨State.outputPixel_of_no_frame, fun f frame =>
      ⟨fun blacked => State.outputPixel_of_blacked frame (Frame.blacked_iff.mpr blacked), fun unblacked => ?_⟩⟩
    have drawn : ¬ f.Blacked out q := fun blacked => unblacked (Frame.blacked_iff.mp blacked)
    refine ⟨fun p starting => ?_, fun k running below => ?_⟩
    · exact (State.outputPixel_of_starting frame starting drawn).trans (congrArg some (startingPixel_eq out q))
    · have pixel := State.outputPixel_of_running frame running drawn
      refine ⟨fun outside => pixel.trans (congrArg some (s.runningPixel_outside k f.number below outside)), fun p holder => ?_⟩
      have pane := pixel.trans (congrArg some (s.runningPixel_of_pane k f.number below holder))
      refine ⟨pane, fun clear absent => ?_, fun slot clear fresh held => ?_, fun border clear => ?_⟩
      · exact pane.trans (congrArg some ((State.panePixel_of_clear clear).trans (State.firstStep_of_no_picture absent)))
      · have picture := pane.trans (congrArg some ((State.panePixel_of_clear clear).trans (State.firstStep_of_slot fresh held)))
        exact ⟨fun full => picture.trans (congrArg some (p.picture_of_full full)),
          fun half => picture.trans (congrArg some (p.picture_of_half half))⟩
      · exact pane.trans (congrArg some (State.panePixel_of_border border clear))
  -- The figures of a pane, in their order (R159 to R163).
  · refine ⟨?_, fun q => Pane.border_iff, p.sixth_tail_of_fresh, p.sixth_tail_of_stale, p.sixth_tail_of_lost⟩
    have zones := List.filterMap_congr (l := List.finRange 8) fun z _ => k.zoneFigure_eq p z
    rw [Snapshot.figures, zones, k.objectFigures_eq, k.objectFigures_eq, k.markerFigures_eq]
    rfl
  -- The strip (R167, R168).
  · intro s q f k frame running undrawn top bottom left right at_ x a drawn Named lit blinks on mix colour
    have unblacked : ¬ f.Blacked .monitor q := fun blacked => by
      obtain ⟨b, from_, le⟩ := Frame.blacked_iff.mp blacked
      exact absurd (undrawn b from_) (not_lt.mpr le)
    have pixel := State.outputPixel_of_running frame running unblacked
    rw [s.runningPixel_of_strip k f.number bottom, k.stripPixel_eq f.number (place := at_) rfl] at pixel
    have icon : k.iconOn at_ a f.number = true ↔ on := Snapshot.iconOn_iff
    refine ⟨fun blank => pixel.trans (congrArg some (if_neg blank)), fun shown lit => ?_, fun shown faint => ?_⟩
    · exact pixel.trans (congrArg some ((if_pos shown).trans (if_pos (icon.mpr lit))))
    · exact pixel.trans (congrArg some ((if_pos shown).trans (if_neg (faint ∘ icon.mp))))
  -- The packing (R165).
  · rw [State.outputPair, even, odd]
    rfl
  -- The frame tag (R169, R202).
  · refine ⟨f.tag_length, f.w32At_number, f.w32At_millis, f.w16At_crc, fun k => f.tag_of_running, fun p => f.tag_of_starting,
      fun j hj => ?_⟩
    rw [Frame.tagLinePair, f.u8At_tagLine (by omega), f.u8At_tagLine (by omega)]

end Sys2Proof.Machine
end

section
/-! SUPPORT. The overlay object table (5.1): the slot a handle reaches, and what each operation on the table leaves in a slot. -/

namespace Sys2Proof.Machine

/-! ## Handles and maps (R78) -/

/-- R78: a handle reaches slots of a sector that the link's map names. -/
theorem Body.resolve_maps {b : Body} {l : Link} {handle : Nat} {i : ObjSlot} (h : b.resolve l handle = some i)
    (le : handle ≤ 31) : b.maps l (sectorOf i) = true := by
  unfold Body.resolve at h
  split at h
  · rename_i sector entry
    have bound : sector < 6 := by
      unfold Body.sectorEntry at entry
      dsimp only at entry
      split at entry
      · exact Option.some.inj entry ▸ ‹_›
      · cases entry
    have reached : sectorOf i = sector := by
      rw [← Option.some.inj h, sectorOf, Fin.val_ofNat]
      omega
    have half : handle / 16 = 0 ∨ handle / 16 = 1 := by omega
    rw [reached, Body.maps]
    rcases half with half | half <;> rw [half] at entry <;> simp [entry]
  · cases h

/-- R84 check 1 on the handle and check 2. -/
theorem State.reach_eq_ok {s : State} {l : Link} {handle : Nat} {i : ObjSlot} :
    s.reach l handle = .ok i ↔ handle ≤ 31 ∧ s.body.resolve l handle = some i := by
  unfold State.reach
  split
  · simp; omega
  · have le : handle ≤ 31 := by omega
    split <;> simp_all

/-- R84 checks 1 to 3 of a request on an owned slot. -/
theorem State.reachOwned_eq_ok {s : State} {l : Link} {handle : Nat} {i : ObjSlot} {o : ObjRecord} :
    s.reachOwned l handle = .ok (i, o) ↔
      handle ≤ 31 ∧ s.body.resolve l handle = some i ∧ s.slot i = some o ∧ o.owner = l := by
  rw [← and_assoc, ← State.reach_eq_ok]
  unfold State.reachOwned
  split
  · rename_i e; simp [e]
  · rename_i j e
    simp only [e, Except.ok.injEq]
    constructor
    · intro h
      split at h
      · split at h
        · obtain ⟨rfl, rfl⟩ := Prod.mk.inj (Except.ok.inj h)
          exact ⟨rfl, ‹_›, ‹_›⟩
        · cases h
      · cases h
    · rintro ⟨rfl, slot, owner⟩
      simp [slot, owner]

/-! ## The slots after an operation -/

theorem ownedBy_iff {l : Link} {x : Option ObjRecord} : ownedBy l x = true ↔ ∃ o, x = some o ∧ o.owner = l := by
  cases x <;> simp [ownedBy]

theorem ObjectTable.purgeSlots_slot (t : ObjectTable) (l : Link) (i : ObjSlot) :
    (t.purgeSlots l).slots[i] = if ownedBy l t.slots[i] then none else t.slots[i] := by
  simp [ObjectTable.purgeSlots]

@[simp] theorem ObjectTable.purgeSlots_keeps (t : ObjectTable) (l : Link) :
    (t.purgeSlots l).lit = t.lit ∧ (t.purgeSlots l).blink = t.blink := ⟨rfl, rfl⟩

theorem ObjectTable.markAll_slot (t : ObjectTable) (i : ObjSlot) :
    t.markAll.slots[i] = (t.slots[i]).map fun o => { o with marked := true } := by
  simp [ObjectTable.markAll]

/-- R99: a commit empties the slots that the maps in force drop. -/
theorem State.commitTable_slot (s : State) (i : ObjSlot) :
    s.commitTable.slot i = if s.body.drops i (s.slot i) then none else s.slot i := by
  refine (State.foldl_fixes _ (fun u : State => u.slot i) (fun u l => ?_) _ _).trans ?_
  · split <;> rfl
  · simp only [State.slot, Fin.getElem_fin, Vector.getElem_mapFinIdx]
    rfl

/-- R94: the slot that is counted takes its count-down, the others stay. -/
theorem State.endSlot_slot (s : State) (i j : ObjSlot) :
    (s.endSlot i).slot j = if j = i then countDown (s.slot j) else s.slot j := by
  have noted : (s.endSlot i).slot j = (s.setSlot i (countDown (s.slot i))).slot j := by
    unfold State.endSlot State.noteExpiry
    dsimp only
    repeat' split
    all_goals rfl
  rw [noted]
  by_cases h : j = i
  · subst h; simp
  · rw [if_neg h, State.slot_setSlot_of_ne _ _ _ _ h]

/-- R94: each slot of a list without repetition counts down once. -/
theorem State.foldl_endSlot_slot (q : List ObjSlot) (once : q.Nodup) (s : State) (j : ObjSlot) :
    (q.foldl State.endSlot s).slot j = if j ∈ q then countDown (s.slot j) else s.slot j := by
  induction q generalizing s with
  | nil => simp
  | cons i q ih =>
    obtain ⟨hi, hq⟩ := List.nodup_cons.mp once
    rw [List.foldl_cons, ih hq, State.endSlot_slot]
    by_cases h : j = i
    · subst h; simp [hi]
    · simp [h]

theorem State.countDownTable_slot (s : State) (i : ObjSlot) : s.countDownTable.slot i = countDown (s.slot i) := by
  simp [State.countDownTable, State.foldl_endSlot_slot _ (List.nodup_finRange 96)]

/-- R94 by cases: the marked objects with a lifetime count down, and the last count empties the slot. -/
theorem countDown_some (o : ObjRecord) :
    countDown (some o) =
      if o.marked = true ∧ o.lifetime = 1 then none
      else if o.marked = true ∧ 1 < o.lifetime then some { o with lifetime := o.lifetime - 1 }
      else some o := by
  have expires_iff : expires (some o) = true ↔ o.marked = true ∧ o.lifetime = 1 := by
    simp [expires, ObjRecord.counts]; omega
  have counts_iff : o.counts = true ↔ o.marked = true ∧ o.lifetime ≠ 0 := by simp [ObjRecord.counts]
  unfold countDown
  simp only [expires_iff, Option.map_some]
  split
  · rfl
  · rename_i live
    by_cases counted : o.marked = true ∧ 1 < o.lifetime
    · rw [if_pos counted, if_pos (counts_iff.mpr ⟨counted.1, by omega⟩)]
    · rw [if_neg counted, if_neg fun e => ?_]
      obtain ⟨marked, nonzero⟩ := counts_iff.mp e
      exact live ⟨marked, by by_contra; exact counted ⟨marked, by omega⟩⟩

theorem countDown_owner {x : Option ObjRecord} {o : ObjRecord} (h : countDown x = some o) :
    ∃ k, x = some k ∧ o.owner = k.owner := by
  cases x with
  | none => cases h
  | some k =>
    refine ⟨k, rfl, ?_⟩
    rw [countDown_some] at h
    split at h
    · cases h
    · split at h <;> exact Option.some.inj h ▸ rfl

end Sys2Proof.Machine
end

section
/-! SUPPORT. Which operations leave the object slots and the working copy as they are: all but the object requests', the frames', the
purges', the commit's and the resets'. -/

namespace Sys2Proof.Machine

/-! ## The part of the state that R78 speaks of -/

/-- The object slots and the working copy. -/
def State.overlay (s : State) : Vector (Option ObjRecord) 96 × Body := (s.table.slots, s.body)

theorem State.overlay_of_besideZones {s t : State} (h : t.besideZones = s.besideZones) : t.overlay = s.overlay :=
  (congrArg State.overlay h :)

theorem State.overlay_of_besideCameras {s t : State} (h : t.besideCameras = s.besideCameras) : t.overlay = s.overlay :=
  (congrArg State.overlay h :)

theorem State.overlay_of_besideViews {s t : State} (h : t.besideViews = s.besideViews) : t.overlay = s.overlay :=
  (congrArg State.overlay h :)

theorem State.overlay_of_besideLinks {s t : State} (h : t.besideLinks = s.besideLinks) : t.overlay = s.overlay :=
  (congrArg State.overlay h :)

/-! ## Through the blocks -/

/-- The updates of one part of the state. -/
@[simp] theorem State.overlay_updates (s : State) :
    (∀ l x, (s.setCtl l x).overlay = s.overlay) ∧ (∀ l f, (s.onCtl l f).overlay = s.overlay) ∧
    (∀ l r a, (s.reply l r a).overlay = s.overlay) ∧ (∀ l, (s.setFraming l).overlay = s.overlay) ∧
    (∀ l, (s.setPurged l).overlay = s.overlay) ∧ (∀ l, (s.clearFlags l).overlay = s.overlay) ∧
    (∀ f, (s.mapLinks f).overlay = s.overlay) ∧ (∀ k n f, (s.raise k n f).overlay = s.overlay) ∧
    s.settle.overlay = s.overlay ∧ (∀ u, (s.setSupply u).overlay = s.overlay) ∧
    (∀ b, (s.setService b).overlay = s.overlay) ∧ (∀ n o bs, (s.writeStaging n o bs).overlay = s.overlay) ∧
    s.endService.overlay = s.overlay ∧ s.beginService.overlay = s.overlay ∧ s.alertCommit.overlay = s.overlay ∧
    s.restartRegulators.overlay = s.overlay ∧ (∀ b, (s.commitRegulators b).overlay = s.overlay) ∧
    s.crankRegulators.overlay = s.overlay ∧ s.closeFrame.overlay = s.overlay ∧ s.noteSupply.overlay = s.overlay ∧
    (∀ v, State.overlay { s with vehicle := v } = s.overlay) ∧ (∀ k, State.overlay { s with tracks := k } = s.overlay) ∧
    (∀ v k, State.overlay { s with vehicle := v, tracks := k } = s.overlay) ∧
    ∀ a, State.overlay { s with alert := a } = s.overlay := by
  and_intros
  all_goals intros; rfl

/-- R101: a reset empties the table. -/
theorem State.overlay_restartTables (s : State) : s.restartTables.overlay = (ObjectTable.atReset.slots, s.body) := rfl

/-- The zone monitor and the view arbiter. -/
@[simp] theorem State.overlay_zones (s : State) :
    s.choose.overlay = s.overlay ∧ (∀ i, (s.raiseCause i).overlay = s.overlay) ∧
    (∀ l, (s.clearMasks l).overlay = s.overlay) ∧ (∀ l m, (s.maskCauses l m).overlay = s.overlay) ∧
    (∀ l m, (s.unmaskCauses l m).overlay = s.overlay) ∧ s.arbiterCommit.overlay = s.overlay ∧
    (∀ i, (s.causeExpiry i).overlay = s.overlay) ∧ s.showExpiry.overlay = s.overlay ∧
    (∀ z r, (s.takeZone z r).overlay = s.overlay) ∧ s.recountZones.overlay = s.overlay ∧
    s.commitZones.overlay = s.overlay ∧ (∀ z, (s.holdExpiry z).overlay = s.overlay) ∧
    (∀ z, (s.dwellEnd z).overlay = s.overlay) ∧ s.firstLook.overlay = s.overlay ∧
    (∀ b, (State.handOn b s).overlay = s.overlay) ∧ (∀ b, (State.settingsStep b s).overlay = s.overlay) ∧
    ∀ b, (State.noteSettings b s).overlay = s.overlay :=
  ⟨State.overlay_of_besideViews s.besideViews_choose,
    fun i => State.overlay_of_besideViews (s.besideViews_raiseCause i),
    fun l => State.overlay_of_besideViews (s.besideViews_clearMasks l),
    fun l m => State.overlay_of_besideViews (s.besideViews_maskCauses l m),
    fun l m => State.overlay_of_besideViews (s.besideViews_unmaskCauses l m),
    State.overlay_of_besideViews s.besideViews_arbiterCommit,
    fun i => State.overlay_of_besideViews (s.besideViews_causeExpiry i),
    State.overlay_of_besideViews s.besideViews_showExpiry,
    fun z r => State.overlay_of_besideZones (s.besideZones_takeZone z r),
    State.overlay_of_besideZones s.besideZones_recountZones,
    State.overlay_of_besideZones s.besideZones_commitZones,
    fun z => State.overlay_of_besideZones (s.besideZones_holdExpiry z),
    fun z => State.overlay_of_besideZones (s.besideZones_dwellEnd z),
    State.overlay_of_besideZones s.besideZones_firstLook,
    fun b => State.overlay_of_besideZones (State.besideZones_handOn b s),
    fun b => State.overlay_of_besideZones (State.besideZones_settingsStep b s),
    fun b => State.overlay_of_besideZones (State.besideZones_noteSettings b s)⟩

@[simp] theorem State.overlay_askServiceEnd (s : State) : s.askServiceEnd.overlay = s.overlay := by
  unfold State.askServiceEnd; split <;> rfl

@[simp] theorem State.overlay_movingEnds (b s : State) : (State.movingEnds b s).overlay = s.overlay := by
  unfold State.movingEnds; split <;> simp

@[simp] theorem State.overlay_takeVehicle (s : State) (v : Vehicle) : (s.takeVehicle v).overlay = s.overlay := by
  simp [State.takeVehicle]

@[simp] theorem State.overlay_bodyReport (s : State) (cycling : Bool) (c : Contacts) :
    (s.bodyReport cycling c).overlay = s.overlay := by
  unfold State.bodyReport; dsimp only; split <;> simp

@[simp] theorem State.overlay_setPlace (s : State) (p : Place) (k : Option Track) :
    (s.setPlace p k).overlay = s.overlay := by
  simp [State.setPlace]

@[simp] theorem State.overlay_takeNew (s : State) (k : Track) : (s.takeNew k).1.overlay = s.overlay := by
  unfold State.takeNew; repeat' split
  all_goals simp

@[simp] theorem State.overlay_enterService (s : State) : s.enterService.overlay = s.overlay := by
  unfold State.enterService
  split
  · rw [State.overlay_of_besideZones (State.besideZones_settingsStep _ _)]; rfl
  · simp

/-- R194: the end of a commit in flight leaves the working copy. -/
theorem State.overlay_endCommit (s : State) {f : SettingsBlock → SettingsBlock} (h : ∀ b, (f b).working = b.working) :
    (s.endCommit f).overlay = s.overlay := by
  have working : (s.setSettings (f s.settings)).overlay = s.overlay := congrArg (s.table.slots, ·) (h s.settings)
  unfold State.endCommit
  split
  · rfl
  · dsimp only
    split <;> simp [working]

@[simp] theorem State.overlay_commitVehicle (s : State) : s.commitVehicle.overlay = s.overlay := by
  rw [State.commitVehicle, State.overlay_movingEnds]; rfl

theorem State.overlay_canFrame (s : State) (l : Link) (ident : BitVec 11) (payload : List Byte) :
    (s.canFrame l ident payload).overlay = s.overlay := by
  unfold State.canFrame; repeat' split
  all_goals simp

theorem State.overlay_completeExchange (s : State) (half : List Byte) :
    (s.completeExchange half).overlay = s.overlay := by
  unfold State.completeExchange; dsimp only; repeat' split
  all_goals simp

theorem State.overlay_dipExpiry (s : State) : s.dipExpiry.overlay = s.overlay := by
  unfold State.dipExpiry; split <;> simp

theorem State.overlay_recoveryExpiry (s : State) : s.recoveryExpiry.overlay = s.overlay := by
  unfold State.recoveryExpiry; split <;> simp

theorem State.overlay_takeHead {s t : State} {row : RequestRow} {l : Link} {r : Request}
    (h : s.takeHead row l = some (r, t)) : t.overlay = s.overlay := by
  obtain ⟨rest, -, -, -, rfl⟩ := State.takeHead_eq h
  rfl

theorem State.overlay_answerUnknown (l : Link) (s : State) : (s.answerUnknown l).overlay = s.overlay := by
  unfold State.answerUnknown
  split
  · rfl
  · rename_i taken; simp [State.overlay_takeHead taken]

/-! ## Through the requests of other blocks -/

section
variable (l : Link) (r : Request) (s : State)

/-- Requests of the vehicle state, the tracks, the zones and the view masks. -/
@[simp] theorem State.overlay_vehicleRequests :
    (actVehicleState l r s).1.overlay = s.overlay ∧ (actBodyState l r s).1.overlay = s.overlay ∧
    (actTrackUpdate l r s).1.overlay = s.overlay ∧ (actTrackDrop l r s).1.overlay = s.overlay ∧
    (actZoneAck l r s).1.overlay = s.overlay ∧ (actViewMaskSet l r s).1.overlay = s.overlay ∧
    (actViewMaskClear l r s).1.overlay = s.overlay := by
  unfold actVehicleState actBodyState actTrackUpdate actTrackDrop actZoneAck actViewMaskSet actViewMaskClear
  and_intros
  all_goals try dsimp only
  all_goals repeat' split
  all_goals simp

/-- Requests of the settings block but the commit, the status query, and the strip sets. -/
@[simp] theorem State.overlay_settingsRequests :
    (actStatusQuery l r s).1.overlay = s.overlay ∧ (actServiceEnter l r s).1.overlay = s.overlay ∧
    (actServiceExit l r s).1.overlay = s.overlay ∧ (actSettingsWrite l r s).1.overlay = s.overlay ∧
    (actStripSet l r s).1.overlay = s.overlay := by
  unfold actStatusQuery actServiceEnter actServiceExit actSettingsWrite
  and_intros
  on_goal 5 => rfl
  all_goals try dsimp only
  all_goals repeat' split
  all_goals simp

/-- Requests that no link is refused: a view, a reading of the settings. -/
@[simp] theorem State.overlay_openRequests :
    (actViewRequest r s).1.overlay = s.overlay ∧ (actSettingsRead r s).1.overlay = s.overlay := by
  unfold actViewRequest actSettingsRead
  and_intros
  all_goals dsimp only
  all_goals repeat' split
  all_goals simp

end

end Sys2Proof.Machine
end

section
/-! Every step keeps every OCCUPIED slot in a sector that its owner's map names (R78): O9. -/

namespace Sys2Proof.Machine

/-! ## Where the slots and the maps come from -/

/-- Maps as they were, and every object in a slot that held one of the same owner. -/
theorem State.SlotsMapped.of_owners {s t : State} (h : s.SlotsMapped) (body : t.body = s.body)
    (owners : ∀ i o, t.slot i = some o → ∃ k, s.slot i = some k ∧ o.owner = k.owner) : t.SlotsMapped := by
  intro i o occupied
  obtain ⟨k, before, owner⟩ := owners i o occupied
  rw [body, owner]
  exact h i k before

theorem State.overlay_fields {s t : State} (e : t.overlay = s.overlay) : t.body = s.body ∧ t.slot = s.slot := by
  obtain ⟨slots, body⟩ := Prod.mk.inj e
  exact ⟨body, funext fun i => by rw [State.slot, State.slot, slots]⟩

theorem State.SlotsMapped.of_overlay {s t : State} (h : s.SlotsMapped) (e : t.overlay = s.overlay) : t.SlotsMapped := by
  obtain ⟨body, slot⟩ := State.overlay_fields e
  exact h.of_owners body fun i o occupied => ⟨o, slot ▸ occupied, rfl⟩

theorem State.SlotsMapped.settle {s : State} (h : s.SlotsMapped) : s.settle.SlotsMapped := h.of_overlay rfl

theorem State.SlotsMapped.setSlot {s : State} (h : s.SlotsMapped) {i : ObjSlot} {x : Option ObjRecord}
    (mapped : ∀ o, x = some o → s.body.maps o.owner (sectorOf i) = true) : (s.setSlot i x).SlotsMapped := by
  intro j o occupied
  by_cases e : j = i
  · subst e
    rw [State.slot_setSlot_self] at occupied
    exact mapped o occupied
  · rw [State.slot_setSlot_of_ne _ _ _ _ e] at occupied
    exact h j o occupied

/-- An object in place of another of the same owner. -/
theorem State.SlotsMapped.replace {s : State} (h : s.SlotsMapped) {i : ObjSlot} {o k : ObjRecord} (slot : s.slot i = some o)
    (owner : k.owner = o.owner) : (s.setSlot i (some k)).SlotsMapped :=
  h.setSlot fun _ e => Option.some.inj e ▸ owner ▸ h i o slot

/-- R101, R102, R190: an empty table. -/
theorem State.slotsMapped_of_empty {s : State} {b : Body} (e : s.overlay = (ObjectTable.atReset.slots, b)) :
    s.SlotsMapped := by
  obtain ⟨slots, -⟩ := Prod.mk.inj e
  intro i o occupied
  have empty : s.slot i = none := by simp [State.slot, slots, ObjectTable.atReset]
  simp [empty] at occupied

/-! ## The requests of the table -/

theorem recordOf_owner {l : Link} {k : ObjKind} {f : List Byte} {o : ObjRecord} (h : recordOf l k f = some o) :
    o.owner = l := by
  unfold recordOf at h
  split at h
  · exact Option.some.inj h ▸ rfl
  · cases h

section
variable {s : State} (h : s.SlotsMapped) (l : Link) (r : Request)
include h

/-- R85: the requester's map names the sector that its handle reaches. -/
theorem State.SlotsMapped.objectPut : (actObjectPut l r s).1.SlotsMapped := by
  unfold actObjectPut
  dsimp only
  split
  · exact h
  split
  · exact h
  split
  · exact h
  rename_i reached
  split
  · exact h
  split
  · exact h
  rename_i record
  obtain ⟨le, resolved⟩ := State.reach_eq_ok.mp reached
  exact h.setSlot fun _ e => Option.some.inj e ▸ recordOf_owner record ▸ Body.resolve_maps resolved le

theorem State.SlotsMapped.objectMove : (actObjectMove l r s).1.SlotsMapped := by
  unfold actObjectMove
  split
  · exact h
  · rename_i reached
    obtain ⟨-, -, slot, -⟩ := State.reachOwned_eq_ok.mp reached
    exact h.replace slot rfl

theorem State.SlotsMapped.objectStyle : (actObjectStyle l r s).1.SlotsMapped := by
  unfold actObjectStyle
  split
  · exact h
  · rename_i reached
    obtain ⟨-, -, slot, -⟩ := State.reachOwned_eq_ok.mp reached
    split
    · exact h
    · exact h.replace slot rfl

theorem State.SlotsMapped.textSetCursor : (actTextSetCursor l r s).1.SlotsMapped := by
  unfold actTextSetCursor
  dsimp only
  split
  · exact h
  split
  · exact h
  · rename_i reached
    obtain ⟨-, -, slot, -⟩ := State.reachOwned_eq_ok.mp reached
    split
    · exact h.replace slot rfl
    · exact h

theorem State.SlotsMapped.textAppend : (actTextAppend l r s).1.SlotsMapped := by
  unfold actTextAppend
  dsimp only
  split
  · exact h
  split
  · exact h
  · rename_i reached
    obtain ⟨-, -, slot, -⟩ := State.reachOwned_eq_ok.mp reached
    split
    · split
      · exact h
      · exact h.replace slot rfl
    · exact h

theorem State.SlotsMapped.objectRemove : (actObjectRemove l r s).1.SlotsMapped := by
  unfold actObjectRemove
  split
  · exact h
  · exact h.setSlot fun _ e => (by cases e)

end

/-! ## Purges, frames and the commit -/

/-- R92, R97: slots are emptied. -/
theorem State.SlotsMapped.purgeSlots {s : State} (h : s.SlotsMapped) (l : Link) :
    State.SlotsMapped { s with table := s.table.purgeSlots l } := by
  refine h.of_owners rfl fun i o occupied => ⟨o, ?_, rfl⟩
  rw [State.slot, ObjectTable.purgeSlots_slot] at occupied
  split at occupied
  · cases occupied
  · exact occupied

theorem State.SlotsMapped.ownerExpiry {s : State} (h : s.SlotsMapped) (l : Link) : (s.ownerExpiry l).SlotsMapped := by
  have purged : ∀ u : State, (u.purge l).overlay = State.overlay { u with table := u.table.purgeSlots l } := fun u => by
    unfold State.purge
    dsimp only
    split <;> rfl
  unfold State.ownerExpiry
  split
  · exact h
  · have stopped : (s.onCtl l fun c => { c with ownerTimer := none }).SlotsMapped := h.of_overlay rfl
    exact (stopped.purgeSlots l).of_overlay (((State.overlay_zones _).2.2.1 l).trans (purged _))

/-- R93 -/
theorem State.SlotsMapped.startFrame {s : State} (h : s.SlotsMapped) : s.startFrame.SlotsMapped := by
  have opened : s.openCameras.SlotsMapped := h.of_overlay (State.overlay_of_besideCameras s.besideCameras_openCameras)
  unfold State.startFrame
  generalize s.openCameras = u at opened ⊢
  refine opened.of_owners rfl fun i o occupied => ?_
  rw [State.slot, ObjectTable.markAll_slot] at occupied
  obtain ⟨k, before, rfl⟩ := Option.map_eq_some_iff.mp occupied
  exact ⟨k, before, rfl⟩

/-- R94 -/
theorem State.SlotsMapped.countDownTable {s : State} (h : s.SlotsMapped) : s.countDownTable.SlotsMapped := by
  have body : s.countDownTable.body = s.body := (State.exposure_fields s.exposure_countDownTable).1
  refine h.of_owners body fun i o occupied => countDown_owner ?_
  rw [← State.countDownTable_slot, occupied]

/-- R99: whatever stood in the table, a commit leaves no object that the maps in force drop. -/
theorem State.commitTable_mapped (s : State) : s.commitTable.SlotsMapped := by
  have body : s.commitTable.body = s.body := (State.exposure_fields s.exposure_commitTable).1
  intro i o occupied
  rw [body]
  rw [State.commitTable_slot] at occupied
  split at occupied
  · cases occupied
  · rename_i kept
    simpa [Body.drops, occupied] using kept

theorem State.applyCommit_mapped (s : State) (new : Body) : (s.applyCommit new).SlotsMapped := by
  refine (State.commitTable_mapped (s.setSettings (s.settings.putInForce new))).of_overlay ?_
  simp [State.applyCommit]

theorem State.SlotsMapped.settingsCommit {s : State} (h : s.SlotsMapped) (l : Link) (r : Request) :
    (actSettingsCommit l r s).1.SlotsMapped := by
  unfold actSettingsCommit State.tryCommit
  split
  · exact h
  · split
    · exact h
    · dsimp only
      exact s.applyCommit_mapped _
  · exact h

/-! ## Resets -/

theorem State.warmReset_mapped (s : State) {first : State → State} (keeps : ∀ u : State, (first u).overlay = u.overlay) :
    (s.warmReset first).SlotsMapped := by
  have blocks : s.warmBlocks.overlay = (ObjectTable.atReset.slots, s.body) := rfl
  refine State.slotsMapped_of_empty (b := s.body) ?_
  unfold State.warmReset State.noteServiceEnd
  split <;> simp [keeps, blocks]

theorem State.endLoad_mapped (s : State) (found : Option Body) : (s.endLoad found).SlotsMapped := by
  refine State.slotsMapped_of_empty (b := found.getD Body.builtIn) ?_
  simp only [State.endLoad, State.overlay_updates, State.overlay_zones, State.overlay_restartTables]
  rfl

theorem State.SlotsMapped.answerReset {s : State} (h : s.SlotsMapped) (l : Link) : (s.answerReset l).SlotsMapped := by
  unfold State.answerReset
  split
  · exact h
  · rename_i taken
    have head := h.of_overlay (State.overlay_takeHead taken)
    split
    · exact head.of_overlay rfl
    · split
      · exact head.of_overlay rfl
      · exact State.warmReset_mapped _ fun _ => rfl

theorem State.SlotsMapped.lineFalls {s : State} (h : s.SlotsMapped) : s.lineFalls.SlotsMapped := by
  unfold State.lineFalls
  split
  · split
    · exact (State.warmReset_mapped _ fun _ => rfl).settle
    · exact h.of_overlay rfl
  · exact h

/-- A step on an empty queue (log 1). -/
theorem State.SlotsMapped.idle {s : State} (h : s.SlotsMapped) : s.idle.SlotsMapped := by
  unfold State.idle
  split
  · exact h
  · exact h.of_overlay rfl

/-! ## The kinds of commands -/

section
variable {s t : State}

/-- A command of another block. -/
theorem State.SlotsMapped.block {f : State → State} (h : s.SlotsMapped) (keeps : ∀ u : State, (f u).overlay = u.overlay)
    (next : whileRunning s f = .next t) : t.SlotsMapped :=
  h.of_overlay (whileRunning_fixes State.overlay (fun _ => rfl) f keeps next)

/-- A command of a camera. -/
theorem State.SlotsMapped.camera {f : State → State} (h : s.SlotsMapped)
    (beside : ∀ u : State, (f u).besideCameras = u.besideCameras) (next : whileRunning s f = .next t) : t.SlotsMapped :=
  h.block (fun u => State.overlay_of_besideCameras (beside u)) next

/-- A command that changes the table. -/
theorem State.SlotsMapped.tableWork {f : State → State} (h : s.SlotsMapped) (keeps : ∀ u : State, u.SlotsMapped → (f u).SlotsMapped)
    (next : whileRunning s f = .next t) : t.SlotsMapped :=
  whileRunning_keeps State.SlotsMapped (fun _ hu => hu.settle) f (fun u _ hu => keeps u hu) next h

/-- A request of the table, or the commit. -/
theorem State.SlotsMapped.tableRequest {row : RequestRow} {l : Link} {act : Request → State → State × Answer}
    (h : s.SlotsMapped) (keeps : ∀ r (u : State), u.SlotsMapped → (act r u).1.SlotsMapped)
    (next : whileRunning s (answering row l act) = .next t) : t.SlotsMapped :=
  whileRunning_keeps State.SlotsMapped (fun _ hu => hu.settle) _
    (answering_keeps State.SlotsMapped (fun _ _ _ hu => hu.of_overlay rfl) row l act fun r u _ hu => keeps r u hu) next h

/-- A request of another block. -/
theorem State.SlotsMapped.request {row : RequestRow} {l : Link} {act : Request → State → State × Answer} (h : s.SlotsMapped)
    (next : whileRunning s (answering row l act) = .next t) (keeps : ∀ r u, (act r u).1.overlay = u.overlay) :
    t.SlotsMapped :=
  h.block (answering_fixes State.overlay (fun _ _ _ => rfl) row l act keeps) next

/-- An event of a link controller. -/
theorem State.SlotsMapped.link {l : Link} {f : LinkCtl → LinkCtl} (h : s.SlotsMapped)
    (next : (whileRunning s fun u => u.onCtl l f) = .next t) : t.SlotsMapped :=
  h.block (f := fun u => u.onCtl l f) (fun _ => rfl) next

/-- An event of the supply monitor. -/
theorem State.SlotsMapped.powered {f : State → State} (h : s.SlotsMapped) (keeps : ∀ u : State, (f u).overlay = u.overlay)
    (next : whilePowered s f = .next t) : t.SlotsMapped := by
  unfold whilePowered at next
  split at next
  · obtain rfl := Host.Outcome.next.inj next; exact h
  · obtain rfl := Host.Outcome.next.inj next; exact h.of_overlay (keeps s)
  · obtain rfl := Host.Outcome.next.inj next; exact (h.of_overlay (keeps s)).settle

theorem State.SlotsMapped.supply {f : Supply → Supply} (h : s.SlotsMapped)
    (next : (whilePowered s fun u => u.setSupply (f u.supply)) = .next t) : t.SlotsMapped :=
  h.powered (f := fun u => u.setSupply (f u.supply)) (fun _ => rfl) next

/-- The end of a commit in flight. -/
theorem State.SlotsMapped.commitEnds {f : SettingsBlock → SettingsBlock} (h : s.SlotsMapped)
    (next : (whileRunning s fun u => u.endCommit f) = .next t) (keeps : ∀ b, (f b).working = b.working) : t.SlotsMapped :=
  h.block (fun u => u.overlay_endCommit keeps) next

/-- The end of the settings load. -/
theorem State.SlotsMapped.loaded {found : Option Body} (h : s.SlotsMapped) (next : whileLoading s found = .next t) :
    t.SlotsMapped := by
  obtain rfl := Host.Outcome.next.inj next
  split
  · exact (s.endLoad_mapped found).settle
  · exact h

/-- A command whose answer is written out, with slots and maps as they were. -/
theorem State.SlotsMapped.same (h : s.SlotsMapped) {u : State}
    (next : (.next u : Host.Outcome State Fault Refusal) = .next t) (e : u.overlay = s.overlay) : t.SlotsMapped :=
  Host.Outcome.next.inj next ▸ h.of_overlay e

theorem State.overlay_unless {u : State} {P : Prop} [Decidable P] (h : t.overlay = u.overlay) :
    (if P then u else t).overlay = u.overlay := by
  split
  · rfl
  · exact h

/-! ## Every command (O9) -/

theorem State.SlotsMapped.exec {i : Instr} (h : s.SlotsMapped) (next : exec i s = .next t) : t.SlotsMapped := by
  cases i with
  | frameStartRecord c packet =>
    change execFrameStartRecord c packet s = .next t at next
    unfold execFrameStartRecord at next
    split at next
    · split at next
      · cases next
      · exact h.camera (fun u => by simp) next
    · exact h.same next rfl
  | lineRecord c packet =>
    change execLineRecord c packet s = .next t at next
    unfold execLineRecord at next
    split at next
    · exact h.camera (fun u => u.besideCameras_rowArrives c _) next
    · exact h.same next rfl
  | blankingRecord c packet =>
    change execBlankingRecord c packet s = .next t at next
    unfold execBlankingRecord at next
    split at next
    · exact h.camera (fun u => u.besideCameras_rowArrives c _) next
    · exact h.same next rfl
  | silenceTimerExpiry c => exact h.camera (fun u => u.besideCameras_fallSilent c) next
  | returnTimerExpiry c =>
    exact h.block (fun u => State.overlay_unless (State.overlay_of_besideCameras (u.besideCameras_sendWord c))) next
  | errorWindowEnd c => exact h.camera (fun u => u.besideCameras_windowEnd c) next
  | concealmentCopyFinish c =>
    exact h.camera (f := fun u => State.noteCamera c u (u.finishCopy c)) (fun u => by simp) next
  | stopTimerExpiry c => exact h.camera (f := fun u => u.setReg c (u.reg c).stopExpiry) (fun _ => rfl) next
  | outputFrameStart =>
    change execOutputFrameStart s = .next t at next
    unfold execOutputFrameStart at next
    split at next
    · exact h.tableWork (fun _ hu => hu.startFrame) next
    · exact h.same next rfl
    · exact h.same next rfl
  | outputFrameEnd =>
    change execOutputFrameEnd s = .next t at next
    unfold execOutputFrameEnd at next
    split at next
    · exact h.tableWork (fun _ hu => hu.countDownTable.of_overlay (by simp)) next
    · exact h.same next rfl
    · exact h.same next rfl
  | objectPut l => exact h.tableRequest (fun r _ hu => hu.objectPut l r) next
  | objectMove l => exact h.tableRequest (fun r _ hu => hu.objectMove l r) next
  | objectStyle l => exact h.tableRequest (fun r _ hu => hu.objectStyle l r) next
  | objectTextSetCursor l => exact h.tableRequest (fun r _ hu => hu.textSetCursor l r) next
  | objectTextAppend l => exact h.tableRequest (fun r _ hu => hu.textAppend l r) next
  | objectRemove l => exact h.tableRequest (fun r _ hu => hu.objectRemove l r) next
  | objectRemoveAll l => exact h.tableRequest (fun _ _ hu => hu.purgeSlots l) next
  | settingsCommit l => exact h.tableRequest (fun r _ hu => hu.settingsCommit l r) next
  | stripSet l | vehicleState l | bodyState l | trackUpdate l | trackDrop l | zoneAck l | viewRequest l | viewMaskSet l
  | viewMaskClear l | statusQuery l | serviceEnter l | serviceExit l | settingsWrite l | settingsRead l =>
    exact h.request next fun r u => by simp
  | ownerSilenceTimerExpiry l => exact h.tableWork (fun _ hu => hu.ownerExpiry l) next
  | indicatorOffDelayExpiry | chassisSilenceTimerExpiry | bodySilenceTimerExpiry =>
    exact h.block (fun u => State.overlay_unless (u.overlay_takeVehicle _)) next
  | trackExpiry p => exact h.block (fun u => State.overlay_unless (u.overlay_setPlace p none)) next
  | holdTimerExpiry z => exact h.block (f := fun u => u.holdExpiry z) (fun u => by simp) next
  | dwellPeriodEnd z => exact h.block (f := fun u => u.dwellEnd z) (fun u => by simp) next
  | segmentTimerExpiry => exact h.block (f := fun u => { u with alert := u.alert.segmentExpiry u.body }) (fun _ => rfl) next
  | causeTimerExpiry i => exact h.block (f := fun u => u.causeExpiry i) (fun u => by simp) next
  | showTimerExpiry => exact h.block (f := State.showExpiry) (fun u => by simp) next
  | canRequestFrame p ident payload => exact h.block (fun u => u.overlay_canFrame p.link ident payload) next
  | spiExchangeStart =>
    change execSpiExchangeStart s = .next t at next
    unfold execSpiExchangeStart at next
    split at next
    · exact h.link next
    · exact h.same next rfl
    · exact h.same next rfl
  | spiExchange half =>
    change execSpiExchange half s = .next t at next
    unfold execSpiExchange at next
    split at next
    · refine h.block (fun u => ?_) next
      split
      · rfl
      · exact u.overlay_completeExchange half
    · exact h.same next rfl
    · exact h.same next rfl
  | spiExchangeCutShort =>
    change execSpiExchangeCutShort s = .next t at next
    unfold execSpiExchangeCutShort at next
    split at next
    · exact h.block (f := State.cutExchange) (fun _ => rfl) next
    · exact h.same next rfl
    · exact h.same next rfl
  | canFrameAcknowledged p | canArbitrationLoss p | canBusError p | canBusOff p | canBusOffRecovery p =>
    exact h.link next
  | unknownKind l => exact h.block (State.overlay_answerUnknown l) next
  | commitWriteComplete | commitWriteFailed | commitLimitExpiry =>
    exact h.commitEnds next fun _ => rfl
  | coldReset below => exact Host.Outcome.next.inj next ▸ State.slotsMapped_of_empty (b := Body.builtIn) rfl
  | settingsLoadEnd | settingsLoadLimitExpiry | settingsLoadNotAcknowledged => exact h.loaded next
  | resetN => exact Host.Outcome.next.inj next ▸ h.lineFalls
  | reset l => exact h.tableWork (fun _ hu => hu.answerReset l) next
  | supplyFallBelow18V | supplyRiseTo18V | supplyRiseTo20V | supplyFallBelow20V => exact h.supply next
  | dipTimerExpiry => exact h.powered State.overlay_dipExpiry next
  | recoveryTimerExpiry => exact h.powered State.overlay_recoveryExpiry next
  | supplyStop =>
    obtain rfl := Host.Outcome.next.inj next
    split
    · exact h
    · exact State.slotsMapped_of_empty (b := Body.builtIn) rfl
  | resetNRise => exact h.same next rfl

end

/-- A SEGMENT of a link. -/
def ObjRecord.segmentOf (l : Link) : ObjRecord :=
  { owner := l, anchor := .screen, cameras := 0xF, outputs := 3, layer := 2, colour := 3, blink := .none, showConds := 0
    lifetime := 0, marked := false, shape := .segment ⟨0, 0⟩ ⟨5, 5⟩ 1 }

/-- The table with an object of CHASSIS in sector 1 and one of BODY in sector 2, under the default maps. -/
def State.twoObjects : State :=
  (State.reset.setSlot 31 (some (.segmentOf .chassis))).setSlot 40 (some (.segmentOf .body))

/-- The hypothesis of O9 holds of a table with objects of two links. -/
theorem State.twoObjects_slotsMapped : State.twoObjects.SlotsMapped := by
  have empty : State.reset.SlotsMapped := State.slotsMapped_of_empty (b := Body.builtIn) rfl
  have one := empty.setSlot (i := 31) (x := some (.segmentOf .chassis)) fun k e => Option.some.inj e ▸ (by decide +kernel)
  exact one.setSlot fun k e => Option.some.inj e ▸ (by decide +kernel)

/-- Settles O9: a millisecond leaves the slots, and each command keeps what it leaves of them mapped. -/
theorem occupiedSlotsStayMapped : Obligations.OccupiedSlotsStayMapped := by
  intro s t mapped stepped
  unfold step at stepped
  split at stepped
  · exact Host.Outcome.next.inj stepped ▸ mapped.idle
  · rename_i i rest _
    have queued : (s.withPending rest).SlotsMapped := mapped.of_overlay rfl
    exact queued.exec stepped

end Sys2Proof.Machine
end

section
/-! SUPPORT. What a request that is ready is answered with (R179, R181): the state its block leaves, the reply, and nothing else in the
queues. -/

namespace Sys2Proof.Machine

/-! ## One controller -/

/-- R174: putting a frame up changes what is being sent alone. -/
@[simp] theorem LinkCtl.putUp_keeps (b : Body) (i : Nat) (c : LinkCtl) :
    (c.putUp b i).inbound = c.inbound ∧ (c.putUp b i).outbound = c.outbound ∧ (c.putUp b i).flags = c.flags ∧
    (c.putUp b i).ownerTimer = c.ownerTimer ∧ (c.putUp b i).busOff = c.busOff := by
  unfold LinkCtl.putUp
  split <;> simp

@[simp] theorem LinkCtl.makeRoom_keeps (c : LinkCtl) :
    c.makeRoom.inbound = c.inbound ∧ c.makeRoom.ownerTimer = c.ownerTimer ∧ c.makeRoom.busOff = c.busOff := by
  unfold LinkCtl.makeRoom
  repeat' split
  all_goals exact ⟨rfl, rfl, rfl⟩

/-- R181: the room that is made does not depend on the requests that wait. -/
theorem LinkCtl.makeRoom_withInbound (c : LinkCtl) (q : List Request) :
    ({ c with inbound := q } : LinkCtl).makeRoom = { c.makeRoom with inbound := q } := by
  by_cases room : c.outbound.length < Config.outboundLimit
  · simp [LinkCtl.makeRoom, room]
  · cases found : c.outbound.findIdx? fun m => m.notice.isSome with
    | none => simp [LinkCtl.makeRoom, room, found]
    | some i => by_cases head : i = 0 <;> simp [LinkCtl.makeRoom, LinkCtl.detach, room, found, head]

theorem State.settle_ctl (s : State) (l : Link) :
    (s.settle.ctl l).inbound = (s.ctl l).inbound ∧ (s.settle.ctl l).outbound = (s.ctl l).outbound ∧
    (s.settle.ctl l).flags = (s.ctl l).flags ∧ (s.settle.ctl l).ownerTimer = (s.ctl l).ownerTimer ∧
    (s.settle.ctl l).busOff = (s.ctl l).busOff := by
  simp only [State.settle, State.ctl, Fin.getElem_fin, Vector.getElem_mapIdx]
  split <;> simp

theorem State.reply_ctl_self (s : State) (l : Link) (r : Request) (a : Answer) :
    (s.reply l r a).ctl l = (s.ctl l).pushReply (replyMsg r a) :=
  s.ctl_setCtl_self l _

theorem State.reply_ctl_of_ne (s : State) {l m : Link} (r : Request) (a : Answer) (h : m ≠ l) :
    (s.reply l r a).ctl m = s.ctl m :=
  s.ctl_setCtl_of_ne l m _ h

/-! ## The request taken -/

/-- R179: the head of a link's inbound queue has left it. -/
def State.taken (s : State) (l : Link) : State := s.setCtl l { s.ctl l with inbound := (s.ctl l).inbound.tail }

@[simp] theorem State.taken_keeps (s : State) (l : Link) :
    (s.taken l).body = s.body ∧ (s.taken l).slot = s.slot ∧ (s.taken l).table = s.table ∧
    (s.taken l).besideLinks = s.besideLinks := ⟨rfl, rfl, rfl, rfl⟩

section
variable {s : State} {l : Link} {row : RequestRow} {r : Request} {act : Request → State → State × Answer}

/-- R179: the block is handed the request, and its answer is the reply. -/
theorem State.Ready.answering_eq (h : s.Ready l row r) :
    answering row l act s = (act r (s.taken l)).1.reply l r (act r (s.taken l)).2 := by
  obtain ⟨rest, queue⟩ := List.head?_eq_some_iff.mp h.head
  rw [answering_ready queue h.room h.row h.long, State.taken, queue]
  rfl

/-- R181: the reply joins the queue in which room was made, and no other controller changes. -/
theorem State.onlyReplied_of_links {u : State} {a : Answer} (links : u.links = (s.taken l).links) :
    s.OnlyReplied (u.reply l r a).settle l r a := by
  have ctl : ∀ m, u.ctl m = (s.taken l).ctl m := fun m => by rw [State.ctl, State.ctl, links]
  have own : (u.reply l r a).ctl l =
      { (s.ctl l).makeRoom with
        inbound := (s.ctl l).inbound.tail, outbound := (s.ctl l).makeRoom.outbound ++ [replyMsg r a] } := by
    rw [State.reply_ctl_self, ctl, State.taken, State.ctl_setCtl_self, LinkCtl.pushReply, LinkCtl.makeRoom_withInbound]
  have other : ∀ m, m ≠ l → (u.reply l r a).ctl m = s.ctl m := fun m h => by
    rw [State.reply_ctl_of_ne _ _ _ h, ctl, State.taken, State.ctl_setCtl_of_ne _ _ _ _ h]
  obtain ⟨inbound, outbound, flags, -, -⟩ := (u.reply l r a).settle_ctl l
  refine ⟨?_, ?_, ?_, fun m h => ?_, fun m => ?_⟩
  · rw [inbound, own]
  · rw [outbound, own]
  · rw [flags, own]
  · obtain ⟨inbound, outbound, flags, -, -⟩ := (u.reply l r a).settle_ctl m
    rw [inbound, outbound, flags, other m h]
    exact ⟨rfl, rfl, rfl⟩
  · obtain ⟨-, -, -, ownerTimer, busOff⟩ := (u.reply l r a).settle_ctl m
    rw [ownerTimer, busOff]
    by_cases h : m = l
    · subst h
      rw [own]
      exact ⟨(s.ctl m).makeRoom_keeps.2.1, (s.ctl m).makeRoom_keeps.2.2⟩
    · rw [other m h]
      exact ⟨rfl, rfl⟩

/-- A block that leaves the link controllers: its state, and the reply. -/
theorem State.Ready.answered (h : s.Ready l row r) {u : State} {a : Answer} (acts : act r (s.taken l) = (u, a))
    (links : u.links = (s.taken l).links) :
    ∃ t, whileRunning s (answering row l act) = .next t ∧ s.OnlyReplied t l r a ∧ t.besideLinks = u.besideLinks := by
  refine ⟨_, whileRunning_running h.running _, ?_⟩
  rw [h.answering_eq, acts]
  exact ⟨State.onlyReplied_of_links links, rfl⟩

/-- A block that answers and changes nothing. -/
theorem State.Ready.refused (h : s.Ready l row r) {a : Answer} (acts : act r (s.taken l) = (s.taken l, a)) :
    ∃ t, whileRunning s (answering row l act) = .next t ∧ s.OnlyReplied t l r a ∧ t.besideLinks = s.besideLinks :=
  h.answered (u := s.taken l) acts rfl

/-- A block that puts a new table in place of the old. -/
theorem State.Ready.tabled (h : s.Ready l row r) {table : ObjectTable} {a : Answer}
    (acts : act r (s.taken l) = ({ s.taken l with table := table }, a)) :
    ∃ t, whileRunning s (answering row l act) = .next t ∧ t.table = table ∧ s.OnlyReplied t l r a ∧
      t.besideTable = s.besideTable := by
  obtain ⟨t, next, replied, rest⟩ := h.answered acts rfl
  exact ⟨t, next, (congrArg State.table rest :), replied, (State.besideTable_of_links rest).trans rfl⟩

/-- A block that sets one slot. -/
theorem State.Ready.slotSet (h : s.Ready l row r) {i : ObjSlot} {x : Option ObjRecord} {a : Answer}
    (acts : act r (s.taken l) = ((s.taken l).setSlot i x, a)) :
    ∃ t, whileRunning s (answering row l act) = .next t ∧ t.slot i = x ∧ (∀ j, j ≠ i → t.slot j = s.slot j) ∧
      t.table.lit = s.table.lit ∧ t.table.blink = s.table.blink ∧ s.OnlyReplied t l r a ∧ t.besideTable = s.besideTable := by
  obtain ⟨t, next, table, replied, rest⟩ := h.tabled acts
  have slot : t.slot = (s.setSlot i x).slot := funext fun j => by rw [State.slot, table]; rfl
  refine ⟨t, next, ?_, fun j e => ?_, ?_, ?_, replied, rest⟩
  · rw [slot, State.slot_setSlot_self]
  · rw [slot, State.slot_setSlot_of_ne _ _ _ _ e]
  · rw [table]; rfl
  · rw [table]; rfl

end

end Sys2Proof.Machine
end

section
/-! The requests of the overlay object table (R84 to R96): O26 to O31. -/

namespace Sys2Proof.Machine

/-! ## Kind, length, anchor and blink of an OBJECT_PUT -/

theorem RequestRow.formKnown_objectPut {f : List Byte} :
    RequestRow.objectPut.formKnown f = true ↔ ∃ k, ObjKind.ofCode (u8At f 1) = some k ∧ k.putLength ≤ f.length := by
  simp only [RequestRow.formKnown, Option.any_eq_true, decide_eq_true_eq]

/-- R85: the record of an OBJECT_PUT whose anchor and blink are known. -/
theorem recordOf_eq_some {l : Link} {k : ObjKind} {f : List Byte} {a : Anchor} {b : Blink}
    (anchor : k.anchorOf (u8At f 2) = some a) (blink : Blink.ofCode (u8At f 6) = some b) :
    recordOf l k f = some
      { owner := l, anchor := a, cameras := (byteAt f 3).extractLsb' 0 4, outputs := (byteAt f 3).extractLsb' 4 2
        layer := min (u8At f 4) 7, colour := min (u8At f 5) 15, blink := b, showConds := (w16At f 7).setWidth 9
        lifetime := u16At f 9, marked := false, shape := shapeAt k a f } := by
  rw [recordOf, anchor, blink]

/-- R84 check 5: an OBJECT_PUT gives no record where its anchor or its blink is not known. -/
theorem recordOf_eq_none {l : Link} {k : ObjKind} {f : List Byte} (kind : ObjKind.ofCode (u8At f 1) = some k) :
    recordOf l k f = none ↔ RequestRow.objectPut.valuesKnown f = false := by
  unfold recordOf RequestRow.valuesKnown
  cases anchor : k.anchorOf (u8At f 2) <;> cases blink : Blink.ofCode (u8At f 6) <;> simp [kind, anchor]

/-- R84: the requester's own slot is reached, with the request's head taken from its queue. -/
theorem State.taken_reachOwned {s : State} {l : Link} {handle : Nat} {i : ObjSlot} {o : ObjRecord} (le : handle ≤ 31)
    (resolved : s.body.resolve l handle = some i) (slot : s.slot i = some o) (owner : o.owner = l) :
    (s.taken l).reachOwned l handle = .ok (i, o) :=
  State.reachOwned_eq_ok.mpr ⟨le, resolved, slot, owner⟩

/-- R84 check 3 of an OBJECT_PUT: the slot holds another link's object. -/
theorem foreign_iff {l : Link} {x : Option ObjRecord} :
    (x.isSome && !ownedBy l x) = true ↔ ∃ o, x = some o ∧ o.owner ≠ l := by
  cases x <;> simp [ownedBy]

/-! ## What each request does (R85 to R91) -/

section
variable {s : State} {l : Link} {r : Request}

theorem actObjectPut_sets {k : ObjKind} {i : ObjSlot} {o : ObjRecord} (kind : ObjKind.ofCode (u8At r.fields 1) = some k)
    (long : k.putLength ≤ r.fields.length) (reached : s.reach l (u8At r.fields 0) = .ok i)
    (own : ∀ x, s.slot i = some x → x.owner = l) (record : recordOf l k r.fields = some o) :
    actObjectPut l r s = (s.setSlot i (some o), .done) := by
  have free := mt foreign_iff.mp fun ⟨x, slot, foreign⟩ => foreign (own x slot)
  simp only [actObjectPut, kind, reached, record]
  rw [if_neg (by omega), if_neg free]

section
variable {i : ObjSlot} {o : ObjRecord} (reached : s.reachOwned l (u8At r.fields 0) = .ok (i, o))
include reached

theorem actObjectMove_sets :
    actObjectMove l r s = (s.setSlot i (some { o with shape := o.shape.move o.anchor r.fields }), .done) := by
  simp only [actObjectMove, reached]

theorem actObjectStyle_sets {b : Blink} (blink : Blink.ofCode (u8At r.fields 2) = some b) :
    actObjectStyle l r s = (s.setSlot i (some (o.style b r.fields)), .done) := by
  simp only [actObjectStyle, reached, blink]

theorem actTextSetCursor_sets {p : Pt} {scale : Nat} {b : TextBody} (mode : u8At r.fields 1 = 0)
    (text : o.shape = .text p scale b) :
    actTextSetCursor l r s =
      (s.setSlot i (some { o with shape := .text p scale { b with cursor := min (u8At r.fields 2) 16 } }), .done) := by
  simp only [actTextSetCursor, reached, text, mode, ne_eq, not_true_eq_false, if_false]

theorem actTextAppend_sets {p : Pt} {scale : Nat} {b : TextBody} (carried : 3 + u8At r.fields 2 ≤ r.fields.length)
    (fits : u8At r.fields 2 ≤ 16) (text : o.shape = .text p scale b) :
    actTextAppend l r s =
      (s.setSlot i
          (some { o with shape := .text p scale (b.append ((r.fields.drop 3).take (u8At r.fields 2))) }),
        ⟨.done, [yesNo (b.truncates (u8At r.fields 2))]⟩) := by
  simp only [actTextAppend, reached, text]
  rw [if_neg (by omega), if_neg (by omega)]

theorem actObjectRemove_empties : actObjectRemove l r s = (s.setSlot i none, .done) := by
  simp only [actObjectRemove, reached]

end

end

/-! ## Text (R83, R90) -/

/-- R90: without characters an APPEND changes nothing. -/
theorem TextBody.append_nil (b : TextBody) : b.append [] = b := if_pos rfl

/-- R90: characters from the cursor on, blanks before it, the cursor and the length advanced. -/
theorem TextBody.append_of_ne_nil (b : TextBody) {chars : List Byte} (h : chars ≠ []) :
    (b.append chars).length = max b.length (min (b.cursor + chars.length) 16) ∧
    (b.append chars).cursor = min (b.cursor + chars.length) 16 ∧
    ∀ q : Fin 16, (b.append chars).glyphs[q] =
      if b.cursor ≤ q.val ∧ q.val < b.cursor + chars.length then glyphCode (byteAt chars (q.val - b.cursor))
      else if b.length ≤ q.val ∧ q.val < b.cursor then 0
      else b.glyphs[q] := by
  rw [TextBody.append, if_neg h]
  refine ⟨rfl, rfl, fun q => ?_⟩
  simp only [Fin.getElem_fin, Vector.getElem_mapIdx, Bool.and_eq_true, decide_eq_true_eq]

/-- Character k of those an APPEND carries. -/
theorem byteAt_take_drop {f : List Byte} {n k : Nat} (h : k < n) : byteAt ((f.drop 3).take n) k = byteAt f (3 + k) := by
  simp [byteAt, List.getD_eq_getElem?_getD, h]

/-! ## Putting, moving, styling (O26, O27) -/

/-- Settles O26: the request passes its checks, and its slot takes the record its fields give, the geometry by kind and anchor. -/
theorem objectPutSetsTheRecord : Obligations.ObjectPutSetsTheRecord := by
  intro s l r k a b i ready kind long handle resolved own anchor blink point thickness
  have reached : (s.taken l).reach l (u8At r.fields 0) = .ok i := State.reach_eq_ok.mpr ⟨handle, resolved⟩
  obtain ⟨t, next, slot, rest⟩ :=
    ready.slotSet (actObjectPut_sets kind long reached own (recordOf_eq_some anchor blink))
  refine ⟨t, next, slot.trans ?_, rest⟩
  cases k with
  | segment | box | text => cases a <;> rfl
  | distanceMark => rfl

/-- Settles O27: each request reaches the requester's own slot and replaces its fields of the record. -/
theorem objectMoveAndStyleReplaceTheirFields : Obligations.ObjectMoveAndStyleReplaceTheirFields := by
  refine ⟨fun s l r i o ready handle resolved slot owner => ?_, fun s l r i o b ready handle resolved slot owner blink => ?_⟩
  · have reached := State.taken_reachOwned handle resolved slot owner
    obtain ⟨t, next, moved, rest⟩ := ready.slotSet (actObjectMove_sets reached)
    refine ⟨t, next, moved.trans ?_, rest⟩
    cases o.shape <;> rfl
  · have reached := State.taken_reachOwned handle resolved slot owner
    exact ready.slotSet (actObjectStyle_sets reached blink)

/-! ## Text (O28) -/

/-- Settles O28: the cursor is set, or the characters carried are written at it. -/
theorem objectTextWritesAtTheCursor : Obligations.ObjectTextWritesAtTheCursor := by
  refine ⟨fun s l r i o p scale b ready mode handle resolved slot owner text => ?_,
    fun s l r i o p scale b ready carried fits handle resolved slot owner text => ?_⟩
  · exact ready.slotSet
      (actTextSetCursor_sets (State.taken_reachOwned handle resolved slot owner) mode text)
  · obtain ⟨t, next, set, others, lit, blink, replied, rest⟩ := ready.slotSet
      (actTextAppend_sets (State.taken_reachOwned handle resolved slot owner) carried fits text)
    have told : b.truncates (u8At r.fields 2) = decide (0 < u8At r.fields 2 ∧ 16 < b.cursor + u8At r.fields 2) := by
      rw [TextBody.truncates, Bool.decide_and]
    have count : ((r.fields.drop 3).take (u8At r.fields 2)).length = u8At r.fields 2 := by
      rw [List.length_take, List.length_drop]; omega
    refine ⟨t, _, next, set, fun none => ?_, fun some => ?_, others, lit, blink, told ▸ replied, rest⟩
    · rw [none, List.take_zero, TextBody.append_nil]
    · have chars : (r.fields.drop 3).take (u8At r.fields 2) ≠ [] := fun e => by
        rw [e, List.length_nil] at count; omega
      obtain ⟨length, cursor, glyphs⟩ := b.append_of_ne_nil chars
      rw [count] at length cursor
      refine ⟨length, cursor, fun q => ?_⟩
      rw [glyphs, count]
      refine ite_congr rfl (fun inside => ?_) fun _ => rfl
      rw [byteAt_take_drop (by omega)]
      rfl

/-! ## Removals (O29) and strip sets (O30) -/

/-- R92: the slots a link owns, counted by their numbers. -/
theorem ObjectTable.ownedCount_eq (t : ObjectTable) (l : Link) :
    t.ownedCount l = ((List.finRange 96).filter fun i => ownedBy l t.slots[i]).length := by
  have slots : t.slots.toList = (List.finRange 96).map fun i => t.slots[i] := by
    refine List.ext_getElem (by simp) fun i h _ => ?_
    simp
  rw [ObjectTable.ownedCount, slots, List.countP_map, List.countP_eq_length_filter]
  rfl

/-- R92, R97: the slots of a link are emptied. -/
theorem purged_slot_eq (l : Link) (x : Option ObjRecord) :
    (if ownedBy l x then none else x) =
      match x with
      | some o => if o.owner = l then none else some o
      | none => none := by
  cases x with
  | none => rfl
  | some o => simp [ownedBy]

/-- Settles O29: one slot, or every slot of the requester, becomes EMPTY. -/
theorem objectRemovalsEmptySlots : Obligations.ObjectRemovalsEmptySlots := by
  refine ⟨fun s l r i o ready handle resolved slot owner => ?_, fun s l r ready => ?_⟩
  · exact ready.slotSet (actObjectRemove_empties (State.taken_reachOwned handle resolved slot owner))
  · obtain ⟨t, next, table, replied, rest⟩ := ready.tabled (act := actObjectRemoveAll l) rfl
    refine ⟨t, next, fun i => ?_, by rw [table]; rfl, by rw [table]; rfl, ?_, rest⟩
    · rw [State.slot, table, ObjectTable.purgeSlots_slot, purged_slot_eq]
      rfl
    · rw [ObjectTable.ownedCount_eq] at replied
      exact replied

theorem ObjectTable.setStrip_self (t : ObjectTable) (l : Link) (lit blink : BitVec 32) :
    (t.setStrip l lit blink).lit[l.ix] = lit ∧ (t.setStrip l lit blink).blink[l.ix] = blink := by
  simp [ObjectTable.setStrip]

theorem ObjectTable.setStrip_of_ne (t : ObjectTable) {l m : Link} (lit blink : BitVec 32) (h : m ≠ l) :
    (t.setStrip l lit blink).lit[m.ix] = t.lit[m.ix] ∧ (t.setStrip l lit blink).blink[m.ix] = t.blink[m.ix] := by
  have ne : l.ix.val ≠ m.ix.val := fun e => h (Link.ix_injective (Fin.ext e)).symm
  simp [ObjectTable.setStrip, ne]

/-- Settles O30: the requester's two sets are replaced, the other links' stay. -/
theorem stripSetReplacesTheSets : Obligations.StripSetReplacesTheSets := by
  intro s l r ready
  obtain ⟨t, next, table, replied, rest⟩ := ready.tabled (act := actStripSet l) rfl
  obtain ⟨lit, blink⟩ := s.table.setStrip_self l (w32At r.fields 0) (w32At r.fields 4)
  refine ⟨t, next, by rw [table]; exact lit, by rw [table]; exact blink, fun m other => ?_, by rw [table]; rfl, replied, rest⟩
  rw [table]
  exact s.table.setStrip_of_ne _ _ other

end Sys2Proof.Machine
end

section
/-! The checks of R84 in their order: O31. -/

namespace Sys2Proof.Machine

/-! ## The slot that a handle does not reach -/

section
variable {s : State} {l : Link} {handle : Nat}

theorem State.reach_high (high : 31 < handle) : s.reach l handle = .error .malformed := if_pos high

theorem State.reach_unmapped (le : handle ≤ 31) (unmapped : s.body.resolve l handle = none) :
    s.reach l handle = .error .notMapped := by
  rw [State.reach, if_neg (by omega), unmapped]

theorem State.reachOwned_of_unreached {e : ResultCode} (h : s.reach l handle = .error e) :
    s.reachOwned l handle = .error e := by
  rw [State.reachOwned, h]

theorem State.reachOwned_foreign {i : ObjSlot} (reached : s.reach l handle = .ok i)
    (foreign : ∀ o, s.slot i = some o → o.owner ≠ l) : s.reachOwned l handle = .error .notOwner := by
  simp only [State.reachOwned, reached]
  cases slot : s.slot i with
  | none => rfl
  | some o => exact if_neg (foreign o slot)

theorem State.reachOwned_own {i : ObjSlot} {o : ObjRecord} (reached : s.reach l handle = .ok i) (slot : s.slot i = some o)
    (owner : o.owner = l) : s.reachOwned l handle = .ok (i, o) := by
  obtain ⟨le, resolved⟩ := State.reach_eq_ok.mp reached
  exact State.reachOwned_eq_ok.mpr ⟨le, resolved, slot, owner⟩

end

/-! ## The requests that name a handle, by their rows -/

theorem RequestRow.formKnown_setCursor {f : List Byte} :
    RequestRow.objectTextSetCursor.formKnown f = true ↔ u8At f 1 = 0 := by
  simp [RequestRow.formKnown]

theorem RequestRow.formKnown_append {f : List Byte} :
    RequestRow.objectTextAppend.formKnown f = true ↔ 3 + u8At f 2 ≤ f.length := by
  simp [RequestRow.formKnown]

/-- The effect of a row that names a handle. -/
def RequestRow.objectAct (row : RequestRow) (l : Link) (r : Request) (s : State) : State × Answer :=
  match row with
  | .objectPut => actObjectPut l r s
  | .objectMove => actObjectMove l r s
  | .objectStyle => actObjectStyle l r s
  | .objectTextSetCursor => actTextSetCursor l r s
  | .objectTextAppend => actTextAppend l r s
  | .objectRemove => actObjectRemove l r s
  | _ => (s, .done)

theorem exec_objectAct {row : RequestRow} (h : row.namesHandle = true) (l : Link) (s : State) :
    exec (row.command l) s = whileRunning s (answering row l (row.objectAct l)) := by
  cases row with
  | objectPut | objectMove | objectStyle | objectTextSetCursor | objectTextAppend | objectRemove => rfl
  | _ => cases h

section
variable {s : State} {l : Link} {r : Request}

/-! ## An OBJECT_PUT -/

section
variable {k : ObjKind} (kind : ObjKind.ofCode (u8At r.fields 1) = some k) (long : k.putLength ≤ r.fields.length)
include kind long

theorem actObjectPut_unreached {e : ResultCode} (unreached : s.reach l (u8At r.fields 0) = .error e) :
    actObjectPut l r s = (s, .refuse e) := by
  simp only [actObjectPut, kind, unreached]
  exact if_neg (by omega)

variable {i : ObjSlot} (reached : s.reach l (u8At r.fields 0) = .ok i)
include reached

theorem actObjectPut_foreign {o : ObjRecord} (slot : s.slot i = some o) (foreign : o.owner ≠ l) :
    actObjectPut l r s = (s, .refuse .notOwner) := by
  simp only [actObjectPut, kind, reached]
  rw [if_neg (by omega), if_pos (foreign_iff.mpr ⟨o, slot, foreign⟩)]

theorem actObjectPut_unknown (own : ∀ o, s.slot i = some o → o.owner = l)
    (unknown : RequestRow.objectPut.valuesKnown r.fields = false) : actObjectPut l r s = (s, .refuse .malformed) := by
  have free := mt foreign_iff.mp fun ⟨x, slot, foreign⟩ => foreign (own x slot)
  simp only [actObjectPut, kind, reached, (recordOf_eq_none kind).mpr unknown]
  rw [if_neg (by omega), if_neg free]

end

/-! ## Every row -/

variable {row : RequestRow} (names : row.namesHandle = true)
include names

/-- R84 check 1 but for the handle. -/
theorem RequestRow.objectAct_malformed (unknown : row.formKnown r.fields = false) :
    row.objectAct l r s = (s, .refuse .malformed) := by
  have unknown := Bool.eq_false_iff.mp unknown
  cases row with
  | objectPut =>
    unfold RequestRow.objectAct actObjectPut
    dsimp only
    split
    · rfl
    · rename_i k kind
      exact if_pos (by by_contra long; exact unknown (RequestRow.formKnown_objectPut.mpr ⟨k, kind, by omega⟩))
  | objectTextSetCursor => exact if_pos (mt RequestRow.formKnown_setCursor.mpr unknown)
  | objectTextAppend => exact if_pos (Nat.not_le.mp (mt RequestRow.formKnown_append.mpr unknown))
  | objectMove | objectStyle | objectRemove => exact absurd rfl unknown
  | _ => cases names

variable (form : row.formKnown r.fields = true)
include form

/-- R84 checks 1 to 3 of the requests on an owned slot. -/
theorem RequestRow.objectAct_unowned {e : ResultCode} (other : row ≠ .objectPut)
    (unowned : s.reachOwned l (u8At r.fields 0) = .error e) : row.objectAct l r s = (s, .refuse e) := by
  cases row with
  | objectPut => exact absurd rfl other
  | objectMove => simp only [RequestRow.objectAct, actObjectMove, unowned]
  | objectStyle => simp only [RequestRow.objectAct, actObjectStyle, unowned]
  | objectTextSetCursor =>
    simp only [RequestRow.objectAct, actTextSetCursor, unowned]
    exact if_neg (not_not.mpr (RequestRow.formKnown_setCursor.mp form))
  | objectTextAppend =>
    simp only [RequestRow.objectAct, actTextAppend, unowned]
    exact if_neg (Nat.not_lt.mpr (RequestRow.formKnown_append.mp form))
  | objectRemove => simp only [RequestRow.objectAct, actObjectRemove, unowned]
  | _ => cases names

/-- R84 checks 1 and 2: a handle that reaches no slot. -/
theorem RequestRow.objectAct_unreached {e : ResultCode} (unreached : s.reach l (u8At r.fields 0) = .error e) :
    row.objectAct l r s = (s, .refuse e) := by
  by_cases put : row = .objectPut
  · subst put
    obtain ⟨k, kind, long⟩ := RequestRow.formKnown_objectPut.mp form
    exact actObjectPut_unreached kind long unreached
  · exact RequestRow.objectAct_unowned names form put (State.reachOwned_of_unreached unreached)

omit names

variable {i : ObjSlot} {o : ObjRecord}

/-- R84 check 4: text is asked of another kind. -/
theorem RequestRow.objectAct_wrongKind (owned : s.reachOwned l (u8At r.fields 0) = .ok (i, o))
    (asks : row.asksText = true) (kind : o.shape.kind ≠ .text) : row.objectAct l r s = (s, .refuse .wrongKind) := by
  cases row with
  | objectTextSetCursor =>
    simp only [RequestRow.objectAct, actTextSetCursor, owned]
    rw [if_neg (not_not.mpr (RequestRow.formKnown_setCursor.mp form))]
    split
    · rename_i shape; exact absurd (congrArg Shape.kind shape) kind
    · rfl
  | objectTextAppend =>
    simp only [RequestRow.objectAct, actTextAppend, owned]
    rw [if_neg (Nat.not_lt.mpr (RequestRow.formKnown_append.mp form))]
    split
    · rename_i shape; exact absurd (congrArg Shape.kind shape) kind
    · rfl
  | _ => cases asks

/-- R84 check 5 of the requests on an owned slot. -/
theorem RequestRow.objectAct_unknown (owned : s.reachOwned l (u8At r.fields 0) = .ok (i, o)) (other : row ≠ .objectPut)
    (text : row.asksText = true → o.shape.kind = .text) (unknown : row.valuesKnown r.fields = false) :
    row.objectAct l r s = (s, .refuse .malformed) := by
  cases row with
  | objectPut => exact absurd rfl other
  | objectStyle =>
    have blink : Blink.ofCode (u8At r.fields 2) = none := by simpa [RequestRow.valuesKnown] using unknown
    simp only [RequestRow.objectAct, actObjectStyle, owned, blink]
  | objectTextAppend =>
    have many : 16 < u8At r.fields 2 := by simpa [RequestRow.valuesKnown] using unknown
    simp only [RequestRow.objectAct, actTextAppend, owned]
    rw [if_neg (Nat.not_lt.mpr (RequestRow.formKnown_append.mp form))]
    split
    · exact if_pos many
    · rename_i shape
      have kind := text rfl
      cases e : o.shape with
      | text p scale b => exact absurd e (shape p scale b)
      | _ => rw [e] at kind; cases kind
  | _ => cases unknown

end

/-- Settles O31: check by check, each row answers the code of the first check that fails and changes nothing. -/
theorem handleChecksRefuseInOrder : Obligations.HandleChecksRefuseInOrder := by
  intro s l row r names ready Refused first
  have refused : ∀ code, row.objectAct l r (s.taken l) = (s.taken l, .refuse code) → Refused code := fun code acts => by
    simp only [Refused, exec_objectAct names]
    exact ready.refused acts
  refine ⟨fun fails => refused _ ?_, fun ⟨form, handle⟩ unmapped => refused _ ?_, fun i ⟨form, handle⟩ resolved => ?_⟩
  · by_cases form : row.formKnown r.fields = true
    · exact RequestRow.objectAct_unreached names form (State.reach_high (by by_contra le; exact fails ⟨form, by omega⟩))
    · exact RequestRow.objectAct_malformed names (Bool.eq_false_iff.mpr form)
  · exact RequestRow.objectAct_unreached names form (State.reach_unmapped handle unmapped)
  · have reached : (s.taken l).reach l (u8At r.fields 0) = .ok i := State.reach_eq_ok.mpr ⟨handle, resolved⟩
    refine ⟨fun other foreign => refused _ ?_, fun put o slot foreign => refused _ ?_,
      fun o slot owner asks kind => refused _ ?_, fun own held text unknown => refused _ ?_⟩
    · exact RequestRow.objectAct_unowned names form other (State.reachOwned_foreign reached foreign)
    · subst put
      obtain ⟨k, kind, long⟩ := RequestRow.formKnown_objectPut.mp form
      exact actObjectPut_foreign kind long reached slot foreign
    · exact RequestRow.objectAct_wrongKind form (State.reachOwned_own reached slot owner) asks kind
    · by_cases put : row = .objectPut
      · subst put
        obtain ⟨k, kind, long⟩ := RequestRow.formKnown_objectPut.mp form
        exact actObjectPut_unknown kind long reached own unknown
      · obtain ⟨o, slot⟩ := Option.isSome_iff_exists.mp (held put)
        exact RequestRow.objectAct_unknown form (State.reachOwned_own reached slot (own o slot)) put (text o slot) unknown

end Sys2Proof.Machine
end

section
/-! SUPPORT. The arbiter's choice (R148, R149): the candidate, and the choice made by its five cases. -/

namespace Sys2Proof.Machine

/-! ## The candidate (R148) -/

/-- R148: cause i stands before cause j: by a higher priority, or by the same and no higher index. -/
def Body.Beats (b : Body) (i j : Cause) : Prop :=
  (b.cause j).priority < (b.cause i).priority ∨ ((b.cause j).priority = (b.cause i).priority ∧ i.val ≤ j.val)

theorem Body.Beats.refl (b : Body) (i : Cause) : b.Beats i i := .inr ⟨rfl, le_refl i.val⟩

theorem Body.Beats.trans {b : Body} {i j k : Cause} (h : b.Beats i j) (g : b.Beats j k) : b.Beats i k := by
  unfold Body.Beats at h g ⊢
  omega

theorem Body.Beats.antisymm {b : Body} {i j : Cause} (h : b.Beats i j) (g : b.Beats j i) : i = j := by
  unfold Body.Beats at h g
  exact Fin.ext (by omega)

theorem better_beats (b : Body) {j x : Cause} (h : j < x) :
    ∃ m, better b (some j) x = some m ∧ (m = j ∨ m = x) ∧ b.Beats m j ∧ b.Beats m x := by
  unfold better
  dsimp only
  split
  · exact ⟨x, rfl, .inr rfl, .inl ‹_›, .refl b x⟩
  · have lt : j.val < x.val := h
    exact ⟨j, rfl, .inl rfl, .refl b j, by unfold Body.Beats; omega⟩

/-- R148: of causes in ascending order the choice of the better stands before them all. -/
theorem foldl_better (b : Body) (q : List Cause) {j : Cause} (above : ∀ x ∈ q, j < x) (sorted : q.Pairwise (· < ·)) :
    ∃ m, q.foldl (better b) (some j) = some m ∧ m ∈ j :: q ∧ ∀ k ∈ j :: q, b.Beats m k := by
  induction q generalizing j with
  | nil => exact ⟨j, rfl, by simp, by simp [Body.Beats.refl]⟩
  | cons x q ih =>
    obtain ⟨after, sorted⟩ := List.pairwise_cons.mp sorted
    have lt : j < x := above x (by simp)
    obtain ⟨n, step, from_, beatsJ, beatsX⟩ := better_beats b lt
    obtain ⟨m, fold, mem, beats⟩ := ih (j := n) (fun y hy => by
      rcases from_ with rfl | rfl
      · exact above y (by simp [hy])
      · exact after y hy) sorted
    have beatsN := beats n (by simp)
    refine ⟨m, by rw [List.foldl_cons, step, fold], ?_, fun k hk => ?_⟩
    · rcases List.mem_cons.mp mem with rfl | mem
      · rcases from_ with rfl | rfl <;> simp
      · simp [mem]
    · rcases List.mem_cons.mp hk with rfl | hk
      · exact beatsN.trans beatsJ
      · rcases List.mem_cons.mp hk with rfl | hk
        · exact beatsN.trans beatsX
        · exact beats k (by simp [hk])

theorem State.Best.unique {s : State} {i j : Cause} (h : s.Best i) (g : s.Best j) : i = j :=
  Body.Beats.antisymm (h.2 j g.1) (g.2 i h.1)

theorem State.candidate_cases (s : State) :
    (s.candidate = none ∧ ∀ i, s.competes i = false) ∨ ∃ i, s.candidate = some i ∧ s.Best i := by
  have mem : ∀ i, i ∈ (List.finRange 12).filter s.competes ↔ s.competes i = true := fun i => by simp
  have sorted : ((List.finRange 12).filter s.competes).Pairwise (· < ·) := (List.pairwise_lt_finRange 12).filter _
  unfold State.candidate
  generalize (List.finRange 12).filter s.competes = q at mem sorted
  cases q with
  | nil => exact .inl ⟨rfl, fun i => Bool.eq_false_iff.mpr fun e => by simpa using (mem i).mpr e⟩
  | cons j q =>
    obtain ⟨above, sorted⟩ := List.pairwise_cons.mp sorted
    obtain ⟨m, fold, here, beats⟩ := foldl_better s.body q above sorted
    exact .inr ⟨m, fold, (mem m).mp here, fun k hk => beats k ((mem k).mpr hk)⟩

/-! ## The choice (R149) -/

/-- R149: a cause that enters service, and the causes that do not. -/
theorem State.serve_causeRec (s : State) (i j : Cause) :
    (s.serve i).causeRec j =
      if j = i ∧ (s.causeRec i).stage = .pending then
        { s.causeRec i with stage := .inService, timer := some (100 * (s.body.cause i).serveTime) }
      else s.causeRec j := by
  unfold State.serve
  by_cases pending : (s.causeRec i).stage = .pending
  · rw [if_pos pending]
    by_cases h : j = i
    · subst h; simp [pending, tenths]
    · simp [h, State.causeRec_setCauseRec_of_ne]
  · simp [pending]

theorem State.serve_shown (s : State) (i : Cause) :
    (s.serve i).arbiter.shownView = s.arbiter.shownView ∧ (s.serve i).arbiter.shownCause = s.arbiter.shownCause ∧
    (s.serve i).arbiter.showTimer = s.arbiter.showTimer := by
  unfold State.serve
  split <;> exact ⟨rfl, rfl, rfl⟩

/-- R149: a shown cause that stands competes. -/
theorem State.competes_of_shownStands {s : State} (h : s.shownStands = true) : ∃ i, s.competes i = true := by
  unfold State.shownStands at h
  split at h
  · cases h
  · rename_i i _
    simp only [Bool.and_eq_true] at h
    obtain ⟨⟨enabled, unmasked⟩, stands⟩ := h
    refine ⟨i, ?_⟩
    simp only [State.competes, enabled, unmasked, State.asking, Bool.true_and]
    split at stands
    · rename_i latched
      rw [if_pos latched, beq_iff_eq.mp stands]; rfl
    · rename_i level
      rw [if_neg level]; exact stands

/-- R149: the candidate takes the screen: the cause enters service where it was PENDING, and the others stay. -/
theorem State.choiceMade_of_taken {s w : State} {i : Cause} (taken : s.Taken i) (causes : w.causeRec = s.causeRec)
    (body : w.body = s.body) (cause : w.arbiter.shownCause = some i)
    (stay : (s.body.cause i).view = s.arbiter.shownView →
      w.arbiter.shownView = s.arbiter.shownView ∧ w.arbiter.showTimer = s.arbiter.showTimer)
    (change : (s.body.cause i).view ≠ s.arbiter.shownView → w.arbiter.shownView = (s.body.cause i).view ∧
      w.arbiter.showTimer = startTimer (100 * s.body.minShowTime)) : s.ChoiceMade (w.serve i) := by
  obtain ⟨view, shown, timer⟩ := w.serve_shown i
  have served := w.serve_causeRec i
  rw [causes, body] at served
  have none : ¬ ∀ j, s.competes j = false := fun none => by simpa [none i] using taken.1.1
  refine ⟨fun j best same => ?_, fun j took other => ?_, fun j best untaken => ?_, fun all => absurd all none,
    fun all => absurd all none, fun j took pending => ?_, fun j idle => ?_⟩
  · obtain rfl := taken.1.unique best
    rw [view, shown, timer]
    exact ⟨(stay same).1, cause, (stay same).2⟩
  · obtain rfl := taken.1.unique took.1
    rw [view, shown, timer]
    exact ⟨(change other).1, cause, (change other).2⟩
  · exact absurd (taken.1.unique best ▸ taken) untaken
  · obtain rfl := taken.1.unique took.1
    rw [served, if_pos ⟨rfl, pending⟩]
  · rw [served, if_neg]
    rintro ⟨rfl, pending⟩
    exact idle ⟨taken, pending⟩

/-- R149: with a candidate that does not take the screen nothing changes. -/
theorem State.choiceMade_of_untaken {s : State} {i : Cause} (best : s.Best i) (untaken : ¬ s.Taken i) :
    s.ChoiceMade s := by
  have never : ∀ j, ¬ s.Taken j := fun j took => untaken (best.unique took.1 ▸ took)
  have none : ¬ ∀ j, s.competes j = false := fun none => by simpa [none i] using best.1
  exact ⟨fun j hj same => absurd ⟨hj, .inl same⟩ (never j), fun j took => absurd took (never j),
    fun _ _ _ => ⟨rfl, rfl, rfl⟩, fun all => absurd all none, fun all => absurd all none,
    fun j took => absurd took (never j), fun _ _ => rfl⟩

/-- R149: with no candidate the default view comes back, and no cause is shown. -/
theorem State.choiceMade_of_none {s w : State} (none : ∀ i, s.competes i = false) (causes : w.causeRec = s.causeRec)
    (cause : w.arbiter.shownCause = Option.none)
    (rest : s.arbiter.shownView = s.body.defaultView →
      w.arbiter.shownView = s.arbiter.shownView ∧ w.arbiter.showTimer = s.arbiter.showTimer)
    (back : s.arbiter.shownView ≠ s.body.defaultView → w.arbiter.shownView = s.body.defaultView ∧
      w.arbiter.showTimer = startTimer (100 * s.body.minShowTime)) : s.ChoiceMade w := by
  have never : ∀ j, ¬ s.Best j := fun j best => by simpa [none j] using best.1
  exact ⟨fun j best => absurd best (never j), fun j took => absurd took.1 (never j), fun j best => absurd best (never j),
    fun _ same => ⟨(rest same).1, cause, (rest same).2⟩, fun _ other => ⟨(back other).1, cause, (back other).2⟩,
    fun j took => absurd took.1 (never j), fun j _ => congrFun causes j⟩

/-- R149: the five cases. -/
theorem State.decideView_made (s : State) : s.ChoiceMade s.decideView := by
  unfold State.decideView
  rcases s.candidate_cases with ⟨none, idle⟩ | ⟨i, some, best⟩
  · simp only [none]
    split
    · rename_i same
      exact State.choiceMade_of_none idle rfl rfl (fun _ => ⟨rfl, rfl⟩) fun other => absurd same other
    · rename_i other
      rw [if_neg fun stands => by obtain ⟨i, competes⟩ := State.competes_of_shownStands stands; simp [idle i] at competes]
      exact State.choiceMade_of_none idle rfl rfl (fun same => absurd same other) fun _ => ⟨rfl, rfl⟩
  · simp only [some]
    split
    · rename_i same
      exact State.choiceMade_of_taken ⟨best, .inl same⟩ rfl rfl rfl (fun _ => ⟨rfl, rfl⟩) fun other => absurd same other
    · rename_i other
      split
      · rename_i free
        exact State.choiceMade_of_taken ⟨best, .inr free⟩ rfl rfl rfl (fun same => absurd same other) fun _ => ⟨rfl, rfl⟩
      · rename_i held
        exact State.choiceMade_of_untaken best fun took => took.2.elim other held

/-! ## The choice between other states -/

/-- A choice is between the settings, the vehicle state and the arbiter before it, and the arbiter after it. -/
theorem State.ChoiceMade.congr {s t u v : State} (h : s.ChoiceMade t) (body : u.body = s.body)
    (arbiter : u.arbiter = s.arbiter) (vehicle : u.vehicle = s.vehicle) (after : v.arbiter = t.arbiter) :
    u.ChoiceMade v := by
  have before : u.causeRec = s.causeRec := funext fun i => by rw [State.causeRec, arbiter]; rfl
  have causes : v.causeRec = t.causeRec := funext fun i => by rw [State.causeRec, after]; rfl
  have competes : u.competes = s.competes := funext fun i => by
    simp only [State.competes, State.masked, State.linkMasked, State.speedMasked, State.asking, body, before, vehicle]
  have best : u.Best = s.Best := funext fun i => by simp only [State.Best, competes, body]
  have taken : u.Taken = s.Taken := funext fun i => by simp only [State.Taken, best, body, arbiter]
  obtain ⟨stay, change, wait, rest, back, served, others⟩ := h
  refine ⟨?_, ?_, ?_, ?_, ?_, ?_, ?_⟩
  all_goals simp only [best, taken, competes, before, causes, body, arbiter, after]
  exacts [stay, change, wait, rest, back, served, others]

/-- R148: the arbiter's choice, and its notice (R151). -/
theorem State.choose_made (s : State) : s.ChoiceMade s.choose := by
  refine s.decideView_made.congr rfl rfl rfl ?_
  have noted := State.besideLinks_noteView s s.decideView
  exact (congrArg State.arbiter noted :)

/-- A choice leaves the mask sets. -/
theorem State.ChoiceMade.masks {s t : State} (h : s.ChoiceMade t) (i : Cause) :
    (t.causeRec i).masks = (s.causeRec i).masks := by
  by_cases served : s.Taken i ∧ (s.causeRec i).stage = .pending
  · rw [h.served i served.1 served.2]
  · rw [h.others i served]

end Sys2Proof.Machine
end

section
/-! The end of an output frame (R94, R154): O25; and the owner silence of a link (R97, R147, R185): O32. -/

namespace Sys2Proof.Machine

/-! ## The frame end (O25) -/

theorem State.endSlot_besideTable (s : State) (i : ObjSlot) : (s.endSlot i).besideTable = s.besideTable := by
  unfold State.endSlot State.noteExpiry
  dsimp only
  repeat' split
  all_goals rfl

theorem State.countDownTable_besideTable (s : State) : s.countDownTable.besideTable = s.besideTable :=
  State.foldl_fixes _ State.besideTable State.endSlot_besideTable _ _

/-- R96: the strip sets of the table. -/
def State.strips (s : State) : Vector (BitVec 32) 3 × Vector (BitVec 32) 3 := (s.table.lit, s.table.blink)

/-- R94: lifetimes are the objects' alone; the strip sets stay. -/
theorem State.endSlot_strips (s : State) (i : ObjSlot) : (s.endSlot i).strips = s.strips := by
  unfold State.endSlot State.noteExpiry
  dsimp only
  repeat' split
  all_goals rfl

theorem State.countDownTable_strips (s : State) : s.countDownTable.strips = s.strips :=
  State.foldl_fixes _ State.strips State.endSlot_strips _ _

theorem exec_outputFrameEnd {s : State} (h : s.phase = .running) :
    exec .outputFrameEnd s = .next s.countDownTable.closeFrame.settle := by
  show execOutputFrameEnd s = _
  rw [execOutputFrameEnd, h]
  exact whileRunning_running h _

theorem exec_outputFrameEnd_loading {s : State} (h : s.phase = .loading) :
    exec .outputFrameEnd s = .next s.closeFrame := by
  show execOutputFrameEnd s = _
  rw [execOutputFrameEnd, h]

/-- Settles O25: the slots count down one by one, and the generator and the frame are closed over them. -/
theorem frameEndCountsDown : Obligations.FrameEndCountsDown := by
  refine ⟨fun s running => ?_, fun s loading => exec_outputFrameEnd_loading loading⟩
  have next := exec_outputFrameEnd running
  have slot := s.countDownTable_slot
  have rest := s.countDownTable_besideTable
  obtain ⟨lit, blink⟩ := Prod.mk.inj s.countDownTable_strips
  generalize s.countDownTable = u at next slot rest lit blink
  refine ⟨_, next, fun i => (slot i).trans ?_, lit, blink, rfl, ?_, ?_⟩
  · cases s.slot i with
    | none => rfl
    | some o => exact countDown_some o
  · exact (congrArg (fun v : State => { v.generator with counter := v.generator.counter + 1 }) rest :)
  · exact (congrArg (fun v : State =>
      { v with links := s.links, table := s.table, frame := s.frame, generator := s.generator }) rest :)

/-! ## A controller through notices -/

/-- R182: a notice leaves the requests that wait, the owner silence timer and OBJECTS_PURGED. -/
theorem LinkCtl.pushNotice_keeps (c : LinkCtl) (m : OutMsg) :
    (c.pushNotice m).inbound = c.inbound ∧ (c.pushNotice m).ownerTimer = c.ownerTimer ∧
    (c.pushNotice m).flags.objectsPurged = c.flags.objectsPurged := by
  unfold LinkCtl.pushNotice
  repeat' split
  all_goals exact ⟨rfl, rfl, rfl⟩

theorem State.raise_ctl (s : State) (k : NoticeKind) (n : Nat) (f : List Byte) (l : Link) :
    ((s.raise k n f).ctl l).inbound = (s.ctl l).inbound ∧ ((s.raise k n f).ctl l).ownerTimer = (s.ctl l).ownerTimer ∧
    ((s.raise k n f).ctl l).flags.objectsPurged = (s.ctl l).flags.objectsPurged := by
  unfold State.raise State.ctl
  dsimp only
  split
  · simp only [Fin.getElem_fin, Vector.getElem_mapIdx]
    split
    · exact LinkCtl.pushNotice_keeps _ _
    · exact ⟨rfl, rfl, rfl⟩
  · exact ⟨rfl, rfl, rfl⟩

/-- R148, R151: the arbiter's choice raises a VIEW notice at most. -/
theorem State.choose_ctl (s : State) (l : Link) :
    (s.choose.ctl l).inbound = (s.ctl l).inbound ∧ (s.choose.ctl l).ownerTimer = (s.ctl l).ownerTimer ∧
    (s.choose.ctl l).flags.objectsPurged = (s.ctl l).flags.objectsPurged := by
  have decided : s.decideView.ctl l = s.ctl l := by rw [State.ctl, State.decideView_links]; rfl
  unfold State.choose State.noteView
  rw [← decided]
  split
  · exact ⟨rfl, rfl, rfl⟩
  · exact State.raise_ctl _ _ _ _ l

/-! ## The purge (R97) -/

/-- R97: whether a purge finds something to empty. -/
theorem ObjectTable.hasOf_iff (t : ObjectTable) (l : Link) :
    t.hasOf l = true ↔ (∃ i : ObjSlot, ∃ o, t.slots[i] = some o ∧ o.owner = l) ∨ t.lit[l.ix] ≠ 0 ∨ t.blink[l.ix] ≠ 0 := by
  have owns : t.ownedCount l ≠ 0 ↔ ∃ i : ObjSlot, ∃ o, t.slots[i] = some o ∧ o.owner = l := by
    rw [ObjectTable.ownedCount_eq, ← Nat.pos_iff_ne_zero, List.length_pos_iff_exists_mem]
    simp only [List.mem_filter, List.mem_finRange, true_and, ownedBy_iff]
  simp only [ObjectTable.hasOf, Bool.or_eq_true, bne_iff_ne, owns, or_assoc]

theorem State.purge_table (s : State) (l : Link) : (s.purge l).table = (s.table.purgeSlots l).setStrip l 0 0 := by
  unfold State.purge
  dsimp only
  split <;> rfl

theorem State.purge_besideTable (s : State) (l : Link) : (s.purge l).besideTable = s.besideTable := by
  unfold State.purge
  dsimp only
  split <;> rfl

/-- R97: OBJECTS_PURGED is set where something was purged. -/
theorem State.purge_ctl (s : State) (l : Link) :
    ((s.purge l).ctl l).inbound = (s.ctl l).inbound ∧ ((s.purge l).ctl l).ownerTimer = (s.ctl l).ownerTimer ∧
    ((s.purge l).ctl l).flags.objectsPurged = ((s.ctl l).flags.objectsPurged || s.table.hasOf l) := by
  unfold State.purge
  dsimp only
  split
  · rename_i found
    rw [State.setPurged, State.ctl_setCtl_self, found, Bool.or_true]
    exact ⟨rfl, rfl, rfl⟩
  · rename_i nothing
    rw [Bool.eq_false_iff.mpr nothing, Bool.or_false]
    exact ⟨rfl, rfl, rfl⟩

/-! ## Owner silence (O32) -/

/-- R185: the link's timer stopped and its objects purged, before its masks are cleared. -/
def State.silenced (s : State) (l : Link) : State := (s.onCtl l fun c => { c with ownerTimer := none }).purge l

theorem State.silenced_besideTable (s : State) (l : Link) : (s.silenced l).besideTable = s.besideTable :=
  State.purge_besideTable _ l

theorem State.silenced_table (s : State) (l : Link) : (s.silenced l).table = (s.table.purgeSlots l).setStrip l 0 0 :=
  State.purge_table _ l

theorem State.silenced_ctl (s : State) (l : Link) :
    ((s.silenced l).ctl l).inbound = (s.ctl l).inbound ∧ ((s.silenced l).ctl l).ownerTimer = none ∧
    ((s.silenced l).ctl l).flags.objectsPurged = ((s.ctl l).flags.objectsPurged || s.table.hasOf l) := by
  have purged := (s.onCtl l fun c => { c with ownerTimer := none }).purge_ctl l
  rw [State.onCtl, State.ctl_setCtl_self] at purged
  exact purged

theorem exec_ownerSilenceTimerExpiry {s : State} {l : Link} (running : s.phase = .running)
    (timer : (s.ctl l).ownerTimer ≠ none) :
    exec (.ownerSilenceTimerExpiry l) s = .next ((s.silenced l).clearMasks l).settle := by
  show whileRunning s (fun u => u.ownerExpiry l) = _
  rw [whileRunning_running running, State.ownerExpiry, if_neg timer, State.silenced]

theorem State.clearMasks_ctl (s : State) (l m : Link) :
    ((s.clearMasks l).ctl m).inbound = (s.ctl m).inbound ∧ ((s.clearMasks l).ctl m).ownerTimer = (s.ctl m).ownerTimer ∧
    ((s.clearMasks l).ctl m).flags.objectsPurged = (s.ctl m).flags.objectsPurged :=
  State.choose_ctl _ m

/-- The mask sets that are left without a link. -/
def State.unmasked (s : State) (l : Link) (i : Cause) : CauseRec :=
  { s.causeRec i with masks := (s.causeRec i).masks &&& ~~~(linkBit l) }

theorem State.withCauses_causeRec (s : State) (f : Cause → CauseRec) (i : Cause) : (s.withCauses f).causeRec i = f i := by
  simp [State.withCauses, State.causeRec]

theorem State.mapMasks_arbiter (s : State) (l : Link) :
    (s.mapMasks fun _ m => m &&& ~~~(linkBit l)).arbiter = (s.withCauses (s.unmasked l)).arbiter := by
  have causes : (s.arbiter.causes.mapIdx fun _ r => { r with masks := r.masks &&& ~~~(linkBit l) }) =
      Vector.ofFn (s.unmasked l) := by
    refine Vector.ext fun i hi => ?_
    rw [Vector.getElem_mapIdx, Vector.getElem_ofFn]
    rfl
  exact congrArg (fun c => { s.arbiter with causes := c }) causes

/-- R147: the arbiter's choice under the masks that are left. -/
theorem State.clearMasks_made (s : State) (l : Link) : (s.withCauses (s.unmasked l)).ChoiceMade (s.clearMasks l) := by
  have made := (s.mapMasks fun _ m => m &&& ~~~(linkBit l)).choose_made
  exact made.congr rfl (s.mapMasks_arbiter l).symm rfl rfl

/-- R185: the purge reaches nothing that the arbiter's choice is made by. -/
theorem State.silenced_made (s : State) (l : Link) :
    (s.withCauses (s.unmasked l)).ChoiceMade ((s.silenced l).clearMasks l) := by
  have made := (s.silenced l).clearMasks_made l
  obtain ⟨-, -, -, -, -, vehicle, -, -, -, arbiter, -, -, settings, -⟩ :=
    State.besideTable_fields (s.silenced_besideTable l)
  refine made.congr (congrArg SettingsBlock.working settings.symm) ?_ vehicle.symm rfl
  have causes : (s.silenced l).unmasked l = s.unmasked l := funext fun i => by
    simp only [State.unmasked, State.causeRec, arbiter]
  rw [causes, State.withCauses, State.withCauses, arbiter]

/-- Settles O32: the timer stops, the table purges, the masks are cleared and the arbiter chooses. -/
theorem ownerSilencePurgesTheLink : Obligations.OwnerSilencePurgesTheLink := by
  intro s l running timer
  have next := exec_ownerSilenceTimerExpiry running timer
  have made := s.silenced_made l
  have rest := (s.silenced l).besideViews_clearMasks l
  have beside := s.silenced_besideTable l
  have table : ((s.silenced l).clearMasks l).table = (s.table.purgeSlots l).setStrip l 0 0 :=
    (congrArg State.table rest :).trans (s.silenced_table l)
  obtain ⟨inbound, ownerTimer, purged⟩ := (s.silenced l).clearMasks_ctl l l
  obtain ⟨waiting, stopped, flag⟩ := s.silenced_ctl l
  generalize s.silenced l = u at *
  generalize u.clearMasks l = v at *
  obtain ⟨settledInbound, -, settledFlags, settledTimer, -⟩ := v.settle_ctl l
  obtain ⟨lit, blink⟩ := (s.table.purgeSlots l).setStrip_self l 0 0
  refine ⟨_, next, fun i => ?_, ?_, ?_, fun m other => ?_, ?_, ?_, ?_, fun i => ?_, made.congr rfl rfl rfl rfl, ?_⟩
  · show v.table.slots[i] = _
    rw [table]
    exact (s.table.purgeSlots_slot l i).trans (purged_slot_eq l (s.slot i))
  · show v.table.lit[l.ix] = 0
    rw [table, lit]
  · show v.table.blink[l.ix] = 0
    rw [table, blink]
  · show v.table.lit[m.ix] = _ ∧ v.table.blink[m.ix] = _
    rw [table]
    exact (s.table.purgeSlots l).setStrip_of_ne 0 0 other
  · rw [settledTimer, ownerTimer, stopped]
  · rw [settledInbound, inbound, waiting]
  · rw [settledFlags, purged, flag, Bool.or_eq_true, ObjectTable.hasOf_iff]
    rfl
  · exact (made.masks i).trans (congrArg CauseRec.masks (s.withCauses_causeRec _ i))
  · exact (congrArg (fun w : State => { w with links := s.links, table := s.table, arbiter := s.arbiter }) rest :).trans
      (congrArg (fun w : State => { w with links := s.links, table := s.table, arbiter := s.arbiter }) beside :)

end Sys2Proof.Machine
end

section
/-! SUPPORT. Which commands leave the vehicle state, the track table and the settings block as they are: all but the vehicle's, the
tracks', the settings block's and the resets'. -/

namespace Sys2Proof.Machine

/-! ## The part of the state that the tracks and the settings are -/

/-- The vehicle state, the track table and the settings block. -/
def State.ledger (s : State) : Vehicle × Tracks × SettingsBlock := (s.vehicle, s.tracks, s.settings)

theorem State.ledger_of_besideZones {s t : State} (h : t.besideZones = s.besideZones) : t.ledger = s.ledger :=
  (congrArg State.ledger h :)

theorem State.ledger_of_besideViews {s t : State} (h : t.besideViews = s.besideViews) : t.ledger = s.ledger :=
  (congrArg State.ledger h :)

theorem State.ledger_of_besideCameras {s t : State} (h : t.besideCameras = s.besideCameras) : t.ledger = s.ledger :=
  (congrArg State.ledger h :)

theorem State.ledger_of_besideTable {s t : State} (h : t.besideTable = s.besideTable) : t.ledger = s.ledger :=
  (congrArg State.ledger h :)

theorem State.ledger_unless {s t : State} {P : Prop} [Decidable P] (h : t.ledger = s.ledger) :
    (if P then s else t).ledger = s.ledger := by
  split
  · rfl
  · exact h

/-! ## Through the blocks -/

theorem State.ledger_startFrame (s : State) : s.startFrame.ledger = s.ledger := by
  have opened := State.ledger_of_besideCameras s.besideCameras_openCameras
  unfold State.startFrame
  generalize s.openCameras = u at opened
  exact opened

theorem State.ledger_closeFrame (s : State) : s.countDownTable.closeFrame.ledger = s.ledger := by
  have counted := State.ledger_of_besideTable s.countDownTable_besideTable
  generalize s.countDownTable = u at counted
  exact counted

theorem State.ledger_canFrame (s : State) (l : Link) (ident : BitVec 11) (payload : List Byte) :
    (s.canFrame l ident payload).ledger = s.ledger := by
  unfold State.canFrame
  repeat' split
  all_goals rfl

theorem State.ledger_completeExchange (s : State) (half : List Byte) : (s.completeExchange half).ledger = s.ledger := by
  unfold State.completeExchange
  dsimp only
  repeat' split
  all_goals rfl

theorem State.ledger_ownerExpiry (s : State) (l : Link) : (s.ownerExpiry l).ledger = s.ledger := by
  unfold State.ownerExpiry
  split
  · rfl
  · exact (State.ledger_of_besideViews (State.besideViews_clearMasks _ l)).trans
      (State.ledger_of_besideTable (s.silenced_besideTable l))

theorem State.ledger_dipExpiry (s : State) : s.dipExpiry.ledger = s.ledger := by
  unfold State.dipExpiry
  split <;> rfl

theorem State.ledger_recoveryExpiry (s : State) : s.recoveryExpiry.ledger = s.ledger := by
  unfold State.recoveryExpiry
  split <;> rfl

theorem State.ledger_takeHead {s t : State} {row : RequestRow} {l : Link} {r : Request}
    (h : s.takeHead row l = some (r, t)) : t.ledger = s.ledger := by
  obtain ⟨rest, -, -, -, rfl⟩ := State.takeHead_eq h
  rfl

theorem State.ledger_answerUnknown (l : Link) (s : State) : (s.answerUnknown l).ledger = s.ledger := by
  unfold State.answerUnknown
  split
  · rfl
  · rename_i taken
    exact (State.ledger_takeHead taken :)

/-! ## Through the requests -/

section
variable (l : Link) (r : Request) (s : State)

/-- Requests of the overlay object table. -/
theorem State.ledger_objectRequests :
    (actObjectPut l r s).1.ledger = s.ledger ∧ (actObjectMove l r s).1.ledger = s.ledger ∧
    (actObjectStyle l r s).1.ledger = s.ledger ∧ (actTextSetCursor l r s).1.ledger = s.ledger ∧
    (actTextAppend l r s).1.ledger = s.ledger ∧ (actObjectRemove l r s).1.ledger = s.ledger := by
  unfold actObjectPut actObjectMove actObjectStyle actTextSetCursor actTextAppend actObjectRemove
  and_intros
  all_goals try dsimp only
  all_goals repeat' split
  all_goals rfl

theorem State.ledger_zoneAck : (actZoneAck l r s).1.ledger = s.ledger := by
  unfold actZoneAck
  dsimp only
  repeat' split
  on_goal 3 => exact State.ledger_of_besideZones (s.besideZones_takeZone _ _)
  all_goals rfl

theorem State.ledger_viewRequest : (actViewRequest r s).1.ledger = s.ledger := by
  unfold actViewRequest
  dsimp only
  repeat' split
  on_goal 1 =>
    exact State.ledger_of_besideViews ((State.besideViews_choose _).trans (s.besideViews_raiseCause _))
  all_goals rfl

theorem State.ledger_viewMaskSet : (actViewMaskSet l r s).1.ledger = s.ledger := by
  unfold actViewMaskSet
  split
  · exact State.ledger_of_besideViews (s.besideViews_maskCauses l _)
  · rfl

/-- Requests that read. -/
theorem State.ledger_readings :
    (actStatusQuery l r s).1.ledger = s.ledger ∧ (actSettingsRead r s).1.ledger = s.ledger := by
  unfold actStatusQuery actSettingsRead
  and_intros
  all_goals try dsimp only
  all_goals repeat' split
  all_goals rfl

end

/-! ## The commands -/

/-- Whether a command is of another block than the vehicle state block, the track table and the settings block, and no reset. -/
def keepsLedger : Instr → Bool
  | .vehicleState _ | .bodyState _ | .indicatorOffDelayExpiry | .chassisSilenceTimerExpiry | .bodySilenceTimerExpiry => false
  | .trackUpdate _ | .trackExpiry _ | .trackDrop _ => false
  | .serviceEnter _ | .serviceExit _ | .settingsWrite _ | .settingsCommit _ => false
  | .commitWriteComplete | .commitWriteFailed | .commitLimitExpiry => false
  | .coldReset _ | .settingsLoadEnd | .settingsLoadLimitExpiry | .settingsLoadNotAcknowledged => false
  | .resetN | .reset _ | .supplyStop => false
  | _ => true

section
variable {s t : State}

theorem State.ledger_block {f : State → State} (keeps : ∀ u : State, (f u).ledger = u.ledger)
    (next : whileRunning s f = .next t) : t.ledger = s.ledger :=
  whileRunning_fixes State.ledger (fun _ => rfl) f keeps next

theorem State.ledger_camera {f : State → State} (beside : ∀ u : State, (f u).besideCameras = u.besideCameras)
    (next : whileRunning s f = .next t) : t.ledger = s.ledger :=
  State.ledger_block (fun u => State.ledger_of_besideCameras (beside u)) next

theorem State.ledger_request {row : RequestRow} {l : Link} {act : Request → State → State × Answer}
    (next : whileRunning s (answering row l act) = .next t) (keeps : ∀ r u, (act r u).1.ledger = u.ledger) :
    t.ledger = s.ledger :=
  State.ledger_block (answering_fixes State.ledger (fun _ _ _ => rfl) row l act keeps) next

theorem State.ledger_link {l : Link} {f : LinkCtl → LinkCtl} (next : (whileRunning s fun u => u.onCtl l f) = .next t) :
    t.ledger = s.ledger :=
  State.ledger_block (f := fun u => u.onCtl l f) (fun _ => rfl) next

theorem State.ledger_powered {f : State → State} (keeps : ∀ u : State, (f u).ledger = u.ledger)
    (next : whilePowered s f = .next t) : t.ledger = s.ledger := by
  unfold whilePowered at next
  split at next
  all_goals obtain rfl := Host.Outcome.next.inj next
  · rfl
  · exact keeps s
  · exact keeps s

theorem State.ledger_supply {f : Supply → Supply} (next : (whilePowered s fun u => u.setSupply (f u.supply)) = .next t) :
    t.ledger = s.ledger :=
  State.ledger_powered (f := fun u => u.setSupply (f u.supply)) (fun _ => rfl) next

/-- A command whose answer is written out. -/
theorem State.ledger_same {u : State} (next : (.next u : Host.Outcome State Fault Refusal) = .next t)
    (same : u.ledger = s.ledger) : t.ledger = s.ledger :=
  Host.Outcome.next.inj next ▸ same

/-- The commands of the other blocks leave vehicle state, track table and settings block. -/
theorem exec_ledger {i : Instr} (keeps : keepsLedger i = true) (next : exec i s = .next t) : t.ledger = s.ledger := by
  cases i with
  | frameStartRecord c packet =>
    change execFrameStartRecord c packet s = .next t at next
    unfold execFrameStartRecord at next
    split at next
    · split at next
      · cases next
      · exact State.ledger_camera (fun u => by simp) next
    · exact State.ledger_same next rfl
  | lineRecord c packet =>
    change execLineRecord c packet s = .next t at next
    unfold execLineRecord at next
    split at next
    · exact State.ledger_camera (fun u => u.besideCameras_rowArrives c _) next
    · exact State.ledger_same next rfl
  | blankingRecord c packet =>
    change execBlankingRecord c packet s = .next t at next
    unfold execBlankingRecord at next
    split at next
    · exact State.ledger_camera (fun u => u.besideCameras_rowArrives c _) next
    · exact State.ledger_same next rfl
  | silenceTimerExpiry c => exact State.ledger_camera (fun u => u.besideCameras_fallSilent c) next
  | returnTimerExpiry c =>
    exact State.ledger_block
      (fun u => State.ledger_unless (State.ledger_of_besideCameras (u.besideCameras_sendWord c))) next
  | errorWindowEnd c => exact State.ledger_camera (fun u => u.besideCameras_windowEnd c) next
  | concealmentCopyFinish c =>
    exact State.ledger_camera (f := fun u => State.noteCamera c u (u.finishCopy c)) (fun u => by simp) next
  | stopTimerExpiry c =>
    exact State.ledger_camera (f := fun u => u.setReg c (u.reg c).stopExpiry) (fun _ => rfl) next
  | outputFrameStart =>
    change execOutputFrameStart s = .next t at next
    unfold execOutputFrameStart at next
    split at next
    · exact State.ledger_block State.ledger_startFrame next
    · exact State.ledger_same next rfl
    · exact State.ledger_same next rfl
  | outputFrameEnd =>
    change execOutputFrameEnd s = .next t at next
    unfold execOutputFrameEnd at next
    split at next
    · exact State.ledger_block State.ledger_closeFrame next
    · exact State.ledger_same next rfl
    · exact State.ledger_same next rfl
  | objectPut l | objectMove l | objectStyle l | objectTextSetCursor l | objectTextAppend l | objectRemove l =>
    refine State.ledger_request next fun r u => ?_
    have := State.ledger_objectRequests l r u
    simp only [this]
  | objectRemoveAll l | stripSet l => exact State.ledger_request next fun _ _ => rfl
  | zoneAck l => exact State.ledger_request next (State.ledger_zoneAck l)
  | viewRequest l => exact State.ledger_request next State.ledger_viewRequest
  | viewMaskSet l => exact State.ledger_request next (State.ledger_viewMaskSet l)
  | viewMaskClear l =>
    exact State.ledger_request next fun _ u => State.ledger_of_besideViews (u.besideViews_unmaskCauses l _)
  | statusQuery l => exact State.ledger_request next fun r u => (State.ledger_readings l r u).1
  | settingsRead l => exact State.ledger_request next fun r u => (State.ledger_readings l r u).2
  | ownerSilenceTimerExpiry l => exact State.ledger_block (fun u => u.ledger_ownerExpiry l) next
  | holdTimerExpiry z =>
    exact State.ledger_block (fun u => State.ledger_of_besideZones (u.besideZones_holdExpiry z)) next
  | dwellPeriodEnd z =>
    exact State.ledger_block (fun u => State.ledger_of_besideZones (u.besideZones_dwellEnd z)) next
  | segmentTimerExpiry =>
    exact State.ledger_block (f := fun u => { u with alert := u.alert.segmentExpiry u.body }) (fun _ => rfl) next
  | causeTimerExpiry i =>
    exact State.ledger_block (fun u => State.ledger_of_besideViews (u.besideViews_causeExpiry i)) next
  | showTimerExpiry =>
    exact State.ledger_block (fun u => State.ledger_of_besideViews u.besideViews_showExpiry) next
  | canRequestFrame p ident payload => exact State.ledger_block (fun u => u.ledger_canFrame p.link ident payload) next
  | spiExchangeStart =>
    change execSpiExchangeStart s = .next t at next
    unfold execSpiExchangeStart at next
    split at next
    · exact State.ledger_link next
    · exact State.ledger_same next rfl
    · exact State.ledger_same next rfl
  | spiExchange half =>
    change execSpiExchange half s = .next t at next
    unfold execSpiExchange at next
    split at next
    · refine State.ledger_block (fun u => ?_) next
      split
      · rfl
      · exact u.ledger_completeExchange half
    · exact State.ledger_same next rfl
    · exact State.ledger_same next rfl
  | spiExchangeCutShort =>
    change execSpiExchangeCutShort s = .next t at next
    unfold execSpiExchangeCutShort at next
    split at next
    · exact State.ledger_block (f := State.cutExchange) (fun _ => rfl) next
    · exact State.ledger_same next rfl
    · exact State.ledger_same next rfl
  | canFrameAcknowledged p | canArbitrationLoss p | canBusError p | canBusOff p | canBusOffRecovery p =>
    exact State.ledger_link next
  | unknownKind l => exact State.ledger_block (State.ledger_answerUnknown l) next
  | supplyFallBelow18V | supplyRiseTo18V | supplyRiseTo20V | supplyFallBelow20V => exact State.ledger_supply next
  | dipTimerExpiry => exact State.ledger_powered State.ledger_dipExpiry next
  | recoveryTimerExpiry => exact State.ledger_powered State.ledger_recoveryExpiry next
  | resetNRise => exact State.ledger_same next rfl
  | _ => cases keeps

end

end Sys2Proof.Machine
end

section
/-! SUPPORT. The track table (6.2): its places after one is set, the entry of a link and id, and what a TRACK_UPDATE can do. -/

namespace Sys2Proof.Machine

/-! ## Places -/

/-- A table with one place set. -/
def Tracks.withPlace (t : Tracks) (p : Place) (k : Option Track) : Tracks := { t with places := t.places.set p k }

@[simp] theorem Tracks.withPlace_self (t : Tracks) (p : Place) (k : Option Track) : (t.withPlace p k).places[p] = k := by
  simp [Tracks.withPlace]

theorem Tracks.withPlace_of_ne (t : Tracks) {p q : Place} (k : Option Track) (h : q ≠ p) :
    (t.withPlace p k).places[q] = t.places[q] := by
  have other : p.val ≠ q.val := fun e => h (Fin.ext e).symm
  simp [Tracks.withPlace, other]

@[simp] theorem Tracks.withPlace_contacts (t : Tracks) (p : Place) (k : Option Track) :
    (t.withPlace p k).contacts = t.contacts := rfl

/-- R118: the table is set and the zones are recounted over it. -/
theorem State.setPlace_eq (s : State) (p : Place) (k : Option Track) :
    s.setPlace p k = State.recountZones { s with tracks := s.tracks.withPlace p k } := rfl

theorem State.tracks_of_besideZones {s t : State} (h : t.besideZones = s.besideZones) : t.tracks = s.tracks :=
  (congrArg State.tracks h :)

theorem State.setPlace_tracks (s : State) (p : Place) (k : Option Track) : (s.setPlace p k).tracks = s.tracks.withPlace p k := by
  rw [State.setPlace_eq, State.tracks_of_besideZones (State.besideZones_recountZones _)]

/-! ## The entry of a source link and id (R112) -/

/-- R112: an entry is that of a source link and id. -/
def Track.Is (e : Track) (l : Link) (id : Nat) : Prop := e.source = l ∧ e.id = id

theorem Tracks.find_some {t : Tracks} {l : Link} {id : Nat} {p : Place} (h : t.find l id = some p) :
    ∃ e, t.places[p] = some e ∧ e.Is l id := by
  have found := List.find?_some h
  split at found
  · rename_i e place
    simp only [Bool.and_eq_true, beq_iff_eq] at found
    exact ⟨e, place, found⟩
  · cases found

theorem Tracks.find_none {t : Tracks} {l : Link} {id : Nat} :
    t.find l id = none ↔ ∀ (p : Place) e, t.places[p] = some e → ¬ e.Is l id := by
  simp only [Tracks.find, List.find?_eq_none, List.mem_finRange, true_implies]
  refine forall_congr' fun p => ?_
  cases t.places[p] <;> simp [Track.Is]

/-- R112: in a table without doubles the entry of a link and id is found in its place. -/
theorem Tracks.Ok.find_eq {t : Tracks} (h : t.Ok) {l : Link} {id : Nat} {p : Place} {e : Track} (place : t.places[p] = some e)
    (is : e.Is l id) : t.find l id = some p := by
  obtain ⟨source, number⟩ := is
  cases found : t.find l id with
  | none => exact absurd ⟨source, number⟩ (Tracks.find_none.mp found p e place)
  | some q =>
    obtain ⟨k, at_q, sourceQ, numberQ⟩ := Tracks.find_some found
    rw [h.one q p k e at_q place (sourceQ.trans source.symm) (numberQ.trans number.symm)]

/-! ## TRACK_UPDATE (R112 to R114) -/

/-- R112: the track that the fields of a TRACK_UPDATE give. -/
def trackOf (l : Link) (cls : TrackClass) (f : List Byte) : Track :=
  { source := l, id := u8At f 0, cls := cls, x := clampX (s16At f 2), y := clampY (s16At f 4)
    confidence := min (u8At f 10) 100, age := 0 }

/-- R112: an entry updated by a report of its own link and id is that report. -/
theorem Track.update_eq {e k : Track} (is : e.Is k.source k.id) (fresh : k.age = 0) : e.update k = k := by
  obtain ⟨source, id⟩ := is
  cases k
  simp_all [Track.update]

section
variable {l : Link} {r : Request} {s : State}

theorem actTrackUpdate_malformed (h : TrackClass.ofCode (u8At r.fields 1) = none ∨ u8At r.fields 0 = 0) :
    actTrackUpdate l r s = (s, .refuse .malformed) := by
  unfold actTrackUpdate
  dsimp only
  split
  · rfl
  · rename_i known
    rw [if_pos (h.resolve_left fun none => by rw [none] at known; cases known)]

variable {cls : TrackClass} (known : TrackClass.ofCode (u8At r.fields 1) = some cls) (id : u8At r.fields 0 ≠ 0)
include known id

/-- R112: a known track is replaced in its place. -/
theorem actTrackUpdate_known {p : Place} (found : s.tracks.find l (u8At r.fields 0) = some p) :
    actTrackUpdate l r s = (s.setPlace p (some (trackOf l cls r.fields)), trackAnswer false (some p) none) := by
  obtain ⟨e, place, is⟩ := Tracks.find_some found
  have updated : e.update (trackOf l cls r.fields) = trackOf l cls r.fields := Track.update_eq is rfl
  simp only [actTrackUpdate, known, if_neg id, found, place, Option.map_some]
  rw [← updated]
  rfl

/-- R113: an unknown track asks for admission. -/
theorem actTrackUpdate_new (unknown : s.tracks.find l (u8At r.fields 0) = none) :
    actTrackUpdate l r s = s.takeNew (trackOf l cls r.fields) := by
  simp only [actTrackUpdate, known, if_neg id, unknown]
  rfl

end

/-- R113, R114: a track that asks for admission changes one place or nothing. -/
theorem State.takeNew_cases (s : State) (k : Track) : (s.takeNew k).1 = s ∨ ∃ p, (s.takeNew k).1 = s.setPlace p (some k) := by
  unfold State.takeNew
  split
  · exact .inl rfl
  split
  · rename_i p _
    dsimp only
    exact .inr ⟨p, rfl⟩
  split
  · rename_i p _ _
    split
    · dsimp only
      exact .inr ⟨p, rfl⟩
    · exact .inl rfl
  · exact .inl rfl

/-- R112 to R114: a TRACK_UPDATE changes nothing, or puts its track in one place, which is that of the known track of its link and
id where there is one. -/
theorem actTrackUpdate_cases (l : Link) (r : Request) (s : State) :
    (actTrackUpdate l r s).1 = s ∨
      ∃ p cls, u8At r.fields 0 ≠ 0 ∧ (s.tracks.find l (u8At r.fields 0)).getD p = p ∧
        (actTrackUpdate l r s).1 = s.setPlace p (some (trackOf l cls r.fields)) := by
  cases known : TrackClass.ofCode (u8At r.fields 1) with
  | none => exact .inl (by rw [actTrackUpdate_malformed (.inl known)])
  | some cls =>
    by_cases id : u8At r.fields 0 = 0
    · exact .inl (by rw [actTrackUpdate_malformed (.inr id)])
    · cases found : s.tracks.find l (u8At r.fields 0) with
      | some p => exact .inr ⟨p, cls, id, rfl, by rw [actTrackUpdate_known known id found]⟩
      | none =>
        rw [actTrackUpdate_new known id found]
        exact (s.takeNew_cases _).imp_right fun ⟨p, placed⟩ => ⟨p, cls, id, rfl, placed⟩

/-- R116: a TRACK_DROP changes nothing, or empties one place. -/
theorem actTrackDrop_cases (l : Link) (r : Request) (s : State) :
    (actTrackDrop l r s).1 = s ∨ ∃ p, (actTrackDrop l r s).1 = s.setPlace p none := by
  unfold actTrackDrop
  split
  · rename_i p _
    dsimp only
    exact .inr ⟨p, rfl⟩
  · exact .inl rfl

end Sys2Proof.Machine
end

section
/-! Every step keeps the tracks distinct and in their ranges (R112, Table 6-3): O10. -/

namespace Sys2Proof.Machine

/-! ## The table -/

theorem Tracks.Ok.of_eq {t u : Tracks} (h : t.Ok) (e : u = t) : u.Ok := e ▸ h

theorem Tracks.Ok.of_places {t u : Tracks} (h : t.Ok) (e : u.places = t.places) : u.Ok := by
  obtain ⟨one, ranges⟩ := h
  exact ⟨e ▸ one, e ▸ ranges⟩

/-- R113: an empty table. -/
theorem Tracks.ok_of_empty {t : Tracks} (h : ∀ p : Place, t.places[p] = none) : t.Ok :=
  ⟨fun p q a b ha => by simp [h p] at ha, fun p a ha => by simp [h p] at ha⟩

theorem Tracks.atReset_ok : Tracks.atReset.Ok := Tracks.ok_of_empty fun p => by simp [Tracks.atReset]

/-- R115, R116: a place is emptied. -/
theorem Tracks.Ok.emptied {t : Tracks} (h : t.Ok) (p : Place) : (t.withPlace p none).Ok := by
  have before : ∀ (q : Place) e, (t.withPlace p none).places[q] = some e → t.places[q] = some e := fun q e held => by
    by_cases hq : q = p
    · subst hq
      rw [Tracks.withPlace_self] at held
      cases held
    · rwa [t.withPlace_of_ne none hq] at held
  exact ⟨fun q q' a b ha hb => h.one q q' a b (before q a ha) (before q' b hb), fun q a ha => h.ranges q a (before q a ha)⟩

/-- R112 to R114: a track takes a place, and no other place holds one of its link and id. -/
theorem Tracks.Ok.placed {t : Tracks} (h : t.Ok) {p : Place} {k : Track} (ok : k.Ok)
    (alone : ∀ q, q ≠ p → ∀ e, t.places[q] = some e → ¬ e.Is k.source k.id) : (t.withPlace p (some k)).Ok := by
  have held : ∀ (q : Place) e, (t.withPlace p (some k)).places[q] = some e →
      (q = p ∧ e = k) ∨ (q ≠ p ∧ t.places[q] = some e) := fun q e there => by
    by_cases hq : q = p
    · subst hq
      rw [Tracks.withPlace_self] at there
      exact .inl ⟨rfl, (Option.some.inj there).symm⟩
    · exact .inr ⟨hq, by rwa [t.withPlace_of_ne _ hq] at there⟩
  refine ⟨fun q q' a b ha hb source id => ?_, fun q a ha => ?_⟩
  · rcases held q a ha with ⟨rfl, rfl⟩ | ⟨hq, ha⟩ <;> rcases held q' b hb with ⟨rfl, rfl⟩ | ⟨hq', hb⟩
    · rfl
    · exact absurd ⟨source.symm, id.symm⟩ (alone q' hq' b hb)
    · exact absurd ⟨source, id⟩ (alone q hq a ‹t.places[q] = some a›)
    · exact h.one q q' a b ha hb source id
  · rcases held q a ha with ⟨-, rfl⟩ | ⟨-, ha⟩
    · exact ok
    · exact h.ranges q a ha

/-- R115: one more millisecond of every entry. -/
theorem Tracks.tick_place (t : Tracks) (p : Place) : t.tick.places[p] = t.places[p].map Track.tick := by
  simp [Tracks.tick]

theorem Tracks.Ok.tick {t : Tracks} (h : t.Ok) : t.tick.Ok := by
  have before : ∀ (p : Place) a, t.tick.places[p] = some a → ∃ e, t.places[p] = some e ∧ e.tick = a := fun p a held => by
    rw [Tracks.tick_place] at held
    exact Option.map_eq_some_iff.mp held
  refine ⟨fun p q a b ha hb source id => ?_, fun p a ha => ?_⟩
  · obtain ⟨e, he, rfl⟩ := before p a ha
    obtain ⟨f, hf, rfl⟩ := before q b hb
    exact h.one p q e f he hf source id
  · obtain ⟨e, he, rfl⟩ := before p a ha
    obtain ⟨id, x, y, confidence, -⟩ := h.ranges p e he
    exact ⟨id, x, y, confidence, Nat.min_le_right _ _⟩

/-! ## The requests -/

/-- R60, R112: what a TRACK_UPDATE gives lies in its ranges. -/
theorem trackOf_ok (l : Link) (cls : TrackClass) {f : List Byte} (id : u8At f 0 ≠ 0) : (trackOf l cls f).Ok := by
  have byteRange : u8At f 0 < 256 := (byteAt f 0).isLt
  have clamped : ∀ lo hi x : Int, lo ≤ hi → lo ≤ clamp lo hi x ∧ clamp lo hi x ≤ hi := fun lo hi x _ => by
    unfold clamp; omega
  exact
    { id := ⟨Nat.one_le_iff_ne_zero.mpr id, Nat.le_of_lt_succ byteRange⟩
      x := clamped (-300) 2000 _ (by decide), y := clamped (-100) 1000 _ (by decide)
      confidence := Nat.min_le_right _ _, age := Nat.zero_le _ }

section
variable {s : State} (h : s.tracks.Ok)
include h

theorem State.actTrackUpdate_tracksOk (l : Link) (r : Request) : (actTrackUpdate l r s).1.tracks.Ok := by
  rcases actTrackUpdate_cases l r s with same | ⟨p, cls, id, place, placed⟩
  · rwa [same]
  · rw [placed, State.setPlace_tracks]
    refine h.placed (trackOf_ok l cls id) fun q other e held is => other ?_
    have found : s.tracks.find l (u8At r.fields 0) = some q := h.find_eq held is
    rwa [found] at place

theorem State.actTrackDrop_tracksOk (l : Link) (r : Request) : (actTrackDrop l r s).1.tracks.Ok := by
  rcases actTrackDrop_cases l r s with same | ⟨p, dropped⟩
  · rwa [same]
  · rw [dropped, State.setPlace_tracks]
    exact h.emptied p

theorem State.trackExpiry_tracksOk (p : Place) : (s.trackExpiry p).tracks.Ok := by
  unfold State.trackExpiry
  split
  · exact h
  · rw [State.setPlace_tracks]
    exact h.emptied p

end

/-! ## The blocks that leave the tracks -/

theorem State.settingsStep_tracks (b s : State) : (State.settingsStep b s).tracks = s.tracks :=
  State.tracks_of_besideZones (State.besideZones_settingsStep b s)

theorem State.askServiceEnd_tracks (s : State) : s.askServiceEnd.tracks = s.tracks := by
  unfold State.askServiceEnd
  split <;> rfl

theorem State.movingEnds_tracks (b s : State) : (State.movingEnds b s).tracks = s.tracks := by
  unfold State.movingEnds
  split
  · exact s.askServiceEnd_tracks
  · rfl

theorem State.takeVehicle_tracks (s : State) (v : Vehicle) : (s.takeVehicle v).tracks = s.tracks := by
  rw [State.takeVehicle, State.tracks_of_besideZones (State.besideZones_handOn _ _),
    State.tracks_of_besideZones (State.besideZones_noteSettings _ _), State.movingEnds_tracks]

/-- R109: a body report changes the contacts, and no entry. -/
theorem State.bodyReport_tracks (s : State) (cycling : Bool) (c : Contacts) :
    (s.bodyReport cycling c).tracks = { s.tracks with contacts := c } := by
  unfold State.bodyReport
  dsimp only
  rw [State.tracks_of_besideZones (State.besideZones_handOn _ _)]
  split
  · rfl
  · rw [State.tracks_of_besideZones (State.besideZones_recountZones _)]

theorem actVehicleState_tracks (l : Link) (r : Request) (s : State) : (actVehicleState l r s).1.tracks = s.tracks := by
  unfold actVehicleState
  repeat' split
  on_goal 3 => exact State.takeVehicle_tracks _ _
  all_goals rfl

theorem actBodyState_places (l : Link) (r : Request) (s : State) :
    (actBodyState l r s).1.tracks.places = s.tracks.places := by
  unfold actBodyState
  repeat' split
  on_goal 3 => rw [State.bodyReport_tracks]
  all_goals rfl

theorem State.applyCommit_tracks (s : State) (new : Body) : (s.applyCommit new).tracks = s.tracks := by
  have table : ∀ u : State, u.commitTable.tracks = u.tracks := fun u =>
    State.foldl_fixes _ State.tracks (fun t l => by split <;> rfl) _ _
  unfold State.applyCommit
  dsimp only
  have alerted : ∀ u : State, u.alertCommit.tracks = u.tracks := fun _ => rfl
  rw [State.tracks_of_besideZones (State.besideZones_of_views (State.besideViews_arbiterCommit _)), alerted,
    State.tracks_of_besideZones (State.besideZones_commitZones _), State.tracks_of_besideZones (State.besideZones_noteSettings _ _),
    State.commitVehicle, State.movingEnds_tracks]
  exact table _

/-- Requests of the settings block. -/
theorem State.serviceRequests_tracks (l : Link) (r : Request) (s : State) :
    (actServiceEnter l r s).1.tracks = s.tracks ∧ (actServiceExit l r s).1.tracks = s.tracks ∧
    (actSettingsWrite l r s).1.tracks = s.tracks ∧ (actSettingsCommit l r s).1.tracks = s.tracks := by
  unfold actServiceEnter actServiceExit actSettingsWrite actSettingsCommit State.enterService State.tryCommit
  and_intros
  all_goals try dsimp only
  all_goals repeat' split
  all_goals simp only [State.settingsStep_tracks, State.askServiceEnd_tracks, State.applyCommit_tracks]
  all_goals rfl

theorem State.endCommit_tracks (s : State) (f : SettingsBlock → SettingsBlock) : (s.endCommit f).tracks = s.tracks := by
  unfold State.endCommit
  split
  · rfl
  · dsimp only
    rw [State.settingsStep_tracks]
    split <;> rfl

/-! ## Resets -/

theorem State.endLoad_tracks (s : State) (found : Option Body) : (s.endLoad found).tracks = Tracks.atReset := by
  have raised : ∀ (u : State) k n f, (u.raise k n f).tracks = u.tracks := fun _ _ _ _ => rfl
  unfold State.endLoad
  dsimp only
  rw [raised, State.tracks_of_besideZones (State.besideZones_firstLook _)]
  rfl

/-- R195: a warm reset empties the table. -/
theorem State.warmReset_tracks (s : State) {first : State → State} (keeps : ∀ u : State, (first u).tracks = u.tracks) :
    (s.warmReset first).tracks = Tracks.atReset := by
  have looked : (first s.warmBlocks).firstLook.tracks = Tracks.atReset :=
    (State.tracks_of_besideZones (State.besideZones_firstLook _)).trans (keeps _)
  unfold State.warmReset State.noteServiceEnd
  generalize (first s.warmBlocks).firstLook = u at looked
  split <;> exact looked

theorem State.lineFalls_tracksOk {s : State} (h : s.tracks.Ok) : s.lineFalls.tracks.Ok := by
  unfold State.lineFalls
  split
  · split
    · exact Tracks.atReset_ok.of_eq (State.warmReset_tracks _ fun _ => rfl)
    · exact h
  · exact h

theorem State.answerReset_tracksOk {s : State} (h : s.tracks.Ok) (l : Link) : (s.answerReset l).tracks.Ok := by
  unfold State.answerReset
  split
  · exact h
  · rename_i taken
    have head := h.of_places (congrArg (fun k => k.2.1.places) (State.ledger_takeHead taken))
    split
    · exact head
    · split
      · exact head
      · exact Tracks.atReset_ok.of_eq (State.warmReset_tracks _ fun _ => rfl)

/-! ## Every command (O10) -/

section
variable {s t : State}

/-- A command that keeps the table in order. -/
theorem State.tracksOk_work {f : State → State} (h : s.tracks.Ok) (keeps : ∀ u : State, u.tracks.Ok → (f u).tracks.Ok)
    (next : whileRunning s f = .next t) : t.tracks.Ok :=
  whileRunning_keeps (fun u => u.tracks.Ok) (fun _ hu => hu) f (fun u _ hu => keeps u hu) next h

/-- A request that keeps the table in order. -/
theorem State.tracksOk_request {row : RequestRow} {l : Link} {act : Request → State → State × Answer} (h : s.tracks.Ok)
    (next : whileRunning s (answering row l act) = .next t)
    (keeps : ∀ r (u : State), u.tracks.Ok → (act r u).1.tracks.Ok) : t.tracks.Ok :=
  whileRunning_keeps (fun u => u.tracks.Ok) (fun _ hu => hu) _
    (answering_keeps (fun u => u.tracks.Ok) (fun _ _ _ hu => hu) row l act fun r u _ hu => keeps r u hu) next h

/-- A timer that does not run leaves the table, and one that expires too. -/
theorem State.tracksOk_unless {u : State} {P : Prop} [Decidable P] (h : s.tracks.Ok) (e : u.tracks = s.tracks) :
    (if P then s else u).tracks.Ok := by
  split
  · exact h
  · exact h.of_eq e

/-- The end of a commit in flight. -/
theorem State.tracksOk_commitEnds {f : SettingsBlock → SettingsBlock} (h : s.tracks.Ok)
    (next : (whileRunning s fun u => u.endCommit f) = .next t) : t.tracks.Ok :=
  State.tracksOk_work (f := fun u => u.endCommit f) h (fun u hu => hu.of_eq (u.endCommit_tracks f)) next

/-- The end of the settings load. -/
theorem State.tracksOk_load {found : Option Body} (h : s.tracks.Ok) (next : whileLoading s found = .next t) : t.tracks.Ok := by
  have settled : ∀ u : State, u.settle.tracks = u.tracks := fun _ => rfl
  obtain rfl := Host.Outcome.next.inj next
  split
  · exact Tracks.atReset_ok.of_eq ((settled _).trans (s.endLoad_tracks found))
  · exact h

/-- A command keeps the table in order. -/
theorem exec_tracksOk {i : Instr} (h : s.tracks.Ok) (next : exec i s = .next t) : t.tracks.Ok := by
  by_cases keeps : keepsLedger i = true
  · have same := congrArg (fun k : Vehicle × Tracks × SettingsBlock => k.2.1) (exec_ledger keeps next)
    exact h.of_places (congrArg Tracks.places same)
  · cases i with
    | vehicleState l => exact State.tracksOk_request h next fun r u hu => hu.of_eq (actVehicleState_tracks l r u)
    | bodyState l => exact State.tracksOk_request h next fun r u hu => hu.of_places (actBodyState_places l r u)
    | indicatorOffDelayExpiry | chassisSilenceTimerExpiry | bodySilenceTimerExpiry =>
      exact State.tracksOk_work h (fun u hu => State.tracksOk_unless hu (u.takeVehicle_tracks _)) next
    | trackUpdate l => exact State.tracksOk_request h next fun r u hu => State.actTrackUpdate_tracksOk hu l r
    | trackDrop l => exact State.tracksOk_request h next fun r u hu => State.actTrackDrop_tracksOk hu l r
    | trackExpiry p => exact State.tracksOk_work h (fun u hu => State.trackExpiry_tracksOk hu p) next
    | serviceEnter l =>
      exact State.tracksOk_request h next fun r u hu => hu.of_eq (State.serviceRequests_tracks l r u).1
    | serviceExit l =>
      exact State.tracksOk_request h next fun r u hu => hu.of_eq (State.serviceRequests_tracks l r u).2.1
    | settingsWrite l =>
      exact State.tracksOk_request h next fun r u hu => hu.of_eq (State.serviceRequests_tracks l r u).2.2.1
    | settingsCommit l =>
      exact State.tracksOk_request h next fun r u hu => hu.of_eq (State.serviceRequests_tracks l r u).2.2.2
    | commitWriteComplete | commitWriteFailed | commitLimitExpiry =>
      exact State.tracksOk_commitEnds h next
    | coldReset below => exact Host.Outcome.next.inj next ▸ Tracks.atReset_ok
    | settingsLoadEnd | settingsLoadLimitExpiry | settingsLoadNotAcknowledged => exact State.tracksOk_load h next
    | resetN => exact Host.Outcome.next.inj next ▸ State.lineFalls_tracksOk h
    | reset l => exact State.tracksOk_work h (fun u hu => State.answerReset_tracksOk hu l) next
    | supplyStop =>
      obtain rfl := Host.Outcome.next.inj next
      split
      · exact h
      · exact Tracks.atReset_ok
    | _ => exact absurd rfl keeps

end

/-- Settles O10: a millisecond ages the entries alone; a command sets a place that no other entry's link and id contest, or empties
places. -/
theorem tracksStayDistinct : Obligations.TracksStayDistinct := by
  intro s t ok stepped
  unfold step at stepped
  split at stepped
  · obtain rfl := Host.Outcome.next.inj stepped
    unfold State.idle
    split
    · exact ok
    · exact ok.tick
  · rename_i i rest _
    exact exec_tracksOk (s := s.withPending rest) ok stepped

end Sys2Proof.Machine
end

section
/-! SUPPORT. A body of settings through its record (R188, R203): sections keep their lengths through a write, and a body of the right
lengths is read back from its record. -/

namespace Sys2Proof.Machine

/-! ## The lengths of the sections (11.1) -/

theorem Body.sec_eq (b : Body) (i : Fin 8) : b.sec (i.val + 1) = b.sections[i] := by
  simp [Body.sec, List.getD_eq_getElem?_getD]

theorem Body.wf_iff {b : Body} : b.wf = true ↔ ∀ i : Fin 8, (b.sections[i]).length = sectionLength (i.val + 1) := by
  simp only [Body.wf, List.all_eq_true, List.mem_range, beq_iff_eq]
  exact ⟨fun h i => b.sec_eq i ▸ h i.val i.isLt, fun h i hi => (b.sec_eq ⟨i, hi⟩).symm ▸ h ⟨i, hi⟩⟩

theorem splice_length (old : List Sys2Proof.Byte) (off : Nat) (new : List Sys2Proof.Byte) : (splice old off new).length = old.length := by
  simp only [splice, List.length_take, List.length_append, List.length_drop]
  omega

/-- R192: bytes written to a section leave every length. -/
theorem Body.write_wf {b : Body} (h : b.wf = true) (n off : Nat) (new : List Sys2Proof.Byte) : (b.write n off new).wf = true := by
  rw [Body.wf_iff] at h ⊢
  intro i
  rw [← h i]
  simp only [Body.write, Fin.getElem_fin, Vector.getElem_mapIdx]
  split
  · exact splice_length _ _ _
  · rfl

/-! ## The record (R203) -/

/-- The sections of a body of the right lengths, one by one. -/
theorem Body.wf_sections {b : Body} (h : b.wf = true) :
    ∃ s1 s2 s3 s4 s5 s6 s7 s8 : List Sys2Proof.Byte, b = ⟨#v[s1, s2, s3, s4, s5, s6, s7, s8]⟩ ∧ s1.length = 28 ∧ s2.length = 76 ∧
      s3.length = 320 ∧ s4.length = 202 ∧ s5.length = 352 ∧ s6.length = 158 ∧ s7.length = 197 ∧ s8.length = 2 := by
  refine ⟨b.sections[0], b.sections[1], b.sections[2], b.sections[3], b.sections[4], b.sections[5], b.sections[6],
    b.sections[7], ?_, Body.wf_iff.mp h 0, Body.wf_iff.mp h 1, Body.wf_iff.mp h 2, Body.wf_iff.mp h 3, Body.wf_iff.mp h 4,
    Body.wf_iff.mp h 5, Body.wf_iff.mp h 6, Body.wf_iff.mp h 7⟩
  have same : b.sections = #v[b.sections[0], b.sections[1], b.sections[2], b.sections[3], b.sections[4], b.sections[5],
      b.sections[6], b.sections[7]] := by
    refine Vector.ext fun i hi => ?_
    interval_cases i <;> rfl
  exact congrArg Body.mk same

theorem Body.bytes_length {b : Body} (h : b.wf = true) : b.bytes.length = 1335 := by
  obtain ⟨s1, s2, s3, s4, s5, s6, s7, s8, rfl, l1, l2, l3, l4, l5, l6, l7, l8⟩ := Body.wf_sections h
  simp [Body.bytes, l1, l2, l3, l4, l5, l6, l7, l8]

/-- The bytes of a body, cut by the lengths of the sections, are the body. -/
theorem Body.ofBytes_bytes {b : Body} (h : b.wf = true) : Body.ofBytes b.bytes = b := by
  obtain ⟨s1, s2, s3, s4, s5, s6, s7, s8, rfl, l1, l2, l3, l4, l5, l6, l7, l8⟩ := Body.wf_sections h
  simp [Body.ofBytes, Body.bytes, List.drop_append, List.drop_of_length_le, List.take_of_length_le, l1, l2, l3, l4, l5, l6, l7,
    l8]

theorem Body.ofBytes_wf {bs : List Sys2Proof.Byte} (h : bs.length = 1335) : (Body.ofBytes bs).wf = true := by
  rw [Body.wf_iff]
  intro i
  fin_cases i <;> simp [Body.ofBytes, sectionLength, h]

theorem be16_length (n : Int) : (be16 n).length = 2 := rfl

theorem crc16Bytes_length (bs : List Sys2Proof.Byte) : (crc16Bytes bs).length = 2 := rfl

/-- R203: version, length field and body of a record: the bytes that its CRC-16 is over. -/
def Body.front (b : Body) : List Sys2Proof.Byte := be16 1 ++ be16 1341 ++ b.bytes

theorem Body.record_eq (b : Body) : b.record = b.front ++ crc16Bytes b.front := rfl

theorem Body.front_length {b : Body} (h : b.wf = true) : b.front.length = 1339 := by
  rw [Body.front, List.length_append, List.length_append, be16_length, be16_length, Body.bytes_length h]

theorem Body.record_length {b : Body} (h : b.wf = true) : b.record.length = 1341 := by
  rw [Body.record_eq, List.length_append, Body.front_length h, crc16Bytes_length]

/-- R188, R203: a body is what its record carries. -/
theorem Body.ofRecord_record {b : Body} (h : b.wf = true) : Body.ofRecord b.record = some b := by
  have header : b.record = 0 :: 1 :: 5 :: 61 :: (b.bytes ++ crc16Bytes b.front) := by
    rw [Body.record_eq, Body.front, show be16 1 = [0, 1] by decide, show be16 1341 = [5, 61] by decide]; rfl
  have version : u16At b.record 0 = 1 := by
    rw [header]
    show (0#8 ++ 1#8).toNat = 1
    decide
  have length : u16At b.record 2 = 1341 := by
    rw [header]
    show (5#8 ++ 61#8).toNat = 1341
    decide
  have check : (b.record.drop 1339).take 2 = crc16Bytes (b.record.take 1339) := by
    have front := Body.front_length h
    rw [Body.record_eq, ← front, List.drop_left, List.take_left]
    exact List.take_of_length_le (crc16Bytes_length _).le
  have bytes : (b.record.drop 4).take 1335 = b.bytes := by
    have cut : b.record.drop 4 = b.bytes ++ crc16Bytes b.front := by rw [header]; rfl
    rw [cut, ← Body.bytes_length h, List.take_left]
  rw [Body.ofRecord, if_pos ⟨version, length, check⟩, bytes, Body.ofBytes_bytes h]

/-! ## The settings memory (R188, R190, R194) -/

/-- R190: what a load finds is valid and of the right lengths. -/
theorem SettingsMemory.validBody_wf {m : SettingsMemory} {b : Body} (h : m.validBody = some b) : b.wf = true := by
  unfold SettingsMemory.validBody at h
  split at h
  · cases h
  · have carried := (Option.filter_eq_some_iff.mp h).1
    unfold Body.ofRecord at carried
    split at carried
    · refine Option.some.inj carried ▸ Body.ofBytes_wf ?_
      rw [List.length_take, List.length_drop, Memory.load_length]
      rfl
    · cases carried

/-- R194: what was just written is what a load finds. -/
theorem SettingsMemory.validBody_write {m : SettingsMemory} (canonical : Memory.wf Config.blankSetting m.cells) {b : Body}
    (valid : b.valid = true) (wf : b.wf = true) : (m.write b).validBody = some b := by
  have loaded := Memory.load_store Config.blankSetting m.cells 0 b.record canonical
  rw [Body.record_length wf] at loaded
  rw [SettingsMemory.validBody, SettingsMemory.write, if_neg Bool.false_ne_true, loaded, Body.ofRecord_record wf]
  exact Option.filter_eq_some_iff.mpr ⟨rfl, valid⟩

end Sys2Proof.Machine
end

section
/-! Every step keeps the copies of the settings, the settings state and SERVICE related as they are (Table 11-3, R111, R191, R194):
O12. -/

namespace Sys2Proof.Machine

/-! ## The settings block alone -/

section
variable {b : SettingsBlock} (h : b.Ok)
include h

/-- R191, R195: service state ends. -/
theorem SettingsBlock.Ok.leaveService : b.leaveService.Ok :=
  { valid := h.valid, staging := rfl, stagingShape := fun _ e => (by cases e), isValid := h.isValid
    isDefaulted := h.isDefaulted, inFlight := h.inFlight, exitPending := fun e => (by cases e), image := h.image }

/-- R191: service state is entered with a staging copy of the working copy. -/
theorem SettingsBlock.Ok.beginService (out : b.serviceIn = false) :
    ({ b with serviceIn := true, staging := some b.working } : SettingsBlock).Ok :=
  { valid := h.valid, staging := rfl, stagingShape := fun _ e => Option.some.inj e ▸ h.valid.2, isValid := h.isValid
    isDefaulted := h.isDefaulted, inFlight := h.inFlight
    exitPending := fun pending => absurd (h.exitPending pending).1 (by simp [out]), image := h.image }

/-- R191: an exit is pending while a commit is in flight, or is no longer. -/
theorem SettingsBlock.Ok.setExitPending {p : Bool} (pending : p = true → b.serviceIn = true ∧ b.commit.isSome = true) :
    ({ b with exitPending := p } : SettingsBlock).Ok :=
  { valid := h.valid, staging := h.staging, stagingShape := h.stagingShape, isValid := h.isValid
    isDefaulted := h.isDefaulted, inFlight := h.inFlight, exitPending := pending, image := h.image }

/-- R192: a write to the staging copy. -/
theorem SettingsBlock.Ok.writeStaging (n off : Nat) (bytes : List Byte) :
    ({ b with staging := b.staging.map fun x => x.write n off bytes } : SettingsBlock).Ok :=
  { valid := h.valid, staging := h.staging.trans (by simp)
    stagingShape := fun x e => by
      obtain ⟨y, stood, rfl⟩ := Option.map_eq_some_iff.mp e
      exact Body.write_wf (h.stagingShape y stood) n off bytes
    isValid := h.isValid, isDefaulted := h.isDefaulted, inFlight := h.inFlight, exitPending := h.exitPending, image := h.image }

/-- R193: a valid staging copy is put in force. -/
theorem SettingsBlock.Ok.putInForce {x : Body} (staged : b.staging = some x) (valid : x.valid = true) : (b.putInForce x).Ok :=
  { valid := ⟨valid, h.stagingShape x staged⟩, staging := h.staging, stagingShape := h.stagingShape
    isValid := fun e => (by cases e), isDefaulted := fun e => (by cases e), inFlight := fun _ => rfl
    exitPending := fun e => ⟨(h.exitPending e).1, rfl⟩, image := h.image }

/-- R194: the commit completes; the memory holds the record of the working copy. -/
theorem SettingsBlock.Ok.complete (canonical : Memory.wf Config.blankSetting b.memory.cells) (stays : b.exitPending = false) :
    b.complete.Ok :=
  { valid := h.valid, staging := h.staging, stagingShape := h.stagingShape, isValid := fun _ => rfl
    isDefaulted := fun e => (by cases e), inFlight := fun e => (by cases e)
    exitPending := fun e => absurd e (by simp [SettingsBlock.complete, stays])
    image := fun x e => Option.some.inj e ▸ SettingsMemory.validBody_write canonical h.valid.1 h.valid.2 }

/-- R194: the commit fails; the settings state stays MODIFIED. -/
theorem SettingsBlock.Ok.fail (flies : b.commit.isSome = true) (stays : b.exitPending = false) : b.fail.Ok :=
  { valid := h.valid, staging := h.staging, stagingShape := h.stagingShape
    isValid := fun e => absurd e (by simp [SettingsBlock.fail, h.inFlight flies])
    isDefaulted := fun e => absurd e (by simp [SettingsBlock.fail, h.inFlight flies]), inFlight := fun e => (by cases e)
    exitPending := fun e => absurd e (by simp [SettingsBlock.fail, stays]), image := fun _ e => (by cases e) }

/-- A millisecond (log 1). -/
theorem SettingsBlock.Ok.tick : b.tick.Ok :=
  have same : (Timer.tick b.commit).isSome = b.commit.isSome := by simp [Timer.tick]
  { valid := h.valid, staging := h.staging, stagingShape := h.stagingShape, isValid := h.isValid
    isDefaulted := h.isDefaulted, inFlight := fun e => h.inFlight (same ▸ e)
    exitPending := fun e => ⟨(h.exitPending e).1, same.trans (h.exitPending e).2⟩, image := h.image }

/-- R197: no load runs. -/
theorem SettingsBlock.Ok.setLoad (l : Timer) : ({ b with load := l } : SettingsBlock).Ok :=
  ⟨h.valid, h.staging, h.stagingShape, h.isValid, h.isDefaulted, h.inFlight, h.exitPending, h.image⟩

end

theorem Body.builtIn_ok : Body.builtIn.valid = true ∧ Body.builtIn.wf = true := by decide +kernel

/-- R190: the block at a cold reset. -/
theorem SettingsBlock.atReset_ok (m : SettingsMemory) : (SettingsBlock.atReset m).Ok :=
  { valid := Body.builtIn_ok, staging := rfl, stagingShape := fun _ e => (by cases e), isValid := fun e => (by cases e)
    isDefaulted := fun _ => ⟨rfl, rfl⟩, inFlight := fun e => (by cases e), exitPending := fun e => (by cases e)
    image := fun _ e => (by cases e) }

/-- R190: the block after a load that found a valid record. -/
theorem SettingsBlock.loaded_ok (b : SettingsBlock) {found : Option Body}
    (image : ∀ x, found = some x → b.memory.validBody = some x) : (b.loaded found).Ok := by
  cases found with
  | none =>
    exact
      { valid := Body.builtIn_ok, staging := rfl, stagingShape := fun _ e => (by cases e), isValid := fun e => (by cases e)
        isDefaulted := fun _ => ⟨rfl, rfl⟩, inFlight := fun e => (by cases e), exitPending := fun e => (by cases e)
        image := fun _ e => (by cases e) }
  | some x =>
    exact
      { valid := ⟨SettingsMemory.validBody_valid (image x rfl), SettingsMemory.validBody_wf (image x rfl)⟩, staging := rfl
        stagingShape := fun _ e => (by cases e), isValid := fun _ => rfl, isDefaulted := fun e => (by cases e)
        inFlight := fun e => (by cases e), exitPending := fun e => (by cases e)
        image := fun y e => Option.some.inj e ▸ image x rfl }

/-! ## The block and SERVICE (R111) -/

/-- The settings block, and the condition SERVICE. -/
def State.served (s : State) : SettingsBlock × Bool := (s.settings, s.vehicle.conds.service)

theorem State.served_of_besideZones {s t : State} (h : t.besideZones = s.besideZones) : t.served = s.served :=
  (congrArg State.served h :)

theorem State.served_of_ledger {s t : State} (h : t.ledger = s.ledger) : t.served = s.served :=
  (congrArg (fun k : Vehicle × Tracks × SettingsBlock => (k.2.2, k.1.conds.service)) h :)

theorem State.SettingsOk.of_served {s t : State} (h : s.SettingsOk) (e : t.served = s.served) : t.SettingsOk := by
  obtain ⟨settings, service⟩ := Prod.mk.inj e
  obtain ⟨ok, follows⟩ := h
  exact ⟨settings ▸ ok, by rw [service, settings, follows]⟩

theorem State.handOn_served (b s : State) : (State.handOn b s).served = s.served :=
  State.served_of_besideZones (State.besideZones_handOn b s)

theorem State.settingsStep_served (b s : State) : (State.settingsStep b s).served = s.served :=
  State.served_of_besideZones (State.besideZones_settingsStep b s)

theorem State.noteSettings_served (b s : State) : (State.noteSettings b s).served = s.served :=
  State.served_of_besideZones (State.besideZones_noteSettings b s)

section
variable {s : State} (h : s.SettingsOk)
include h

theorem State.SettingsOk.endService : s.endService.SettingsOk := ⟨h.1.leaveService, rfl⟩

/-- R191: an end of service state that is asked for in service state. -/
theorem State.SettingsOk.askServiceEnd (inside : s.settings.serviceIn = true) : s.askServiceEnd.SettingsOk := by
  unfold State.askServiceEnd
  split
  · exact h.endService
  · rename_i flies
    exact ⟨h.1.setExitPending fun _ => ⟨inside, Option.isSome_iff_ne_none.mpr flies⟩, h.2⟩

/-- R191: MOVING becomes true. -/
theorem State.SettingsOk.movingEnds (b : State) : (State.movingEnds b s).SettingsOk := by
  unfold State.movingEnds
  split
  · rename_i ends
    simp only [Bool.and_eq_true] at ends
    exact h.askServiceEnd ends.2
  · exact h

/-- R103, R191: new values of the vehicle state that leave SERVICE. -/
theorem State.SettingsOk.takeVehicle {v : Vehicle} (service : v.conds.service = s.vehicle.conds.service) :
    (s.takeVehicle v).SettingsOk := by
  have taken : ({ s with vehicle := v } : State).SettingsOk := h.of_served (Prod.ext rfl service)
  exact (taken.movingEnds s).of_served ((State.handOn_served _ _).trans (State.noteSettings_served _ _))

theorem State.SettingsOk.vehicleState (l : Link) (r : Request) : (actVehicleState l r s).1.SettingsOk := by
  unfold actVehicleState
  split
  · exact h
  split
  · exact h
  · exact h.takeVehicle rfl

/-- R109: a body report leaves SERVICE. -/
theorem State.SettingsOk.bodyState (l : Link) (r : Request) : (actBodyState l r s).1.SettingsOk := by
  have counted : ∀ (u : State) (P : Prop) [Decidable P], (if P then u else u.recountZones).served = u.served := fun u P _ => by
    split
    · rfl
    · exact State.served_of_besideZones u.besideZones_recountZones
  unfold actBodyState
  split
  · exact h
  split
  · exact h
  · exact h.of_served ((State.handOn_served _ _).trans (counted _ _))

/-- R112 to R116: the track table leaves settings and SERVICE. -/
theorem State.SettingsOk.setPlace (p : Place) (k : Option Track) : (s.setPlace p k).SettingsOk :=
  h.of_served (by rw [State.setPlace_eq, State.served_of_besideZones (State.besideZones_recountZones _)]; rfl)

theorem State.SettingsOk.trackUpdate (l : Link) (r : Request) : (actTrackUpdate l r s).1.SettingsOk := by
  rcases actTrackUpdate_cases l r s with same | ⟨p, cls, -, -, placed⟩
  · rwa [same]
  · rw [placed]; exact h.setPlace _ _

theorem State.SettingsOk.trackDrop (l : Link) (r : Request) : (actTrackDrop l r s).1.SettingsOk := by
  rcases actTrackDrop_cases l r s with same | ⟨p, dropped⟩
  · rwa [same]
  · rw [dropped]; exact h.setPlace _ _

/-! ## Service state and the commit (R191 to R194) -/

theorem State.SettingsOk.serviceEnter (l : Link) (r : Request) : (actServiceEnter l r s).1.SettingsOk := by
  unfold actServiceEnter State.enterService
  split
  · exact h
  split
  · exact h
  dsimp only
  split
  · have stays : (s.setSettings { s.settings with exitPending := false }).SettingsOk :=
      ⟨h.1.setExitPending fun e => (by cases e), h.2⟩
    exact stays.of_served (State.settingsStep_served _ _)
  · rename_i out
    have begun : s.beginService.SettingsOk := ⟨h.1.beginService (Bool.eq_false_iff.mpr out), rfl⟩
    exact begun.of_served (State.settingsStep_served _ _)

theorem State.SettingsOk.serviceExit (l : Link) (r : Request) : (actServiceExit l r s).1.SettingsOk := by
  unfold actServiceExit
  split
  · exact h
  split
  · exact h
  · rename_i inside
    exact (h.askServiceEnd (by simpa using inside)).of_served (State.settingsStep_served _ _)

theorem State.SettingsOk.settingsWrite (l : Link) (r : Request) : (actSettingsWrite l r s).1.SettingsOk := by
  unfold actSettingsWrite
  dsimp only
  split
  · exact h
  split
  · exact ⟨h.1.writeStaging _ _ _, h.2⟩
  · exact h

/-- R104: MOVING is worked out again. -/
theorem State.SettingsOk.commitVehicle : s.commitVehicle.SettingsOk := by
  have taken : ({ s with vehicle := s.vehicle.commit s.body } : State).SettingsOk := h.of_served rfl
  exact taken.movingEnds s

/-- R104, R193: a valid staging copy is put in force, and MOVING worked out again. -/
theorem State.SettingsOk.applyCommit {x : Body} (staged : s.settings.staging = some x) (valid : x.valid = true) :
    (s.applyCommit x).SettingsOk := by
  have inForce : (s.setSettings (s.settings.putInForce x)).SettingsOk := ⟨h.1.putInForce staged valid, h.2⟩
  have table : ∀ u : State, u.commitTable.served = u.served := fun u =>
    State.foldl_fixes _ State.served (fun t l => by split <;> rfl) _ _
  have alerted : ∀ u : State, u.alertCommit.served = u.served := fun _ => rfl
  unfold State.applyCommit
  dsimp only
  generalize s.setSettings (s.settings.putInForce x) = u at inForce
  have told : (u.commitTable.commitRegulators s.body).SettingsOk := inForce.of_served (table u)
  have moved := told.commitVehicle
  generalize (u.commitTable.commitRegulators s.body).commitVehicle = v at moved
  refine moved.of_served ?_
  rw [State.served_of_besideZones (State.besideZones_of_views (State.besideViews_arbiterCommit _)), alerted,
    State.served_of_besideZones (State.besideZones_commitZones _), State.noteSettings_served]

theorem State.SettingsOk.settingsCommit (l : Link) (r : Request) : (actSettingsCommit l r s).1.SettingsOk := by
  unfold actSettingsCommit
  split
  · exact h
  · rename_i staged
    unfold State.tryCommit
    split
    · exact h
    · rename_i passes
      dsimp only
      exact h.applyCommit staged (Body.valid_iff.mpr passes)
  · exact h

/-- R194: a commit in flight ends by f, and with it service state where an exit is pending. -/
theorem State.SettingsOk.endCommit {f : SettingsBlock → SettingsBlock}
    (leaves : (f s.settings).leaveService.Ok)
    (stays : s.settings.exitPending = false → (f s.settings).Ok ∧ (f s.settings).serviceIn = s.settings.serviceIn) :
    (s.endCommit f).SettingsOk := by
  unfold State.endCommit
  split
  · exact h
  · dsimp only
    split
    · have ended : (s.setSettings (f s.settings)).endService.SettingsOk := ⟨leaves, rfl⟩
      exact ended.of_served (State.settingsStep_served _ _)
    · rename_i none
      obtain ⟨ok, service⟩ := stays (Bool.eq_false_iff.mpr none)
      have ended : (s.setSettings (f s.settings)).SettingsOk := ⟨ok, h.2.trans service.symm⟩
      exact ended.of_served (State.settingsStep_served _ _)

end

end Sys2Proof.Machine
end

section
/-! Every step keeps the settings in order: resets, and every command (O12). -/

namespace Sys2Proof.Machine

/-! ## Resets (R190, R195, R197) -/

theorem State.settingsOk_of_served {s : State} {b : SettingsBlock} (ok : b.Ok) (out : b.serviceIn = false)
    (e : s.served = (b, false)) : s.SettingsOk := by
  obtain ⟨settings, service⟩ := Prod.mk.inj e
  exact ⟨settings ▸ ok, by rw [service, settings, out]⟩

theorem State.firstLook_served (s : State) : s.firstLook.served = s.served :=
  State.served_of_besideZones s.besideZones_firstLook

/-- R190: the end of the settings load. -/
theorem State.endLoad_served (s : State) (found : Option Body) :
    (s.endLoad found).served = (s.settings.loaded found, false) := by
  have raised : ∀ (u : State) k n f, (u.raise k n f).served = u.served := fun _ _ _ _ => rfl
  unfold State.endLoad
  dsimp only
  rw [raised, State.firstLook_served]
  rfl

/-- R195: a warm reset ends service state. -/
theorem State.warmReset_served (s : State) {first : State → State} (keeps : ∀ u : State, (first u).served = u.served) :
    (s.warmReset first).served = (s.settings.leaveService, false) := by
  have looked : (first s.warmBlocks).firstLook.served = (s.settings.leaveService, false) :=
    (State.firstLook_served _).trans (keeps _)
  unfold State.warmReset State.noteServiceEnd
  generalize (first s.warmBlocks).firstLook = u at looked
  split <;> exact looked

section
variable {s t : State} (h : s.SettingsOk)
include h

theorem State.SettingsOk.settle : s.settle.SettingsOk := h.of_served rfl

theorem State.SettingsOk.warmReset {first : State → State} (keeps : ∀ u : State, (first u).served = u.served) :
    (s.warmReset first).SettingsOk :=
  State.settingsOk_of_served h.1.leaveService rfl (s.warmReset_served keeps)

theorem State.SettingsOk.lineFalls : s.lineFalls.SettingsOk := by
  have low : ({ s with resetLineHigh := false } : State).SettingsOk := h.of_served rfl
  unfold State.lineFalls
  split
  · split
    · exact (low.warmReset fun _ => rfl).settle
    · exact low
  · exact h

theorem State.SettingsOk.answerReset (l : Link) : (s.answerReset l).SettingsOk := by
  unfold State.answerReset
  split
  · exact h
  · rename_i taken
    have head := h.of_served (State.served_of_ledger (State.ledger_takeHead taken))
    split
    · exact head.of_served rfl
    · split
      · exact head.of_served rfl
      · exact head.warmReset fun _ => rfl

/-- A step on an empty queue (log 1). -/
theorem State.SettingsOk.idle : s.idle.SettingsOk := by
  unfold State.idle
  split
  · exact h
  · exact ⟨h.1.tick, h.2⟩

/-! ## The kinds of commands -/

/-- A command of the running part. -/
theorem State.SettingsOk.work {f : State → State} (keeps : s.SettingsOk → (f s).SettingsOk)
    (next : whileRunning s f = .next t) : t.SettingsOk := by
  obtain rfl := Host.Outcome.next.inj next
  split
  · exact (keeps h).settle
  · exact h

/-- A request. -/
theorem State.SettingsOk.request {row : RequestRow} {l : Link} {act : Request → State → State × Answer}
    (keeps : ∀ r (u : State), u.SettingsOk → (act r u).1.SettingsOk) (next : whileRunning s (answering row l act) = .next t) :
    t.SettingsOk :=
  whileRunning_keeps State.SettingsOk (fun _ hu => hu.settle) _
    (answering_keeps State.SettingsOk (fun _ _ _ hu => hu.of_served rfl) row l act fun r u _ hu => keeps r u hu) next h

/-- A timer of the vehicle state block. -/
theorem State.SettingsOk.vehicleTimer {d : State → Timer} {g : Vehicle → Vehicle}
    (service : ∀ v : Vehicle, (g v).conds.service = v.conds.service)
    (next : (whileRunning s fun u => if d u = none then u else u.takeVehicle (g u.vehicle)) = .next t) : t.SettingsOk := by
  refine h.work (f := fun u => if d u = none then u else u.takeVehicle (g u.vehicle)) (fun hu => ?_) next
  split
  · exact hu
  · exact hu.takeVehicle (service _)

/-- R194: the write of a commit completes. -/
theorem State.SettingsOk.completes (canonical : Memory.wf Config.blankSetting s.settings.memory.cells) :
    (s.endCommit SettingsBlock.complete).SettingsOk :=
  h.endCommit (h.1.leaveService.complete canonical rfl) fun stays => ⟨h.1.complete canonical stays, rfl⟩

/-- R194: the write of a commit fails. -/
theorem State.SettingsOk.fails : (s.endCommit SettingsBlock.fail).SettingsOk := by
  by_cases flies : s.settings.commit.isSome = true
  · exact h.endCommit (h.1.leaveService.fail flies rfl) fun stays => ⟨h.1.fail flies stays, rfl⟩
  · rw [State.endCommit, if_pos (Option.not_isSome_iff_eq_none.mp flies)]
    exact h

/-- The end of a commit in flight. -/
theorem State.SettingsOk.commitEnds {f : SettingsBlock → SettingsBlock} (keeps : s.SettingsOk → (s.endCommit f).SettingsOk)
    (next : (whileRunning s fun u => u.endCommit f) = .next t) : t.SettingsOk :=
  h.work (f := fun u => u.endCommit f) keeps next

/-- The end of the settings load. -/
theorem State.SettingsOk.loaded {found : Option Body} (image : ∀ x, found = some x → s.settings.memory.validBody = some x)
    (next : whileLoading s found = .next t) : t.SettingsOk := by
  obtain rfl := Host.Outcome.next.inj next
  split
  · exact (State.settingsOk_of_served (SettingsBlock.loaded_ok _ image) rfl (s.endLoad_served found)).settle
  · exact h

/-! ## Every command (O12) -/

theorem exec_settingsOk {i : Instr} (canonical : Memory.wf Config.blankSetting s.settings.memory.cells)
    (next : exec i s = .next t) : t.SettingsOk := by
  by_cases keeps : keepsLedger i = true
  · exact h.of_served (State.served_of_ledger (exec_ledger keeps next))
  · cases i with
    | vehicleState l => exact h.request (fun r _ hu => hu.vehicleState l r) next
    | bodyState l => exact h.request (fun r _ hu => hu.bodyState l r) next
    | indicatorOffDelayExpiry =>
      exact h.vehicleTimer (d := fun u => u.vehicle.offDelay) (g := Vehicle.offDelayExpiry) (fun _ => rfl) next
    | chassisSilenceTimerExpiry =>
      exact h.vehicleTimer (d := fun u => u.vehicle.chassisTimer) (g := Vehicle.chassisFallback) (fun _ => rfl) next
    | bodySilenceTimerExpiry =>
      exact h.vehicleTimer (d := fun u => u.vehicle.bodyTimer) (g := Vehicle.bodyFallback) (fun _ => rfl) next
    | trackUpdate l => exact h.request (fun r _ hu => hu.trackUpdate l r) next
    | trackDrop l => exact h.request (fun r _ hu => hu.trackDrop l r) next
    | trackExpiry p =>
      refine h.work (f := fun u => u.trackExpiry p) (fun hu => ?_) next
      dsimp only [State.trackExpiry]
      split
      · exact hu
      · exact hu.setPlace p none
    | serviceEnter l => exact h.request (fun r _ hu => hu.serviceEnter l r) next
    | serviceExit l => exact h.request (fun r _ hu => hu.serviceExit l r) next
    | settingsWrite l => exact h.request (fun r _ hu => hu.settingsWrite l r) next
    | settingsCommit l => exact h.request (fun r _ hu => hu.settingsCommit l r) next
    | commitWriteComplete => exact h.commitEnds (fun hu => hu.completes canonical) next
    | commitWriteFailed | commitLimitExpiry => exact h.commitEnds (fun hu => hu.fails) next
    | coldReset below =>
      exact Host.Outcome.next.inj next ▸ State.settingsOk_of_served (SettingsBlock.atReset_ok _) rfl rfl
    | settingsLoadEnd => exact h.loaded (fun _ found => found) next
    | settingsLoadLimitExpiry | settingsLoadNotAcknowledged => exact h.loaded (fun _ found => by cases found) next
    | resetN => exact Host.Outcome.next.inj next ▸ h.lineFalls
    | reset l => exact h.work (f := State.answerReset l) (fun hu => hu.answerReset l) next
    | supplyStop =>
      obtain rfl := Host.Outcome.next.inj next
      split
      · exact h
      · exact State.settingsOk_of_served ((SettingsBlock.atReset_ok _).setLoad none) rfl rfl
    | _ => exact absurd rfl keeps

end

/-- Settles O12: each command that reaches the settings block keeps it in order, and SERVICE with it; a write that completes is read back
as the working copy because the memory is canonical. -/
theorem settingsStayInOrder : Obligations.SettingsStayInOrder := by
  intro s t ok memory stepped
  unfold step at stepped
  split at stepped
  · exact Host.Outcome.next.inj stepped ▸ ok.idle
  · rename_i i rest _
    have queued : (s.withPending rest).SettingsOk := ok.of_served rfl
    exact exec_settingsOk queued memory.2 stepped

end Sys2Proof.Machine
end

section
/-! A step is the command in front, or one millisecond, and what that does (log 1): O1. -/

namespace Sys2Proof.Machine

/-! ## One millisecond, home by home -/

section
variable (s : State)

theorem State.millisecond_recv (c : Camera) : s.millisecond.recv c = (s.recv c).tick := by
  simp [State.recv, State.millisecond]

theorem State.millisecond_reg (c : Camera) : s.millisecond.reg c = (s.reg c).tick := by
  simp [State.reg, State.millisecond]

theorem State.millisecond_zoneRec (z : Zone) : s.millisecond.zoneRec z = (s.zoneRec z).tick := by
  simp [State.zoneRec, State.millisecond]

theorem State.millisecond_causeRec (i : Cause) : s.millisecond.causeRec i = (s.causeRec i).tick := by
  simp [State.causeRec, State.millisecond, Arbiter.tick]

theorem State.millisecond_ctl (l : Link) : s.millisecond.ctl l = (s.ctl l).tick := by
  simp [State.ctl, State.millisecond]

end

/-- Settles O1: the front command by the definition of a step, and a millisecond home by home. -/
theorem stepRunsFrontCommand : Obligations.StepRunsFrontCommand := by
  have idles : ∀ s : State, s.pending = [] → step s = .next s.idle := fun s empty => by rw [step, empty]
  refine ⟨fun s c rest front => by rw [step, front], idles, fun s empty stopped => ?_, fun s empty powered => ?_⟩
  · rw [idles s empty, State.idle, if_pos stopped]
  · refine ⟨s.millisecond, by rw [idles s empty, State.idle, if_neg powered], rfl, s.millisecond_recv, s.millisecond_reg, rfl,
      fun p => s.tracks.tick_place p, rfl, s.millisecond_zoneRec, rfl, s.millisecond_causeRec, rfl, s.millisecond_ctl, rfl, rfl, rfl⟩

end Sys2Proof.Machine
end

section
/-! SUPPORT. The pure rules of a zone (6.3): arming, level, the evaluation case by case (Table 6-7), the recount (R118). -/

namespace Sys2Proof.Machine

/-! ## The evaluation (R119 to R121) -/

theorem ZoneSettings.armed_iff {cfg : ZoneSettings} {c : Conditions} :
    cfg.armed c = true ↔ cfg.arm = 0 ∨ c.bits &&& cfg.arm ≠ 0 := by
  simp [ZoneSettings.armed, Conditions.some]

/-- R121: what makes an armed, occupied zone WARNING. -/
def ZoneSettings.Serious (cfg : ZoneSettings) (c : Conditions) (r : ZoneRec) : Prop :=
  c.bits &&& cfg.warnConds ≠ 0 ∨ r.warnMark = true ∨ (cfg.dwellLimit ≠ 0 ∧ cfg.dwellLimit ≤ r.dwell)

theorem ZoneSettings.level_warning {cfg : ZoneSettings} {c : Conditions} {r : ZoneRec} :
    cfg.level c r = .warning ↔ cfg.Serious c r := by
  unfold ZoneSettings.level
  split
  · rename_i serious
    simpa [ZoneSettings.Serious, Conditions.some, or_assoc] using serious
  · rename_i mild
    simpa [ZoneSettings.Serious, Conditions.some, or_assoc] using mild

theorem ZoneSettings.level_caution {cfg : ZoneSettings} {c : Conditions} {r : ZoneRec} :
    cfg.level c r = .caution ↔ ¬ cfg.Serious c r := by
  rw [← ZoneSettings.level_warning]
  cases cfg.level c r <;> simp

section
variable {cfg : ZoneSettings} {c : Conditions} {r : ZoneRec}

theorem ZoneRec.evaluate_unarmed (h : ¬ cfg.armed c = true) : r.evaluate cfg c = r.toIdle := by
  simp [ZoneRec.evaluate, h]

theorem ZoneRec.evaluate_occupied (armed : cfg.armed c = true) (occupied : r.occupancy ≠ 0) :
    r.evaluate cfg c = r.toLevel (cfg.level c r) := by
  simp [ZoneRec.evaluate, armed, occupied]

section
variable (armed : cfg.armed c = true) (empty : r.occupancy = 0)
include armed empty

theorem ZoneRec.evaluate_idle (h : r.state = .idle) : r.evaluate cfg c = r.toClear := by
  simp [ZoneRec.evaluate, armed, empty, h]

theorem ZoneRec.evaluate_clear (h : r.state = .clear) : r.evaluate cfg c = r := by
  simp [ZoneRec.evaluate, armed, empty, h]

/-- R120: the held level is that of the state that is left. -/
theorem ZoneRec.evaluate_left (h : r.state = .caution ∨ r.state = .warning) :
    r.evaluate cfg c = r.toHold (if r.state = .warning then .warning else .caution) cfg.holdTime := by
  rcases h with h | h <;> simp [ZoneRec.evaluate, armed, empty, h]

theorem ZoneRec.evaluate_held (h : r.state = .hold) (runs : r.holdTimer ≠ none) : r.evaluate cfg c = r := by
  simp [ZoneRec.evaluate, armed, empty, h, runs]

theorem ZoneRec.evaluate_released (h : r.state = .hold) (out : r.holdTimer = none) : r.evaluate cfg c = r.toClear := by
  simp [ZoneRec.evaluate, armed, empty, h, out]

end

/-- The evaluation leaves what the recount sets. -/
theorem ZoneRec.evaluate_counts (cfg : ZoneSettings) (c : Conditions) (r : ZoneRec) :
    (r.evaluate cfg c).occupancy = r.occupancy ∧ (r.evaluate cfg c).warnMark = r.warnMark := by
  unfold ZoneRec.evaluate ZoneRec.toHold
  repeat' split
  all_goals exact ⟨rfl, rfl⟩

theorem ZoneState.dwelling_iff {st : ZoneState} : st.dwelling = true ↔ st = .caution ∨ st = .warning := by
  cases st <;> simp [ZoneState.dwelling]

/-- R122: the dwell timer runs on, or starts on entry. -/
theorem ZoneRec.toLevel_dwellTimer (r : ZoneRec) (l : Level) :
    (r.state = .caution ∨ r.state = .warning → (r.toLevel l).dwellTimer = r.dwellTimer) ∧
    (r.state = .idle ∨ r.state = .clear ∨ r.state = .hold → (r.toLevel l).dwellTimer = some 100) := by
  refine ⟨fun dwells => if_pos (ZoneState.dwelling_iff.mpr dwells), fun rests => if_neg fun dwells => ?_⟩
  rcases ZoneState.dwelling_iff.mp dwells with h | h <;> simp [h] at rests

end

/-- Settles O38: Table 6-7 case by case. -/
theorem zoneEvaluationFollowsTheTable : Obligations.ZoneEvaluationFollowsTheTable := by
  intro cfg c r armed serious cleared
  have arms : armed → cfg.armed c = true := ZoneSettings.armed_iff.mpr
  refine ⟨fun h => ZoneRec.evaluate_unarmed (mt ZoneSettings.armed_iff.mp h),
    fun h empty idle => ZoneRec.evaluate_idle (arms h) empty idle, fun h empty clear => ZoneRec.evaluate_clear (arms h) empty clear,
    fun h empty left time => ?_, fun h empty left time => ?_,
    fun h empty hold runs => ZoneRec.evaluate_held (arms h) empty hold runs,
    fun h empty hold out => ZoneRec.evaluate_released (arms h) empty hold out, fun h occupied => ?_⟩
  · rw [ZoneRec.evaluate_left (arms h) empty left, ZoneRec.toHold, if_pos time]
    rfl
  · rw [ZoneRec.evaluate_left (arms h) empty left, ZoneRec.toHold, if_neg time]
    rfl
  · rw [ZoneRec.evaluate_occupied (arms h) occupied]
    have warns : cfg.level c r = .warning ↔ serious := ZoneSettings.level_warning
    obtain ⟨runs, starts⟩ := r.toLevel_dwellTimer (cfg.level c r)
    refine ⟨fun h => ?_, fun h => ?_, rfl, rfl, rfl, runs, starts, fun rises => ?_, fun stays => ?_⟩
    · rw [warns.mpr h]; rfl
    · rw [ZoneSettings.level_caution.mpr h]; rfl
    · exact if_pos ⟨warns.mpr rises.1, rises.2⟩
    · exact if_neg fun rises => stays ⟨warns.mp rises.1, rises.2⟩

/-! ## The recount (R118) -/

/-- R118: the tracks of the table that count for a zone. -/
def ZoneSettings.counted (cfg : ZoneSettings) (floor : Nat) (t : Tracks) : List Track :=
  (t.places.toList.filterMap id).filter fun k =>
    cfg.classes.getLsbD k.cls.index && decide (floor ≤ k.confidence) &&
      decide (cfg.xMin ≤ k.x ∧ k.x ≤ cfg.xMax ∧ cfg.yMin ≤ k.y ∧ k.y ≤ cfg.yMax)

/-- R118: the tracks that count and the set contacts that the zone maps. -/
def ZoneSettings.occupancy (cfg : ZoneSettings) (floor : Nat) (t : Tracks) : Nat :=
  (cfg.counted floor t).length + (cfg.contacts.getLsbD 0 && t.contacts.stepLeft).toNat +
    (cfg.contacts.getLsbD 1 && t.contacts.stepRight).toNat + (cfg.contacts.getLsbD 2 && t.contacts.curtain).toNat

theorem ZoneSettings.counted_eq (cfg : ZoneSettings) (floor : Nat) (t : Tracks) :
    t.entries.filter (cfg.counts floor) = cfg.counted floor t := by
  refine List.filter_congr fun k _ => ?_
  simp only [ZoneSettings.counts, Bool.decide_and, Bool.and_assoc]

theorem Contacts.bits_getLsbD (c : Contacts) :
    c.bits.getLsbD 0 = c.stepLeft ∧ c.bits.getLsbD 1 = c.stepRight ∧ c.bits.getLsbD 2 = c.curtain := by
  obtain ⟨left, right, curtain⟩ := c
  cases left <;> cases right <;> cases curtain <;> decide

/-- R118, R124: the recount sets occupancy and mark, and clears the acknowledgement where the occupancy rises. -/
theorem ZoneRec.recount_eq (cfg : ZoneSettings) (floor : Nat) (t : Tracks) (r : ZoneRec) :
    r.recount cfg floor t =
      { r with
        occupancy := cfg.occupancy floor t
        warnMark := (cfg.counted floor t).any fun k => cfg.warnClasses.getLsbD k.cls.index
        acked := if r.occupancy < cfg.occupancy floor t then false else r.acked } := by
  obtain ⟨left, right, curtain⟩ := t.contacts.bits_getLsbD
  have contacts : count3 (cfg.contacts &&& t.contacts.bits) = (cfg.contacts.getLsbD 0 && t.contacts.stepLeft).toNat +
      (cfg.contacts.getLsbD 1 && t.contacts.stepRight).toNat + (cfg.contacts.getLsbD 2 && t.contacts.curtain).toNat := by
    simp only [count3, BitVec.getLsbD_and, left, right, curtain]
  have n : (cfg.counted floor t).length + count3 (cfg.contacts &&& t.contacts.bits) = cfg.occupancy floor t := by
    rw [contacts, ZoneSettings.occupancy]
    omega
  simp only [ZoneRec.recount, cfg.counted_eq, n]

end Sys2Proof.Machine
end

section
/-! SUPPORT. The zones at work (R118, R119, R125): a zone that takes a record, the causes that its onset raises (R142), and the zones in
ascending order (log 34). -/

namespace Sys2Proof.Machine

/-! ## The causes an onset raises (R142) -/

theorem State.raiseCause_eq (s : State) (i : Cause) :
    s.raiseCause i = s.setCauseRec i ((s.causeRec i).raised (s.body.cause i)) := by
  unfold State.raiseCause CauseRec.raised
  cases h : (s.causeRec i).stage <;> simp [h, tenths]

theorem raisedBy_iff {b : Body} {z : Zone} {v : Nat} {i : Cause} : raisedBy b z v i = true ↔ (b.cause i).RaisedBy z v := by
  simp [raisedBy, CauseSettings.RaisedBy, and_assoc]

/-- R142: the causes after an onset of zone z with preferred view v. -/
def State.raisedCauses (s : State) (z : Zone) (v : Nat) (i : Cause) : CauseRec :=
  if raisedBy s.body z v i then (s.causeRec i).raised (s.body.cause i) else s.causeRec i

theorem State.withCauses_self (s : State) : s.withCauses s.causeRec = s := by
  have same : Vector.ofFn s.causeRec = s.arbiter.causes := Vector.ext fun i hi => by simp [State.causeRec]
  rw [State.withCauses, same]

/-- Causes raised one by one, none of them twice. -/
theorem State.raiseCauses_causeRec (q : List Cause) (once : q.Nodup) (s : State) (i : Cause) :
    (q.foldl State.raiseCause s).causeRec i =
      if i ∈ q then (s.causeRec i).raised (s.body.cause i) else s.causeRec i := by
  induction q generalizing s with
  | nil => rfl
  | cons j q ih =>
    obtain ⟨notIn, once⟩ := List.nodup_cons.mp once
    have body : (s.setCauseRec j ((s.causeRec j).raised (s.body.cause j))).body = s.body := rfl
    rw [List.foldl_cons, ih once, s.raiseCause_eq j, body]
    by_cases h : i = j
    · subst h
      simp [notIn]
    · simp [h, State.causeRec_setCauseRec_of_ne]

/-- R142: all that the raising changes is the causes. -/
theorem State.raiseCauses_eq (s : State) (z : Zone) (v : Nat) :
    ((List.finRange 12).filter (raisedBy s.body z v)).foldl State.raiseCause s = s.withCauses (s.raisedCauses z v) := by
  have causes := s.raiseCauses_causeRec _ ((List.nodup_finRange 12).filter (raisedBy s.body z v))
  have rest : ∀ f, (((List.finRange 12).filter (raisedBy s.body z v)).foldl State.raiseCause s).withCauses f = s.withCauses f :=
    fun f => State.foldl_fixes _ (fun u => u.withCauses f) (fun u i => by rw [u.raiseCause_eq]; rfl) _ _
  generalize ((List.finRange 12).filter (raisedBy s.body z v)).foldl State.raiseCause s = w at causes rest
  have raised : w.causeRec = s.raisedCauses z v := funext fun i => by
    rw [causes, State.raisedCauses]
    simp
  rw [← raised, ← rest, w.withCauses_self]

theorem State.onset_eq (s : State) (z : Zone) (v : Nat) : s.onset z v = (s.withCauses (s.raisedCauses z v)).choose := by
  rw [State.onset, State.raiseCauses_eq]

/-! ## One zone (R125) -/

theorem isOnset_iff {old new : ZoneRec} : isOnset old new = true ↔ old.Onset new := by
  simp [isOnset, ZoneRec.Onset, and_assoc, imp_iff_not_or]

theorem ZoneRec.not_onset_self (r : ZoneRec) : ¬ r.Onset r := fun h => h.2.1 h.1

/-- R125, R142, R148: what a zone that passes from a record to another makes of the arbiter, under the settings and vehicle state of t:
one step of `State.OnsetsTaken`. -/
def State.OnsetTaken (t : State) (z : Zone) (old new : ZoneRec) (a b : Arbiter) : Prop :=
  ((¬ old.Onset new ∨ (t.body.zone z).preferredView = none) → b = a) ∧
    ∀ v, old.Onset new → (t.body.zone z).preferredView = some v →
      ∃ raised : Cause → CauseRec,
        (∀ i, (t.body.cause i).RaisedBy z v → raised i = a.causes[i].raised (t.body.cause i)) ∧
        (∀ i, ¬ (t.body.cause i).RaisedBy z v → raised i = a.causes[i]) ∧
        State.ChoiceMade ((t.withArbiter a).withCauses raised) (t.withArbiter b)

theorem State.onsetsTaken_iff {t : State} {before after : Zone → ZoneRec} {a b : Arbiter} :
    t.OnsetsTaken before after a b ↔
      ∃ y : Nat → Arbiter, y 0 = a ∧ y 8 = b ∧ ∀ z : Zone, t.OnsetTaken z (before z) (after z) (y z.val) (y (z.val + 1)) :=
  Iff.rfl

/-- Without an onset the arbiter stays. -/
theorem State.OnsetTaken.none {t : State} {z : Zone} {old new : ZoneRec} {a : Arbiter} (h : ¬ old.Onset new) :
    t.OnsetTaken z old new a a :=
  ⟨fun _ => rfl, fun _ onset => absurd onset h⟩

/-- An onset is taken under settings and a vehicle state. -/
theorem State.OnsetTaken.congr {t u : State} {z : Zone} {old new : ZoneRec} {a b : Arbiter} (h : t.OnsetTaken z old new a b)
    (body : u.body = t.body) (vehicle : u.vehicle = t.vehicle) : u.OnsetTaken z old new a b := by
  obtain ⟨stays, chooses⟩ := h
  refine ⟨fun none => stays (body ▸ none), fun v onset view => ?_⟩
  obtain ⟨raised, some, others, made⟩ := chooses v onset (body ▸ view)
  exact ⟨raised, body ▸ some, body ▸ others, made.congr body rfl vehicle rfl⟩

theorem State.OnsetsTaken.congr {t u : State} {before after : Zone → ZoneRec} {a b : Arbiter}
    (h : t.OnsetsTaken before after a b) (body : u.body = t.body) (vehicle : u.vehicle = t.vehicle) :
    u.OnsetsTaken before after a b := by
  obtain ⟨y, first, last, steps⟩ := State.onsetsTaken_iff.mp h
  exact State.onsetsTaken_iff.mpr ⟨y, first, last, fun z => (steps z).congr body vehicle⟩

/-- From u to v zone z has taken record r, with its notice, the alert unit's copy and its onset, and nothing else has changed. -/
structure State.ZoneTaken (u v : State) (z : Zone) (r : ZoneRec) : Prop where
  own : v.zoneRec z = r
  others : ∀ y, y ≠ z → v.zoneRec y = u.zoneRec y
  rest : v.besideZones = u.besideZones
  onset : u.OnsetTaken z (u.zoneRec z) r u.arbiter v.arbiter

/-- A zone that is left. -/
theorem State.ZoneTaken.refl (u : State) (z : Zone) : u.ZoneTaken u z (u.zoneRec z) :=
  ⟨rfl, fun _ _ => rfl, rfl, .none (u.zoneRec z).not_onset_self⟩

/-- A record without an onset, set without a notice. -/
theorem State.ZoneTaken.set (u : State) (z : Zone) {r : ZoneRec} (h : ¬ (u.zoneRec z).Onset r) :
    u.ZoneTaken (u.setZoneRec z r) z r :=
  ⟨u.zoneRec_setZoneRec_self z r, fun y e => u.zoneRec_setZoneRec_of_ne z y r e, rfl, .none h⟩

/-- R126: a zone's record with its notice and the alert unit's copy, before the onset. -/
def State.noticedZone (u : State) (z : Zone) (r : ZoneRec) : State :=
  if (u.zoneRec z).face = r.face then u.setZoneRec z r else (u.setZoneRec z r).zoneChange z r

theorem State.noticedZone_keeps (u : State) (z : Zone) (r : ZoneRec) :
    (u.noticedZone z r).zones = (u.setZoneRec z r).zones ∧ (u.noticedZone z r).arbiter = u.arbiter ∧
    (u.noticedZone z r).besideZones = u.besideZones := by
  unfold State.noticedZone
  split <;> exact ⟨rfl, rfl, rfl⟩

theorem State.takeZone_of_onset {u : State} {z : Zone} {r : ZoneRec} {v : Nat} (onset : (u.zoneRec z).Onset r)
    (view : (u.body.zone z).preferredView = some v) : u.takeZone z r = (u.noticedZone z r).onset z v := by
  simp only [State.takeZone, isOnset_iff.mpr onset, view]
  rfl

theorem State.takeZone_of_none {u : State} {z : Zone} {r : ZoneRec}
    (h : ¬ (u.zoneRec z).Onset r ∨ (u.body.zone z).preferredView = none) : u.takeZone z r = u.noticedZone z r := by
  unfold State.takeZone
  dsimp only
  split
  · rename_i onset view
    rcases h with h | h
    · exact absurd (isOnset_iff.mp onset) h
    · rw [h] at view; cases view
  · rfl

/-- The onset after the notice makes its choice from the arbiter as it was. -/
theorem State.noticedZone_onset (u : State) (z : Zone) (r : ZoneRec) (v : Nat) :
    State.ChoiceMade (u.withCauses (u.raisedCauses z v)) ((u.noticedZone z r).onset z v) := by
  obtain ⟨-, arbiter, rest⟩ := u.noticedZone_keeps z r
  obtain ⟨-, -, -, -, -, -, vehicle, -, -, -, settings, -⟩ := State.besideZones_fields rest
  have body : (u.noticedZone z r).body = u.body := congrArg SettingsBlock.working settings
  have causes : (u.noticedZone z r).raisedCauses z v = u.raisedCauses z v := funext fun i => by
    simp only [State.raisedCauses, State.causeRec, arbiter, body]
  rw [State.onset_eq, causes]
  generalize u.noticedZone z r = w at arbiter vehicle body
  have same : (u.withCauses (u.raisedCauses z v)).arbiter = (w.withCauses (u.raisedCauses z v)).arbiter := by
    simp only [State.withCauses, arbiter]
  have made := (w.withCauses (u.raisedCauses z v)).choose_made
  exact made.congr body.symm same vehicle.symm rfl

theorem State.zones_of_besideViews {s t : State} (h : t.besideViews = s.besideViews) : t.zones = s.zones :=
  (congrArg State.zones h :)

/-- R125, R126: a zone takes a record. -/
theorem State.takeZone_taken (u : State) (z : Zone) (r : ZoneRec) : u.ZoneTaken (u.takeZone z r) z r := by
  obtain ⟨zones, arbiter, -⟩ := u.noticedZone_keeps z r
  have recs : ∀ y, (u.takeZone z r).zoneRec y = (u.setZoneRec z r).zoneRec y := fun y => by
    have noticed : (u.takeZone z r).zones = (u.setZoneRec z r).zones := by
      rw [← zones]
      by_cases h : ¬ (u.zoneRec z).Onset r ∨ (u.body.zone z).preferredView = none
      · rw [State.takeZone_of_none h]
      · obtain ⟨onset, view⟩ := not_or.mp h
        obtain ⟨v, view⟩ := Option.ne_none_iff_exists'.mp view
        rw [State.takeZone_of_onset (not_not.mp onset) view]
        exact State.zones_of_besideViews (State.besideViews_onset _ z v)
    rw [State.zoneRec, State.zoneRec, noticed]
  refine ⟨(recs z).trans (u.zoneRec_setZoneRec_self z r), fun y e => (recs y).trans (u.zoneRec_setZoneRec_of_ne z y r e),
    u.besideZones_takeZone z r, fun none => ?_, fun v onset view => ?_⟩
  · rw [State.takeZone_of_none none, arbiter]
  · rw [State.takeZone_of_onset onset view]
    exact ⟨u.raisedCauses z v, fun i raises => if_pos (raisedBy_iff.mpr raises),
      fun i spares => if_neg (mt raisedBy_iff.mp spares), (u.noticedZone_onset z r v).congr rfl rfl rfl rfl⟩

/-- One zone alone takes a record: the onsets of the eight zones are its own. -/
theorem State.ZoneTaken.onsets {s t : State} {z : Zone} {r : ZoneRec} (h : s.ZoneTaken t z r) :
    s.OnsetsTaken s.zoneRec t.zoneRec s.arbiter t.arbiter := by
  refine State.onsetsTaken_iff.mpr ⟨fun n => if n ≤ z.val then s.arbiter else t.arbiter, rfl, if_neg (by omega), fun y => ?_⟩
  dsimp only
  by_cases e : y = z
  · subst e
    rw [if_pos (le_refl _), if_neg (by omega), h.own]
    exact h.onset
  · have apart : y.val ≠ z.val := fun same => e (Fin.ext same)
    have same : (if y.val + 1 ≤ z.val then s.arbiter else t.arbiter) = if y.val ≤ z.val then s.arbiter else t.arbiter :=
      if_congr (by omega) rfl rfl
    rw [same, h.others y e]
    exact .none (s.zoneRec y).not_onset_self

/-! ## The zones in ascending order (log 34) -/

/-- From s to t every zone z has taken g z, in ascending order. -/
structure State.ZonesTaken (s t : State) (g : Zone → ZoneRec) : Prop where
  zones : t.zoneRec = g
  rest : t.besideZones = s.besideZones
  onsets : s.OnsetsTaken s.zoneRec g s.arbiter t.arbiter

/-- The zones below n have been worked on. -/
def State.zonesBelow (f : State → Zone → State) (s : State) (n : Nat) : State := ((List.finRange 8).take n).foldl f s

theorem State.zonesBelow_succ (f : State → Zone → State) (s : State) (z : Zone) :
    s.zonesBelow f (z.val + 1) = f (s.zonesBelow f z.val) z := by
  have place : z.val < (List.finRange 8).length := by rw [List.length_finRange]; exact z.isLt
  rw [State.zonesBelow, ← List.take_concat_get' _ _ place, List.foldl_append]
  simp [State.zonesBelow]

/-- Work on one zone after another, each of which takes the record that its own record and what is beside the zones give. -/
theorem State.zonesTaken_foldl {s : State} {f : State → Zone → State} {g : Zone → ZoneRec}
    (takes : ∀ (u : State) z, u.besideZones = s.besideZones → u.zoneRec z = s.zoneRec z → u.ZoneTaken (f u z) z (g z)) :
    s.ZonesTaken ((List.finRange 8).foldl f s) g := by
  have below : ∀ n, n ≤ 8 → (s.zonesBelow f n).besideZones = s.besideZones ∧
      ∀ z : Zone, (s.zonesBelow f n).zoneRec z = if z.val < n then g z else s.zoneRec z := by
    intro n le
    induction n with
    | zero => exact ⟨rfl, fun z => rfl⟩
    | succ n ih =>
      obtain ⟨rest, recs⟩ := ih (by omega)
      have taken := takes (s.zonesBelow f n) ⟨n, by omega⟩ rest ((recs ⟨n, by omega⟩).trans (if_neg (by simp)))
      rw [s.zonesBelow_succ f ⟨n, by omega⟩]
      refine ⟨taken.rest.trans rest, fun z => ?_⟩
      by_cases e : z = ⟨n, by omega⟩
      · subst e
        rw [taken.own, if_pos (by simp)]
      · have apart : z.val ≠ n := fun same => e (Fin.ext same)
        rw [taken.others z e, recs]
        exact if_congr (by omega) rfl rfl
  have all : s.zonesBelow f 8 = (List.finRange 8).foldl f s := rfl
  obtain ⟨rest, recs⟩ := below 8 (le_refl 8)
  refine ⟨funext fun z => (all ▸ recs z).trans (if_pos z.isLt), all ▸ rest,
    State.onsetsTaken_iff.mpr ⟨fun n => (s.zonesBelow f n).arbiter, rfl, rfl, fun z => ?_⟩⟩
  obtain ⟨rest, recs⟩ := below z.val z.isLt.le
  have own : (s.zonesBelow f z.val).zoneRec z = s.zoneRec z := (recs z).trans (if_neg (lt_irrefl _))
  have taken := takes (s.zonesBelow f z.val) z rest own
  obtain ⟨-, -, -, -, -, -, vehicle, -, -, -, settings, -⟩ := State.besideZones_fields rest
  dsimp only
  rw [s.zonesBelow_succ f z, ← own]
  exact taken.onset.congr (congrArg SettingsBlock.working settings.symm) vehicle.symm

/-! ## Evaluation and recount of every zone -/

/-- R119: a zone's record after an evaluation, if it is enabled. -/
def State.evaluated (s : State) (z : Zone) : ZoneRec :=
  if (s.body.zone z).enabled = true then (s.zoneRec z).evaluate (s.body.zone z) s.vehicle.conds else s.zoneRec z

/-- R103, R119: every enabled zone is evaluated once. -/
theorem State.evaluateZones_taken (s : State) : s.ZonesTaken s.evaluateZones s.evaluated := by
  refine State.zonesTaken_foldl fun u z rest own => ?_
  obtain ⟨-, -, -, -, -, -, vehicle, -, -, -, settings, -⟩ := State.besideZones_fields rest
  have body : u.body = s.body := congrArg SettingsBlock.working settings
  show u.ZoneTaken (u.evaluateZone z) z _
  unfold State.evaluateZone State.evaluated
  rw [← own, ← body, ← vehicle]
  split
  · exact u.takeZone_taken z _
  · exact .refl u z

/-- R118: a zone's record after a recount, if it is enabled: evaluated where its count or mark changed. -/
def State.recounted (s : State) (z : Zone) : ZoneRec :=
  let r := (s.zoneRec z).recount (s.body.zone z) s.body.countFloor s.tracks
  if (s.body.zone z).enabled = true ∧ (r.occupancy ≠ (s.zoneRec z).occupancy ∨ r.warnMark ≠ (s.zoneRec z).warnMark) then
    r.evaluate (s.body.zone z) s.vehicle.conds
  else s.zoneRec z

/-- R118: every enabled zone is recounted. -/
theorem State.recountZones_taken (s : State) : s.ZonesTaken s.recountZones s.recounted := by
  refine State.zonesTaken_foldl fun u z rest own => ?_
  obtain ⟨-, -, -, -, -, -, vehicle, tracks, -, -, settings, -⟩ := State.besideZones_fields rest
  have body : u.body = s.body := congrArg SettingsBlock.working settings
  show u.ZoneTaken (u.recountZone z) z _
  unfold State.recountZone State.recounted
  rw [← own, ← body, ← vehicle, ← tracks]
  simp only [Bool.and_eq_true, Bool.or_eq_true, bne_iff_ne]
  split
  · exact u.takeZone_taken z _
  · exact .refl u z

end Sys2Proof.Machine
end

section
/-! SUPPORT. A request whose block raises notices (R179, R181, R182): the reply joins the queue after them (log 19). -/

namespace Sys2Proof.Machine

section
variable {s u : State} {l : Link} {row : RequestRow} {r : Request} {act : Request → State → State × Answer} {a : Answer}

/-- R182: notices leave the requests that wait. -/
theorem State.Raised.inbound (h : State.Raised s u) (m : Link) : (u.ctl m).inbound = (s.ctl m).inbound :=
  h (fun m c => c.inbound = (s.ctl m).inbound)
    ⟨fun _ c n _ waits => (c.pushNotice_keeps n).1.trans waits, fun _ _ _ waits => waits⟩ (fun _ => rfl) m

/-- R181, R182: the reply joins the queue after the notices. -/
theorem State.replied_of_raised (raised : State.Raised (s.taken l) u) : s.Replied (u.reply l r a).settle l r a := by
  have waits : ∀ m, ((u.reply l r a).ctl m).inbound = ((s.taken l).ctl m).inbound := fun m => by
    by_cases e : m = l
    · subst e
      rw [State.reply_ctl_self]
      exact (LinkCtl.makeRoom_keeps _).1.trans (raised.inbound m)
    · rw [State.reply_ctl_of_ne _ _ _ e, raised.inbound]
  obtain ⟨inbound, outbound, -, -, -⟩ := (u.reply l r a).settle_ctl l
  refine ⟨?_, ?_, fun m e => ?_⟩
  · rw [inbound, waits, State.taken, State.ctl_setCtl_self]
  · rw [outbound, State.reply_ctl_self]
    exact List.getLast?_concat
  · rw [((u.reply l r a).settle_ctl m).1, waits, State.taken, State.ctl_setCtl_of_ne _ _ _ _ e]

/-- A block that raises notices: its state, and the reply after them. -/
theorem State.Ready.worked (h : s.Ready l row r) (acts : act r (s.taken l) = (u, a)) (raised : State.Raised (s.taken l) u) :
    ∃ t, whileRunning s (answering row l act) = .next t ∧ s.Replied t l r a ∧ t.besideLinks = u.besideLinks := by
  refine ⟨_, whileRunning_running h.running _, ?_⟩
  rw [h.answering_eq, acts]
  exact ⟨State.replied_of_raised raised, rfl⟩

/-- R179, R172: a request too short is MALFORMED, and no block is asked. -/
theorem answering_short (running : s.phase = .running) (head : (s.ctl l).inbound.head? = some r)
    (room : (s.ctl l).canReply = true) (kind : r.row = row) (short : r.tooShort = true) :
    ∃ t, whileRunning s (answering row l act) = .next t ∧ s.OnlyReplied t l r (.refuse .malformed) ∧
      t.besideLinks = s.besideLinks := by
  obtain ⟨rest, queue⟩ := List.head?_eq_some_iff.mp head
  have taken : s.taken l = s.setCtl l { s.ctl l with inbound := rest } := by rw [State.taken, queue]; rfl
  have answered : answering row l act s = (s.taken l).reply l r (.refuse .malformed) := by
    simp [answering, State.takeHead_ready queue room kind, short, taken]
  refine ⟨_, whileRunning_running running _, ?_⟩
  rw [answered]
  exact ⟨State.onlyReplied_of_links rfl, rfl⟩

end

end Sys2Proof.Machine
end

section
/-! The timers of a zone (R120, R122): O40; and ZONE_ACK (R123): O41. -/

namespace Sys2Proof.Machine

/-! ## The timers of a zone (O40) -/

/-- R119, R127: a zone that is not IDLE is enabled. -/
theorem State.ZonesOk.enabled {s : State} (h : s.ZonesOk) {z : Zone} (busy : (s.zoneRec z).state ≠ .idle) :
    (s.body.zone z).enabled = true := by
  by_contra off
  exact busy ((h z).2 (Bool.eq_false_iff.mpr off))

/-- R120: an armed, empty zone whose hold timer has expired is CLEAR. -/
theorem ZoneRec.evaluate_expired {r : ZoneRec} {cfg : ZoneSettings} {c : Conditions} (hold : r.state = .hold)
    (armed : cfg.armed c = true) (empty : r.occupancy = 0) :
    ({ r with holdTimer := none } : ZoneRec).evaluate cfg c = ({ r with holdTimer := none } : ZoneRec).toClear :=
  ZoneRec.evaluate_released (r := { r with holdTimer := none }) armed empty hold rfl

/-- R120: the hold timer of an enabled zone expires. -/
theorem State.holdExpiry_taken {s : State} {z : Zone} (runs : (s.zoneRec z).holdTimer ≠ none)
    (enabled : (s.body.zone z).enabled = true) :
    s.ZoneTaken (s.holdExpiry z) z
      (({ s.zoneRec z with holdTimer := none } : ZoneRec).evaluate (s.body.zone z) s.vehicle.conds) := by
  rw [State.holdExpiry, if_neg runs, if_pos enabled]
  exact s.takeZone_taken z _

/-- R122: the record when a dwell period ends: the dwell has risen, and where it rises to a non-zero dwell limit it is evaluated. -/
def ZoneRec.afterPeriod (r : ZoneRec) (cfg : ZoneSettings) (c : Conditions) : ZoneRec :=
  if r.dwell < 999 ∧ cfg.dwellLimit ≠ 0 ∧ r.dwelled.dwell = cfg.dwellLimit then r.dwelled.evaluate cfg c else r.dwelled

/-- R122: a dwell period of an enabled zone ends. -/
theorem State.dwellEnd_taken {s : State} {z : Zone} (runs : (s.zoneRec z).dwellTimer ≠ none)
    (enabled : (s.body.zone z).enabled = true) (range : (s.zoneRec z).dwell ≤ 999) :
    s.ZoneTaken (s.dwellEnd z) z ((s.zoneRec z).afterPeriod (s.body.zone z) s.vehicle.conds) := by
  have rises : (s.zoneRec z).dwelled.dwell ≠ (s.zoneRec z).dwell ↔ (s.zoneRec z).dwell < 999 := by
    simp only [ZoneRec.dwelled]
    omega
  simp only [State.dwellEnd, if_neg runs, rises, enabled, and_true, ZoneRec.afterPeriod]
  split
  · exact s.takeZone_taken z _
  · exact .set s z fun onset => onset.2.1 onset.1

/-- R121, R122: a dwell that rises to equal the limit makes an armed, occupied zone WARNING. -/
theorem ZoneRec.afterPeriod_warns {r : ZoneRec} {cfg : ZoneSettings} {c : Conditions} (armed : cfg.armed c = true)
    (occupied : r.occupancy ≠ 0) (below : r.dwell < 999) (meets : r.dwell + 1 = cfg.dwellLimit) :
    (r.afterPeriod cfg c).state = .warning := by
  have dwell : r.dwelled.dwell = cfg.dwellLimit := (Nat.min_eq_left (by omega)).trans meets
  have serious : cfg.level c r.dwelled = .warning :=
    ZoneSettings.level_warning.mpr (.inr (.inr ⟨by omega, dwell.ge⟩))
  rw [ZoneRec.afterPeriod, if_pos ⟨below, by omega, dwell⟩, ZoneRec.evaluate_occupied (r := r.dwelled) armed occupied, serious]
  rfl

/-- A command that gives one zone its record. -/
theorem State.ZoneTaken.ends {s : State} {f : State → State} {z : Zone} {r : ZoneRec} (h : s.ZoneTaken (f s) z r)
    (running : s.phase = .running) :
    ∃ t, whileRunning s f = .next t ∧ t.zoneRec z = r ∧ (∀ y, y ≠ z → t.zoneRec y = s.zoneRec y) ∧
      t.OnsetsTaken s.zoneRec t.zoneRec s.arbiter t.arbiter ∧ t.besideZones = s.besideZones := by
  refine ⟨_, whileRunning_running running f, ?_⟩
  have onsets := h.onsets
  obtain ⟨own, others, rest, -⟩ := h
  generalize f s = u at own others rest onsets
  obtain ⟨-, -, -, -, -, -, vehicle, -, -, -, settings, -⟩ := State.besideZones_fields rest
  exact ⟨own, others, onsets.congr (congrArg SettingsBlock.working settings) vehicle, rest⟩

/-- Settles O40: an expiry gives one enabled zone its record, and the onset of that zone is the only one. -/
theorem zoneTimersExpire : Obligations.ZoneTimersExpire := by
  refine ⟨fun s z running ok runs => ?_, fun s z running ok runs => ?_⟩
  · have hold : (s.zoneRec z).state = .hold := (ok z).1.hold.mp (Option.isSome_iff_ne_none.mpr runs)
    have taken := s.holdExpiry_taken runs (ok.enabled (by simp [hold]))
    obtain ⟨t, next, own, others, onsets, rest⟩ := taken.ends (f := fun u => u.holdExpiry z) running
    refine ⟨t, next, own, fun armed empty => ?_, others, onsets, rest⟩
    rw [own, ZoneRec.evaluate_expired hold armed empty]
    exact ⟨rfl, rfl, rfl⟩
  · have dwells : (s.zoneRec z).state = .caution ∨ (s.zoneRec z).state = .warning :=
      (ok z).1.dwelling.mp (Option.isSome_iff_ne_none.mpr runs)
    have busy : (s.zoneRec z).state ≠ .idle := by rcases dwells with h | h <;> simp [h]
    have taken := s.dwellEnd_taken runs (ok.enabled busy) (ok z).1.dwell
    obtain ⟨t, next, own, others, onsets, rest⟩ := taken.ends (f := fun u => u.dwellEnd z) running
    refine ⟨t, next, own, fun armed occupied below meets => ?_, others, onsets, rest⟩
    rw [own]
    exact ZoneRec.afterPeriod_warns armed occupied below meets

/-! ## ZONE_ACK (O41) -/

/-- R134: in WARNING, or in HOLD with held level WARNING. -/
theorem ZoneRec.face_warns {r : ZoneRec} : r.face.warns = true ↔ r.state = .warning ∨ (r.state = .hold ∧ r.held = .warning) := by
  simp [ZoneRec.face, ZoneFace.warns]

section
variable {l : Link} {r : Request} {s : State}

theorem actZoneAck_malformed (h : 7 < u8At r.fields 0) : actZoneAck l r s = (s, .refuse .malformed) := by
  simp only [actZoneAck]
  rw [dif_neg (by omega)]

variable {z : Zone} (zone : u8At r.fields 0 = z.val)
include zone

/-- R123: what is asked of a zone that there is, in order. -/
theorem actZoneAck_zone :
    actZoneAck l r s =
      if !(s.body.zone z).ackRights.getLsbD l.ix.val then (s, .refuse .notPermitted)
      else if !(s.zoneRec z).face.warns then (s, .refuse .notWarning)
      else (s.takeZone z { s.zoneRec z with acked := true }, .done) := by
  have same : ∀ h : u8At r.fields 0 < 8, (⟨u8At r.fields 0, h⟩ : Zone) = z := fun _ => Fin.ext zone
  have small : u8At r.fields 0 < 8 := zone ▸ z.isLt
  simp only [actZoneAck, dif_pos small, same]

end

/-- R124: an acknowledgement is no onset; it reaches the zone, the alert unit and the notices. -/
theorem State.takeZone_acked (s : State) (z : Zone) :
    let t := s.takeZone z { s.zoneRec z with acked := true }
    { t with links := s.links, zones := s.zones, alert := s.alert } = s := by
  have none : ¬ (s.zoneRec z).Onset { s.zoneRec z with acked := true } := fun onset => onset.2.1 onset.1
  rw [State.takeZone_of_none (.inl none), State.noticedZone]
  dsimp only
  split <;> rfl

/-- Settles O41: the checks of R123 one after another; an acknowledgement that is taken is no onset. -/
theorem zoneAckIsJudgedInOrder : Obligations.ZoneAckIsJudgedInOrder := by
  refine ⟨fun s l r running head room kind short => answering_short running head room kind short, fun s l r ready => ?_⟩
  intro Refused
  refine ⟨fun beyond => ready.refused (actZoneAck_malformed beyond), fun z zone => ?_⟩
  intro right warns
  have judged : ∀ u, actZoneAck l r u = _ := fun u => actZoneAck_zone zone
  have asked : ((s.taken l).body.zone z).ackRights.getLsbD l.ix.val = right := rfl
  have stands : ((s.taken l).zoneRec z).face.warns = true ↔ warns := ZoneRec.face_warns
  refine ⟨fun denied => ready.refused ?_, fun granted calm => ready.refused ?_, fun granted alarmed => ?_⟩
  · rw [judged, asked, denied]; rfl
  · rw [judged, asked, granted, Bool.eq_false_iff.mpr (mt stands.mp calm)]; rfl
  · have acts : actZoneAck l r (s.taken l) =
        ((s.taken l).takeZone z { (s.taken l).zoneRec z with acked := true }, .done) := by
      rw [judged, asked, granted, stands.mpr alarmed]; rfl
    obtain ⟨t, next, replied, rest⟩ := ready.worked acts ((s.taken l).takeZone_raised _ _)
    have taken := (s.taken l).takeZone_taken z { (s.taken l).zoneRec z with acked := true }
    have zones : ∀ y, t.zoneRec y = _ := fun y => (congrArg (fun v : State => v.zoneRec y) rest :)
    refine ⟨t, next, (zones z).trans taken.own, fun y e => (zones y).trans (taken.others y e), replied, ?_⟩
    exact (congrArg (fun v : State => { v with links := s.links, zones := s.zones, alert := s.alert }) rest :).trans
      (congrArg (fun v : State => { v with links := s.links }) ((s.taken l).takeZone_acked z) :)

end Sys2Proof.Machine
end

section
/-! SUPPORT. The track table's choices (R113, R114): the lowest empty place, the entry an eviction looks for; and one place set, with
the recount that follows (R118). -/

namespace Sys2Proof.Machine

/-! ## The lowest empty place (R113) -/

section
variable {t : Tracks}

theorem Tracks.emptyPlace_eq_some {p : Place} (empty : t.places[p] = none) (lowest : ∀ q : Place, q < p → t.places[q] ≠ none) :
    t.emptyPlace = some p := by
  simp only [Tracks.emptyPlace, List.find?_eq_some_iff_getElem, List.getElem_finRange, List.length_finRange,
    Option.isNone_iff_eq_none, Bool.not_eq_true', Option.isNone_eq_false_iff, Option.isSome_iff_ne_none]
  exact ⟨empty, p.val, p.isLt, rfl, fun q hq => lowest ⟨q, by omega⟩ hq⟩

theorem Tracks.emptyPlace_eq_none (full : ∀ p : Place, t.places[p] ≠ none) : t.emptyPlace = none :=
  List.find?_eq_none.mpr fun p _ empty => full p (Option.isNone_iff_eq_none.mp empty)

/-! ## The entry an eviction looks for (R114) -/

/-- R114: an entry in its place goes before every entry that lies in another place. -/
def Tracks.Weakest (t : Tracks) (p : Place) (e : Track) : Prop :=
  t.places[p] = some e ∧ ∀ q : Place, q ≠ p → ∃ f, t.places[q] = some f ∧
    (e.confidence < f.confidence ∨ (e.confidence = f.confidence ∧ (f.age < e.age ∨ (f.age = e.age ∧ p < q))))

/-- The search below a place finds an entry below it, or none. -/
theorem Tracks.weaker_below {p : Place} {best : Option (Place × Track)} (q : List Place) (below : ∀ x ∈ q, x < p)
    (from_ : ∀ x k, best = some (x, k) → x < p ∧ t.places[x] = some k) :
    ∀ x k, q.foldl t.weaker best = some (x, k) → x < p ∧ t.places[x] = some k := by
  induction q generalizing best with
  | nil => exact from_
  | cons y q ih =>
    refine ih (fun x hx => below x (List.mem_cons_of_mem y hx)) fun x k found => ?_
    have own : ∀ k, t.places[y] = some k → y < p ∧ t.places[y] = some k := fun k place => ⟨below y List.mem_cons_self, place⟩
    unfold Tracks.weaker at found
    split at found
    · exact from_ x k found
    · rename_i k' _ place
      obtain ⟨rfl, rfl⟩ := Prod.mk.inj (Option.some.inj found)
      exact own _ place
    · rename_i k' z m _ place
      split at found
      · obtain ⟨rfl, rfl⟩ := Prod.mk.inj (Option.some.inj found)
        exact own _ place
      · exact from_ x k found

variable {p : Place} {e : Track} (h : t.Weakest p e)
include h

/-- R114: the weakest entry is taken in place of one before it. -/
theorem Tracks.Weakest.takes {best : Option (Place × Track)} (before : ∀ x k, best = some (x, k) → x < p ∧ t.places[x] = some k) :
    t.weaker best p = some (p, e) := by
  obtain ⟨place, others⟩ := h
  unfold Tracks.weaker
  rw [place]
  cases best with
  | none => rfl
  | some found =>
    obtain ⟨q, m⟩ := found
    obtain ⟨lt, there⟩ := before q m rfl
    obtain ⟨f, same, loses⟩ := others q (ne_of_lt lt)
    obtain rfl := Option.some.inj (there.symm.trans same)
    have later : ¬ p < q := lt_asymm lt
    have weaker : e.confidence < m.confidence ∨ (e.confidence = m.confidence ∧ m.age < e.age) := by
      simpa only [later, and_false, or_false] using loses
    exact if_pos weaker

/-- R114: the weakest entry stands against one after it. -/
theorem Tracks.Weakest.stands {q : Place} (after : p < q) : t.weaker (some (p, e)) q = some (p, e) := by
  obtain ⟨-, others⟩ := h
  obtain ⟨f, there, loses⟩ := others q (ne_of_gt after)
  unfold Tracks.weaker
  rw [there]
  exact if_neg (by omega)

/-- R114: the search finds the weakest entry. -/
theorem Tracks.Weakest.found : t.weakest = some (p, e) := by
  obtain ⟨before, after, places⟩ := List.append_of_mem (List.mem_finRange p)
  have sorted := List.pairwise_lt_finRange 16
  rw [places] at sorted
  obtain ⟨-, above, below⟩ := List.pairwise_append.mp sorted
  have stands : ∀ q : List Place, (∀ x ∈ q, p < x) → q.foldl t.weaker (some (p, e)) = some (p, e) := by
    intro q later
    induction q with
    | nil => rfl
    | cons x q ih =>
      rw [List.foldl_cons, h.stands (later x List.mem_cons_self)]
      exact ih fun y hy => later y (List.mem_cons_of_mem x hy)
  have first := Tracks.weaker_below (t := t) (best := none) before (fun x hx => below x hx p List.mem_cons_self)
    fun _ _ none => nomatch none
  rw [Tracks.weakest, places, List.foldl_append, List.foldl_cons, h.takes first]
  exact stands after (List.pairwise_cons.mp above).1

theorem Tracks.Weakest.full (q : Place) : t.places[q] ≠ none := by
  obtain ⟨place, others⟩ := h
  by_cases e : q = p
  · subst e
    simp [place]
  · obtain ⟨f, there, -⟩ := others q e
    simp [there]

end

/-! ## One place set (R118) -/

/-- From s to t one place of the track table has been set and the zones were recounted. -/
structure State.PlaceSet (s t : State) (p : Place) (k : Option Track) : Prop where
  tracks : t.tracks = s.tracks.withPlace p k
  recounted : s.Recounted t
  rest : t.besideTracks = s.besideTracks

/-- R118: the zones are recounted over a table put in place of the old. -/
theorem State.recounted_over (s : State) (table : Tracks) : s.Recounted (State.recountZones { s with tracks := table }) := by
  have taken := State.recountZones_taken { s with tracks := table }
  generalize State.recountZones { s with tracks := table } = t at taken
  obtain ⟨zones, rest, onsets⟩ := taken
  obtain ⟨-, -, -, -, -, -, vehicle, tracks, -, -, settings, -⟩ := State.besideZones_fields rest
  refine ⟨fun z => ?_, ?_⟩
  · dsimp only
    rw [zones, tracks, vehicle]
    rfl
  · rw [zones]
    exact onsets.congr (congrArg SettingsBlock.working settings) vehicle

theorem State.setPlace_set (s : State) (p : Place) (k : Option Track) : s.PlaceSet (s.setPlace p k) p k := by
  refine ⟨s.setPlace_tracks p k, ?_, ?_⟩
  · rw [State.setPlace_eq]
    exact s.recounted_over _
  · rw [State.setPlace_eq]
    exact (State.besideTracks_of_zones (State.besideZones_recountZones _)).trans rfl

theorem State.settle_besideLinks (s : State) : s.settle.besideLinks = s.besideLinks := rfl

section
variable {s t u : State} {p : Place} {k : Option Track}

/-- What has been set stands when the link controllers alone change. -/
theorem State.PlaceSet.links (h : s.PlaceSet u p k) (rest : t.besideLinks = u.besideLinks) : s.PlaceSet t p k := by
  have zones := State.besideZones_of_views (State.besideViews_of_links rest)
  obtain ⟨-, -, -, -, -, -, vehicle, tracks, -, -, settings, -⟩ := State.besideZones_fields zones
  have recs : t.zoneRec = u.zoneRec := funext fun z => (congrArg (fun v : State => v.zoneRec z) rest :)
  have arbiter : t.arbiter = u.arbiter := (congrArg State.arbiter rest :)
  obtain ⟨table, ⟨records, onsets⟩, beside⟩ := h
  refine ⟨tracks.trans table, ⟨?_, ?_⟩, (State.besideTracks_of_zones zones).trans beside⟩
  · rw [recs, tracks, vehicle]
    exact records
  · rw [recs, arbiter]
    exact onsets.congr (congrArg SettingsBlock.working settings) vehicle

/-- The request that has left its queue is no part of what a place is set in. -/
theorem State.PlaceSet.of_taken {l : Link} (h : (s.taken l).PlaceSet t p k) : s.PlaceSet t p k := by
  obtain ⟨tracks, ⟨zones, onsets⟩, rest⟩ := h
  exact ⟨tracks, ⟨zones, onsets⟩, rest⟩

theorem State.PlaceSet.place (h : s.PlaceSet t p k) :
    t.tracks.places[p] = k ∧ (∀ q : Place, q ≠ p → t.tracks.places[q] = s.tracks.places[q]) ∧
      t.tracks.contacts = s.tracks.contacts := by
  rw [h.tracks]
  exact ⟨Tracks.withPlace_self _ _ _, fun q other => Tracks.withPlace_of_ne _ _ other, rfl⟩

/-- A request whose block sets a place. -/
theorem State.Ready.placed {l : Link} {row : RequestRow} {r : Request} {act : Request → State → State × Answer} {a : Answer}
    (h : s.Ready l row r) (acts : act r (s.taken l) = ((s.taken l).setPlace p k, a)) :
    ∃ t, whileRunning s (answering row l act) = .next t ∧ s.PlaceSet t p k ∧ s.Replied t l r a := by
  obtain ⟨t, next, replied, rest⟩ := h.worked acts ((s.taken l).setPlace_raised p k)
  exact ⟨t, next, ((s.taken l).setPlace_set p k).of_taken.links rest, replied⟩

/-- A request whose block answers and changes nothing, as one whose reply joins the queue last. -/
theorem State.Ready.unchanged {l : Link} {row : RequestRow} {r : Request} {act : Request → State → State × Answer} {a : Answer}
    (h : s.Ready l row r) (acts : act r (s.taken l) = (s.taken l, a)) :
    ∃ t, whileRunning s (answering row l act) = .next t ∧ s.Replied t l r a ∧ t.besideLinks = s.besideLinks := by
  obtain ⟨t, next, replied, rest⟩ := h.worked acts (.refl _)
  exact ⟨t, next, replied, rest⟩

end

end Sys2Proof.Machine
end

section
/-! A track leaves its place (R115, R116): O37; and a TRACK_UPDATE (R112 to R114): O36. -/

namespace Sys2Proof.Machine

/-! ## Expiry and drop (O37) -/

section
variable {s : State} {l : Link} {r : Request}

theorem actTrackDrop_known {p : Place} (found : s.tracks.find l (u8At r.fields 0) = some p) :
    actTrackDrop l r s = (s.setPlace p none, .done) := by
  simp only [actTrackDrop, found]

theorem actTrackDrop_unknown (none : s.tracks.find l (u8At r.fields 0) = none) :
    actTrackDrop l r s = (s, .refuse .unknownTrack) := by
  simp only [actTrackDrop, none]

end

/-- Settles O37: one place is set to none and the zones are recounted. -/
theorem trackExpiryAndDropEmptyThePlace : Obligations.TrackExpiryAndDropEmptyThePlace := by
  refine ⟨fun s p running held => ?_, fun s l r ready => ⟨fun ok p e place source id => ?_, fun unknown => ?_⟩⟩
  · have next : exec (.trackExpiry p) s = .next (s.setPlace p none).settle := by
      show whileRunning s (fun u => u.trackExpiry p) = _
      rw [whileRunning_running running, State.trackExpiry, if_neg held]
    have set := (s.setPlace_set p none).links (State.settle_besideLinks _)
    obtain ⟨own, others, contacts⟩ := set.place
    exact ⟨_, next, own, others, contacts, set.recounted, set.rest⟩
  · have found : (s.taken l).tracks.find l (u8At r.fields 0) = some p := ok.find_eq place ⟨source, id⟩
    obtain ⟨t, next, set, replied⟩ := ready.placed (actTrackDrop_known found)
    obtain ⟨own, others, contacts⟩ := set.place
    exact ⟨t, next, own, others, contacts, set.recounted, replied, set.rest⟩
  · exact ready.refused (actTrackDrop_unknown (s := s.taken l) (Tracks.find_none.mpr unknown))

/-! ## A new track (R113, R114) -/

section
variable {s : State} {k : Track}

theorem State.takeNew_low (low : k.confidence < s.body.admissionFloor) : s.takeNew k = (s, trackAnswer false none none) :=
  if_pos low

section
variable (high : s.body.admissionFloor ≤ k.confidence)
include high

theorem State.takeNew_empty {p : Place} (empty : s.tracks.emptyPlace = some p) :
    s.takeNew k = (s.setPlace p (some k), trackAnswer true (some p) none) := by
  rw [State.takeNew, if_neg (not_lt.mpr high), empty]

/-- R114: with a full table the weakest entry leaves for a track of higher confidence. -/
theorem State.takeNew_full {p : Place} {e : Track} (weakest : s.tracks.Weakest p e) :
    s.takeNew k =
      if e.confidence < k.confidence then (s.setPlace p (some k), trackAnswer true (some p) (some e))
      else (s, .refuse .tableFull) := by
  rw [State.takeNew, if_neg (not_lt.mpr high), Tracks.emptyPlace_eq_none weakest.full, weakest.found]

end

end

/-- Settles O36: the rules of R112 to R114 one after another. -/
theorem trackUpdateKeepsAdmitsOrEvicts : Obligations.TrackUpdateKeepsAdmitsOrEvicts := by
  refine ⟨fun s l r cls ready known id => ?_, fun s l r ready bad => ready.refused (actTrackUpdate_malformed bad)⟩
  intro k Same Done Set
  have beside : ∀ t : State, t.besideLinks = s.besideLinks → t.tracks.contacts = s.tracks.contacts ∧
      t.besideTracks = s.besideTracks := fun t rest =>
    ⟨(congrArg (fun u : State => u.tracks.contacts) rest :),
      State.besideTracks_of_zones (State.besideZones_of_views (State.besideViews_of_links rest))⟩
  have placed : ∀ p fields, actTrackUpdate l r (s.taken l) = ((s.taken l).setPlace p (some k), ⟨.done, fields⟩) →
      ∃ t, Done t .done fields ∧ Set t p := fun p fields acts => by
    obtain ⟨t, next, set, replied⟩ := ready.placed acts
    obtain ⟨own, others, contacts⟩ := set.place
    exact ⟨t, ⟨next, replied, contacts, set.rest⟩, own, others, set.recounted⟩
  have kept : ∀ code fields, actTrackUpdate l r (s.taken l) = (s.taken l, ⟨code, fields⟩) →
      ∃ t, Done t code fields ∧ t.besideLinks = s.besideLinks := fun code fields acts => by
    obtain ⟨t, next, replied, rest⟩ := ready.unchanged acts
    obtain ⟨contacts, tracks⟩ := beside t rest
    exact ⟨t, ⟨next, replied, contacts, tracks⟩, rest⟩
  have new : (∀ p, ¬ Same p) → actTrackUpdate l r (s.taken l) = (s.taken l).takeNew k := fun none =>
    actTrackUpdate_new (s := s.taken l) known id (Tracks.find_none.mpr fun p e place is => none p ⟨e, place, is.1, is.2⟩)
  refine ⟨fun ok p same => ?_, fun none low => ?_, fun none high p empty lowest => ?_, fun none high p e place others => ?_⟩
  · obtain ⟨e, place, source, number⟩ := same
    have found : (s.taken l).tracks.find l (u8At r.fields 0) = some p := ok.find_eq place ⟨source, number⟩
    exact placed p _ (actTrackUpdate_known known id found)
  · exact kept _ _ ((new none).trans (State.takeNew_low low))
  · have free : (s.taken l).tracks.emptyPlace = some p := Tracks.emptyPlace_eq_some (t := s.tracks) empty lowest
    have admitted := (new none).trans (State.takeNew_empty (s := s.taken l) (k := k) high free)
    exact placed p _ admitted
  · have judged := (new none).trans (State.takeNew_full (s := s.taken l) high ⟨place, others⟩)
    refine ⟨fun stronger => ?_, fun weaker => ?_⟩
    · exact placed p _ (judged.trans (if_pos stronger))
    · exact kept _ _ (judged.trans (if_neg (not_lt.mpr weaker)))

end Sys2Proof.Machine
end

section
/-! The occupancy of a zone (R118): O39. -/

namespace Sys2Proof.Machine

/-! ## Counts that match the table -/

/-- R118: a record's occupancy and warn-class mark are those that the table and the contacts give. -/
def ZoneRec.Matches (r : ZoneRec) (cfg : ZoneSettings) (floor : Nat) (t : Tracks) : Prop :=
  r.occupancy = cfg.occupancy floor t ∧ r.warnMark = (cfg.counted floor t).any fun k => cfg.warnClasses.getLsbD k.cls.index

/-- R118: the records of the enabled zones match the table. -/
def State.Counted (s : State) : Prop :=
  ∀ z, (s.body.zone z).enabled = true → (s.zoneRec z).Matches (s.body.zone z) s.body.countFloor s.tracks

theorem ZoneRec.recount_matches (r : ZoneRec) (cfg : ZoneSettings) (floor : Nat) (t : Tracks) :
    (r.recount cfg floor t).Matches cfg floor t := by
  rw [ZoneRec.recount_eq]
  exact ⟨rfl, rfl⟩

/-- The evaluation leaves the counts. -/
theorem ZoneRec.Matches.evaluate {r : ZoneRec} {cfg : ZoneSettings} {floor : Nat} {t : Tracks} (h : r.Matches cfg floor t)
    (c : Conditions) : (r.evaluate cfg c).Matches cfg floor t := by
  obtain ⟨occupancy, warnMark⟩ := r.evaluate_counts cfg c
  exact ⟨occupancy.trans h.1, warnMark.trans h.2⟩

section
variable {s t : State}

/-- The counts between two states that agree in zones, settings and tracks. -/
theorem State.Counted.congr (h : s.Counted) (zones : t.zones = s.zones) (settings : t.settings = s.settings)
    (tracks : t.tracks = s.tracks) : t.Counted := by
  intro z enabled
  have matches' := h z (by rwa [State.body, settings] at enabled)
  rwa [State.zoneRec, State.body, zones, settings, tracks]

/-- R118: after a recount every enabled zone's counts match. -/
theorem State.recountZones_counted (s : State) : s.recountZones.Counted := by
  have taken := s.recountZones_taken
  generalize s.recountZones = t at taken
  obtain ⟨zones, rest, -⟩ := taken
  obtain ⟨-, -, -, -, -, -, -, tracks, -, -, settings, -⟩ := State.besideZones_fields rest
  have body : t.body = s.body := congrArg SettingsBlock.working settings
  intro z enabled
  rw [body] at enabled
  rw [body, tracks, zones, State.recounted]
  have fresh := (s.zoneRec z).recount_matches (s.body.zone z) s.body.countFloor s.tracks
  split
  · exact fresh.evaluate _
  · rename_i same
    obtain ⟨occupancy, warnMark⟩ : _ ∧ _ := by simpa [enabled] using same
    exact ⟨occupancy.symm.trans fresh.1, warnMark.symm.trans fresh.2⟩

/-- R119: an evaluation leaves the counts. -/
theorem State.Counted.evaluateZones (h : s.Counted) : s.evaluateZones.Counted := by
  have taken := s.evaluateZones_taken
  generalize s.evaluateZones = t at taken
  obtain ⟨zones, rest, -⟩ := taken
  obtain ⟨-, -, -, -, -, -, -, tracks, -, -, settings, -⟩ := State.besideZones_fields rest
  have body : t.body = s.body := congrArg SettingsBlock.working settings
  intro z enabled
  rw [body] at enabled
  rw [body, tracks, zones, State.evaluated, if_pos enabled]
  exact (h z enabled).evaluate _

theorem State.body_of_besideZones (h : t.besideZones = s.besideZones) : t.body = s.body :=
  (congrArg State.body h :)

/-- What the arbiter and the link controllers do leaves the counts. -/
theorem State.Counted.views (h : s.Counted) (rest : t.besideViews = s.besideViews) : t.Counted := by
  obtain ⟨-, -, -, -, -, -, -, tracks, zones, -, -, -, settings, -⟩ := State.besideViews_fields rest
  exact h.congr zones settings tracks

/-- R103: what is handed on leaves the counts. -/
theorem State.Counted.handOn (h : s.Counted) (before : State) : (State.handOn before s).Counted := by
  have chosen : ∀ u : State, u.Counted → u.choose.Counted := fun u hu => hu.views (State.besideViews_choose u)
  have ended : ∀ u : State, u.Counted → u.endMasked.Counted := fun u hu => hu.views (State.besideViews_endMasked u)
  have evaluated : (if before.vehicle.conds ≠ s.vehicle.conds then s.evaluateZones else s).Counted := by
    split
    · exact h.evaluateZones
    · exact h
  unfold State.handOn
  dsimp only
  generalize (if before.vehicle.conds ≠ s.vehicle.conds then s.evaluateZones else s) = u at evaluated
  have told : (if before.vehicle.speed ≠ s.vehicle.speed then u.endMasked.choose else u).Counted := by
    split
    · exact chosen _ (ended u evaluated)
    · exact evaluated
  generalize (if before.vehicle.speed ≠ s.vehicle.speed then u.endMasked.choose else u) = v at told
  split
  · exact chosen v told
  · exact told

end

/-! ## The commands that change the table (O39) -/

/-- From s to t the settings in force stay; the counts match in t, or the tracks and contacts stay and with them counts that match. -/
structure State.CountsFollow (s t : State) : Prop where
  body : t.body = s.body
  counts : t.Counted ∨ (t.tracks = s.tracks ∧ (s.Counted → t.Counted))

section
variable {s t u : State}

theorem State.CountsFollow.refl (s : State) : s.CountsFollow s := ⟨rfl, .inr ⟨rfl, id⟩⟩

theorem State.CountsFollow.trans (h : s.CountsFollow t) (g : t.CountsFollow u) : s.CountsFollow u := by
  obtain ⟨body, first⟩ := h
  obtain ⟨bodyU, second⟩ := g
  refine ⟨bodyU.trans body, ?_⟩
  rcases second with counted | ⟨same, keeps⟩
  · exact .inl counted
  · exact first.imp keeps fun ⟨tracks, kept⟩ => ⟨same.trans tracks, keeps ∘ kept⟩

theorem State.CountsFollow.of_links (h : t.besideLinks = s.besideLinks) : s.CountsFollow t := by
  have views := State.besideViews_of_links h
  exact ⟨State.body_of_besideZones (State.besideZones_of_views views),
    .inr ⟨State.tracks_of_besideZones (State.besideZones_of_views views), fun counted => counted.views views⟩⟩

end

/-- R118: a table put in place of the old, with its recount. -/
theorem State.recounted_follows {s u : State} (settings : u.settings = s.settings) : s.CountsFollow u.recountZones :=
  ⟨(State.body_of_besideZones (State.besideZones_recountZones u)).trans (congrArg SettingsBlock.working settings),
    .inl u.recountZones_counted⟩

theorem State.setPlace_follows (s : State) (p : Place) (k : Option Track) : s.CountsFollow (s.setPlace p k) :=
  State.recounted_follows (u := { s with tracks := s.tracks.withPlace p k }) rfl

theorem actTrackUpdate_follows (l : Link) (r : Request) (s : State) : s.CountsFollow (actTrackUpdate l r s).1 := by
  rcases actTrackUpdate_cases l r s with same | ⟨p, cls, -, -, placed⟩
  · rw [same]
    exact .refl s
  · rw [placed]
    exact s.setPlace_follows _ _

theorem actTrackDrop_follows (l : Link) (r : Request) (s : State) : s.CountsFollow (actTrackDrop l r s).1 := by
  rcases actTrackDrop_cases l r s with same | ⟨p, dropped⟩
  · rw [same]
    exact .refl s
  · rw [dropped]
    exact s.setPlace_follows _ _

theorem State.trackExpiry_follows (s : State) (p : Place) : s.CountsFollow (s.trackExpiry p) := by
  unfold State.trackExpiry
  split
  · exact .refl s
  · exact s.setPlace_follows _ _

/-- R103: what is handed on reaches no count. -/
theorem State.handOn_follows (before s : State) : s.CountsFollow (State.handOn before s) :=
  ⟨State.body_of_besideZones (State.besideZones_handOn before s),
    .inr ⟨State.tracks_of_besideZones (State.besideZones_handOn before s), fun counted => counted.handOn before⟩⟩

/-- R109, R118: a report that changes the contacts is recounted before anything is handed on. -/
theorem State.bodyReport_follows (s : State) (cycling : Bool) (c : Contacts) : s.CountsFollow (s.bodyReport cycling c) := by
  unfold State.bodyReport
  dsimp only
  refine .trans ?_ (State.handOn_follows s _)
  split
  · rename_i same
    have tracks : ({ s.tracks with contacts := c } : Tracks) = s.tracks := by rw [← same]
    exact ⟨rfl, .inr ⟨tracks, fun counted => counted.congr rfl rfl tracks⟩⟩
  · exact State.recounted_follows rfl

theorem actBodyState_follows (l : Link) (r : Request) (s : State) : s.CountsFollow (actBodyState l r s).1 := by
  unfold actBodyState
  split
  · exact .refl s
  split
  · exact .refl s
  · exact s.bodyReport_follows _ _

section
variable {s t : State}

/-- A command of the running KS-4 through which the counts follow. -/
theorem State.follows_work {f : State → State} (follows : ∀ u : State, u.CountsFollow (f u))
    (next : whileRunning s f = .next t) : s.CountsFollow t :=
  whileRunning_keeps (fun u => s.CountsFollow u) (fun u h => h.trans (.of_links u.settle_besideLinks)) f
    (fun u _ h => h.trans (follows u)) next (.refl s)

/-- A request through whose block the counts follow. -/
theorem State.follows_request {row : RequestRow} {l : Link} {act : Request → State → State × Answer}
    (follows : ∀ r (u : State), u.CountsFollow (act r u).1) (next : whileRunning s (answering row l act) = .next t) :
    s.CountsFollow t :=
  whileRunning_keeps (fun u => s.CountsFollow u) (fun u h => h.trans (.of_links u.settle_besideLinks)) _
    (answering_keeps (fun u => s.CountsFollow u) (fun _ _ _ h => h.trans (.of_links rfl)) row l act
      fun r u _ h => h.trans (follows r u)) next (.refl s)

theorem exec_countsFollow {i : Instr} (changes : ∃ l p, i = .trackUpdate l ∨ i = .trackDrop l ∨ i = .bodyState l ∨ i = .trackExpiry p)
    (next : exec i s = .next t) : s.CountsFollow t := by
  obtain ⟨l, p, rfl | rfl | rfl | rfl⟩ := changes
  · exact State.follows_request (actTrackUpdate_follows l) next
  · exact State.follows_request (actTrackDrop_follows l) next
  · exact State.follows_request (actBodyState_follows l) next
  · exact State.follows_work (f := fun u => u.trackExpiry p) (fun u => u.trackExpiry_follows p) next

end

/-- Settles O39: a recount sets the two values, and a command that changes the table leaves every enabled zone recounted. -/
theorem occupancyCountsTracksAndContacts : Obligations.OccupancyCountsTracksAndContacts := by
  refine ⟨fun cfg floor tracks r => r.recount_eq cfg floor tracks, fun i s t changes next changed z enabled => ?_⟩
  obtain ⟨body, counts⟩ := exec_countsFollow changes next
  have counted : t.Counted := counts.resolve_right fun same => changed same.1
  obtain ⟨occupancy, warnMark⟩ := counted z (by rwa [body])
  rw [body] at occupancy warnMark
  exact ⟨occupancy, by rw [warnMark, List.any_eq_true]; rfl⟩

end Sys2Proof.Machine
end

section
/-! SUPPORT. A choice made twice (R148, R149); what the vehicle state block hands on to the zones and the arbiter (R103, R146; log 18). -/

namespace Sys2Proof.Machine

/-! ## A choice after a choice -/

theorem State.masked_iff {s : State} {i : Cause} :
    s.masked i = true ↔
      (s.causeRec i).masks ≠ 0 ∨ ((s.body.cause i).maxSpeed ≠ 0 ∧ (s.body.cause i).maxSpeed < s.vehicle.speed) := by
  simp [State.masked, State.linkMasked, State.speedMasked]

theorem State.asking_iff {s : State} {i : Cause} :
    s.asking i = true ↔
      ((s.body.cause i).latched = true ∧ (s.causeRec i).stage ≠ .quiet) ∨
        ((s.body.cause i).latched = false ∧ (s.body.cause i).source.holds s.vehicle.conds = true) := by
  unfold State.asking
  cases (s.body.cause i).latched <;> simp

theorem State.competes_iff {s : State} {i : Cause} :
    s.competes i = true ↔ (s.body.cause i).enabled = true ∧ ¬ s.masked i = true ∧ s.asking i = true := by
  simp [State.competes, and_assoc]

section
variable {s t u : State} (h : s.ChoiceMade t)
include h

/-- R149: a choice makes no cause QUIET, and wakes none. -/
theorem State.ChoiceMade.quiet (i : Cause) : (t.causeRec i).stage = .quiet ↔ (s.causeRec i).stage = .quiet := by
  by_cases served : s.Taken i ∧ (s.causeRec i).stage = .pending
  · rw [h.served i served.1 served.2, served.2]
    simp
  · rw [h.others i served]

/-- R149: a cause in service stays as it is. -/
theorem State.ChoiceMade.inService {i : Cause} (stage : (s.causeRec i).stage = .inService) : t.causeRec i = s.causeRec i :=
  h.others i fun served => by simp [stage] at served

variable (body : t.body = s.body) (vehicle : t.vehicle = s.vehicle)
include body vehicle

/-- R148: the same causes compete after a choice. -/
theorem State.ChoiceMade.best : t.Best = s.Best := by
  have competes : t.competes = s.competes := funext fun i => Bool.eq_iff_iff.mpr (by
    simp only [State.competes_iff, State.masked_iff, State.asking_iff, h.masks i, ne_eq, h.quiet i, body, vehicle])
  funext i
  simp only [State.Best, competes, body]

/-- R149: a second choice finds nothing to do. -/
theorem State.ChoiceMade.settled (g : t.ChoiceMade u) : u.arbiter = t.arbiter := by
  have best := h.best body vehicle
  have shown : u.arbiter.shownView = t.arbiter.shownView ∧ u.arbiter.shownCause = t.arbiter.shownCause ∧
      u.arbiter.showTimer = t.arbiter.showTimer ∧ ∀ i, t.Taken i → (t.causeRec i).stage ≠ .pending := by
    rcases t.candidate_cases with ⟨-, idle⟩ | ⟨i, -, bestT⟩
    · have none : ∀ i, s.competes i = false := by
        rcases s.candidate_cases with ⟨-, none⟩ | ⟨i, -, some⟩
        · exact none
        · rw [← best] at some
          exact absurd some.1 (by simp [idle i])
      have view : t.arbiter.shownView = t.body.defaultView ∧ t.arbiter.shownCause = Option.none := by
        rw [body]
        by_cases same : s.arbiter.shownView = s.body.defaultView
        · obtain ⟨view, cause, -⟩ := h.rest none same
          exact ⟨view.trans same, cause⟩
        · obtain ⟨view, cause, -⟩ := h.back none same
          exact ⟨view, cause⟩
      obtain ⟨viewU, causeU, timerU⟩ := g.rest idle view.1
      exact ⟨viewU, causeU.trans view.2.symm, timerU, fun i taken => absurd taken.1.1 (by simp [idle i])⟩
    · have bestS : s.Best i := best ▸ bestT
      by_cases taken : s.Taken i
      · have view : (t.body.cause i).view = t.arbiter.shownView ∧ t.arbiter.shownCause = some i := by
          rw [body]
          by_cases same : (s.body.cause i).view = s.arbiter.shownView
          · obtain ⟨view, cause, -⟩ := h.stay i bestS same
            exact ⟨same.trans view.symm, cause⟩
          · obtain ⟨view, cause, -⟩ := h.change i taken same
            exact ⟨view.symm, cause⟩
        obtain ⟨viewU, causeU, timerU⟩ := g.stay i bestT view.1
        refine ⟨viewU, causeU.trans view.2.symm, timerU, fun j takenT pending => ?_⟩
        obtain rfl := bestT.unique takenT.1
        by_cases waits : (s.causeRec i).stage = .pending
        · rw [h.served i taken waits] at pending
          cases pending
        · rw [h.others i fun served => waits served.2] at pending
          exact waits pending
      · obtain ⟨view, -, timer⟩ := h.wait i bestS taken
        have held : ¬ t.Taken i := fun ⟨_, free⟩ => taken ⟨bestS, by rwa [body, view, timer] at free⟩
        obtain ⟨viewU, causeU, timerU⟩ := g.wait i bestT held
        exact ⟨viewU, causeU, timerU, fun j takenT => absurd (bestT.unique takenT.1 ▸ takenT) held⟩
  obtain ⟨view, cause, timer, idle⟩ := shown
  have causes : ∀ i, u.causeRec i = t.causeRec i := fun i => g.others i fun served => idle i served.1 served.2
  have same : u.arbiter.causes = t.arbiter.causes := Vector.ext fun i hi => causes ⟨i, hi⟩
  generalize u.arbiter = x at *
  generalize t.arbiter = y at *
  cases x
  cases y
  simp_all

end

/-! ## The causes that a change of speed ends (R146) -/

/-- R146: the causes after a change of speed, if there is one: those in service that are masked have ended. -/
def State.told (s : State) (fast : Prop) [Decidable fast] (i : Cause) : CauseRec :=
  if fast ∧ (s.causeRec i).stage = .inService ∧ s.masked i = true then { s.causeRec i with stage := .quiet, timer := none }
  else s.causeRec i

section
variable (s : State) {fast : Prop} [Decidable fast]

theorem State.told_of_not (h : ¬ fast) : s.told fast = s.causeRec := funext fun _ => if_neg fun ends => h ends.1

theorem State.endMasked_arbiter (h : fast) : s.endMasked.arbiter = (s.withCauses (s.told fast)).arbiter := by
  have causes : (s.arbiter.causes.mapFinIdx fun i r hi =>
      if r.stage = .inService ∧ s.masked ⟨i, hi⟩ then { r with stage := .quiet, timer := none } else r) =
      Vector.ofFn (s.told fast) := by
    refine Vector.ext fun i hi => ?_
    rw [Vector.getElem_mapFinIdx, Vector.getElem_ofFn]
    simp only [State.told, h, true_and]
    rfl
  exact congrArg (fun c => { s.arbiter with causes := c }) causes

end

/-! ## What is handed on -/

/-- The choices that follow the zones (R141, R146; log 18). -/
def State.handedChoice (u : State) (fast changed : Prop) [Decidable fast] [Decidable changed] : State :=
  let v := if fast then u.endMasked.choose else u
  if changed then v.choose else v

section
variable (u : State) {fast changed : Prop} [Decidable fast] [Decidable changed]

theorem State.handedChoice_none (slow : ¬ fast) (same : ¬ changed) : u.handedChoice fast changed = u := by
  simp [State.handedChoice, slow, same]

theorem State.handedChoice_besideViews : (u.handedChoice fast changed).besideViews = u.besideViews := by
  have chosen : ∀ v : State, v.choose.besideViews = v.besideViews := State.besideViews_choose
  unfold State.handedChoice
  dsimp only
  split <;> split <;> simp only [chosen, State.besideViews_endMasked]

/-- R149: the two choices of a change of speed and of conditions are as one. -/
theorem State.handedChoice_made (some : changed ∨ fast) :
    State.ChoiceMade (u.withCauses (u.told fast)) (u.handedChoice fast changed) := by
  unfold State.handedChoice
  dsimp only
  by_cases f : fast
  · have ended : (u.withCauses (u.told fast)).ChoiceMade u.endMasked.choose :=
      u.endMasked.choose_made.congr rfl (u.endMasked_arbiter f).symm rfl rfl
    have rest := State.besideZones_choose u.endMasked
    obtain ⟨-, -, -, -, -, -, vehicle, -⟩ := State.besideZones_fields rest
    have again := u.endMasked.choose_made.settled (State.body_of_besideZones rest) vehicle u.endMasked.choose.choose_made
    rw [if_pos f]
    split
    · exact ended.congr rfl rfl rfl again
    · exact ended
  · rw [if_neg f, if_pos (some.resolve_right f), u.told_of_not f, u.withCauses_self]
    exact u.choose_made

end

theorem State.OnsetsTaken.refl (t : State) (r : Zone → ZoneRec) (a : Arbiter) : t.OnsetsTaken r r a a :=
  State.onsetsTaken_iff.mpr ⟨fun _ => a, rfl, rfl, fun z => .none (r z).not_onset_self⟩

/-- From s to w what has changed since a vehicle state v has been handed on: every enabled zone is evaluated on a change of
conditions, and the arbiter is told after it (log 18). -/
structure State.HandedOn (v : Vehicle) (s w : State) : Prop where
  zones : w.zoneRec = if v.conds ≠ s.vehicle.conds then s.evaluated else s.zoneRec
  rest : w.besideZones = s.besideZones
  arbiter : ∃ a, s.OnsetsTaken s.zoneRec w.zoneRec s.arbiter a ∧
    (v.conds = s.vehicle.conds → v.speed = s.vehicle.speed → w.arbiter = a) ∧
    (v.conds ≠ s.vehicle.conds ∨ v.speed ≠ s.vehicle.speed →
      State.ChoiceMade ((s.withArbiter a).withCauses ((s.withArbiter a).told (v.speed ≠ s.vehicle.speed))) w)

/-- R103: the zones hear of a change of conditions. -/
theorem State.handedZones_taken (v : Vehicle) (s : State) :
    s.ZonesTaken (if v.conds ≠ s.vehicle.conds then s.evaluateZones else s)
      (if v.conds ≠ s.vehicle.conds then s.evaluated else s.zoneRec) := by
  split
  · exact s.evaluateZones_taken
  · exact ⟨rfl, rfl, .refl s _ _⟩

theorem State.handOn_handedOn (b s : State) : State.HandedOn b.vehicle s (State.handOn b s) := by
  have rest := State.besideZones_handOn b s
  have taken := State.handedZones_taken b.vehicle s
  have split_ : State.handOn b s = (if b.vehicle.conds ≠ s.vehicle.conds then s.evaluateZones else s).handedChoice
      (b.vehicle.speed ≠ s.vehicle.speed) (b.vehicle.conds ≠ s.vehicle.conds) := rfl
  rw [split_] at rest ⊢
  generalize (if b.vehicle.conds ≠ s.vehicle.conds then s.evaluateZones else s) = u at rest taken ⊢
  have views := u.handedChoice_besideViews (fast := b.vehicle.speed ≠ s.vehicle.speed)
    (changed := b.vehicle.conds ≠ s.vehicle.conds)
  obtain ⟨zones, before, onsets⟩ := taken
  obtain ⟨-, -, -, -, -, -, vehicle, -⟩ := State.besideZones_fields before
  have body : u.body = s.body := State.body_of_besideZones before
  have recs : (u.handedChoice (b.vehicle.speed ≠ s.vehicle.speed) (b.vehicle.conds ≠ s.vehicle.conds)).zoneRec = u.zoneRec :=
    funext fun z => by rw [State.zoneRec, State.zoneRec, State.zones_of_besideViews views]
  refine ⟨recs.trans zones, rest, u.arbiter, ?_, fun conds speed => ?_, fun some => ?_⟩
  · rw [recs, zones]
    exact onsets
  · rw [u.handedChoice_none (not_not.mpr speed) (not_not.mpr conds)]
  · have told : (s.withArbiter u.arbiter).told (b.vehicle.speed ≠ s.vehicle.speed) =
        u.told (b.vehicle.speed ≠ s.vehicle.speed) := funext fun i => by
      simp only [State.told, State.masked_iff, body, vehicle]
      rfl
    rw [told]
    exact (u.handedChoice_made some).congr body.symm rfl vehicle.symm rfl

end Sys2Proof.Machine
end

section
/-! SUPPORT. The vehicle state block takes new values (R103, R146, R191): what arrives at the settings block, what the zones and the
arbiter are told. -/

namespace Sys2Proof.Machine

/-! ## The end of service state (R191) -/

/-- From s to m a vehicle state v has arrived, and service state has ended or waits to end where MOVING has become true (R191). -/
structure State.Arrived (s m : State) (v : Vehicle) : Prop where
  vehicle : { m.vehicle with conds := { m.vehicle.conds with service := v.conds.service } } = v
  ends : s.MovingEnds m → s.settings.commit = none → m.settings = s.settings.leaveService ∧ m.vehicle.conds.service = false
  waits : s.MovingEnds m → s.settings.commit ≠ none →
    m.settings = { s.settings with exitPending := true } ∧ m.vehicle.conds.service = v.conds.service
  stays : ¬ s.MovingEnds m → m.settings = s.settings ∧ m.vehicle.conds.service = v.conds.service
  zones : m.zoneRec = s.zoneRec
  arbiter : m.arbiter = s.arbiter
  body : m.body = s.body
  rest : m.besideVehicle = s.besideVehicle

section
variable {s t m : State} {v : Vehicle}

/-- What has arrived stands when the link controllers alone change. -/
theorem State.Arrived.links (h : s.Arrived m v) (rest : t.besideLinks = m.besideLinks) : s.Arrived t v := by
  have zones := State.besideZones_of_views (State.besideViews_of_links rest)
  obtain ⟨-, -, -, -, -, -, vehicle, -, -, -, settings, -⟩ := State.besideZones_fields zones
  have recs : t.zoneRec = m.zoneRec := funext fun z => (congrArg (fun v : State => v.zoneRec z) rest :)
  have arbiter : t.arbiter = m.arbiter := (congrArg State.arbiter rest :)
  have moves : s.MovingEnds t ↔ s.MovingEnds m := by rw [State.MovingEnds, State.MovingEnds, vehicle]
  refine ⟨?_, ?_, ?_, ?_, recs.trans h.zones, arbiter.trans h.arbiter, (State.body_of_besideZones zones).trans h.body,
    (State.besideVehicle_of_zones zones).trans h.rest⟩
  all_goals simp only [moves, vehicle, settings]
  exacts [h.vehicle, h.ends, h.waits, h.stays]

/-- R191: a rise of MOVING in service state ends it, at once or after the commit in flight. -/
theorem State.movingEnds_arrived (s : State) (v : Vehicle) : s.Arrived (State.movingEnds s { s with vehicle := v }) v := by
  have rises : ∀ m : State, m.vehicle.conds.moving = v.conds.moving → (s.MovingEnds m ↔
      (!s.vehicle.conds.moving && v.conds.moving && s.settings.serviceIn) = true) := fun m same => by
    simp [State.MovingEnds, same, and_assoc]
  unfold State.movingEnds
  dsimp only
  split
  · rename_i moves
    unfold State.askServiceEnd
    dsimp only
    split
    · rename_i free
      exact ⟨rfl, fun _ _ => ⟨rfl, rfl⟩, fun _ flight => absurd free flight, fun still => absurd ((rises _ rfl).mpr moves) still,
        rfl, rfl, rfl, rfl⟩
    · rename_i flight
      exact ⟨rfl, fun _ free => absurd free flight, fun _ _ => ⟨rfl, rfl⟩, fun still => absurd ((rises _ rfl).mpr moves) still,
        rfl, rfl, rfl, rfl⟩
  · rename_i still
    exact ⟨rfl, fun moves => absurd ((rises _ rfl).mp moves) still, fun moves => absurd ((rises _ rfl).mp moves) still,
      fun _ => ⟨rfl, rfl⟩, rfl, rfl, rfl, rfl⟩

/-! ## What the zones and the arbiter are told -/

/-- What has been handed on stands when the link controllers alone change. -/
theorem State.HandedOn.links (h : State.HandedOn v s m) (rest : t.besideLinks = m.besideLinks) : State.HandedOn v s t := by
  have zones := State.besideZones_of_views (State.besideViews_of_links rest)
  have recs : t.zoneRec = m.zoneRec := funext fun z => (congrArg (fun v : State => v.zoneRec z) rest :)
  have arbiter : t.arbiter = m.arbiter := (congrArg State.arbiter rest :)
  obtain ⟨a, onsets, same, made⟩ := h.arbiter
  exact ⟨recs.trans h.zones, zones.trans h.rest, a, recs ▸ onsets, fun conds speed => arbiter.trans (same conds speed),
    fun some => (made some).congr rfl rfl rfl arbiter⟩

/-- R142: an onset leaves a cause in service in service. -/
theorem State.OnsetTaken.inService {z : Zone} {old new : ZoneRec} {a b : Arbiter} (h : t.OnsetTaken z old new a b) {i : Cause}
    (stage : a.causes[i].stage = .inService) : b.causes[i].stage = .inService := by
  obtain ⟨stays, chooses⟩ := h
  by_cases calm : ¬ old.Onset new ∨ (t.body.zone z).preferredView = Option.none
  · rwa [stays calm]
  · obtain ⟨onset, view⟩ := not_or.mp calm
    obtain ⟨v, view⟩ := Option.ne_none_iff_exists'.mp view
    obtain ⟨raised, some, others, made⟩ := chooses v (not_not.mp onset) view
    have serves : (raised i).stage = .inService := by
      by_cases raises : (t.body.cause i).RaisedBy z v
      · rw [some i raises, CauseRec.raised, if_pos stage]
        exact stage
      · rw [others i raises]
        exact stage
    rw [← State.withCauses_causeRec (t.withArbiter a) raised i] at serves
    have kept : b.causes[i] = _ := made.inService serves
    rw [kept]
    exact serves

theorem State.OnsetsTaken.inService {before after : Zone → ZoneRec} {a b : Arbiter} (h : t.OnsetsTaken before after a b) {i : Cause}
    (stage : a.causes[i].stage = .inService) : b.causes[i].stage = .inService := by
  obtain ⟨y, first, last, steps⟩ := State.onsetsTaken_iff.mp h
  have serves : ∀ n, n ≤ 8 → (y n).causes[i].stage = .inService := by
    intro n le
    induction n with
    | zero => rwa [first]
    | succ n ih => exact (steps ⟨n, by omega⟩).inService (ih (by omega))
  rw [← last]
  exact serves 8 (le_refl 8)

section
variable (h : s.Arrived m v) (g : State.HandedOn s.vehicle m t)
include h g

/-- R103, R119: every enabled zone is evaluated on a change of conditions. -/
theorem State.Arrived.zonesTold : s.ZonesTold t := by
  intro z
  obtain ⟨-, -, -, -, -, -, vehicle, -⟩ := State.besideZones_fields g.rest
  rw [g.zones, vehicle]
  by_cases conds : m.vehicle.conds = s.vehicle.conds
  · rw [if_neg (not_not.mpr conds.symm), if_neg fun changed => changed.1 conds, h.zones]
  · rw [if_pos (Ne.symm conds), State.evaluated, h.body, h.zones]
    exact if_congr (by simp [conds]) rfl rfl

/-- R141, R146, R148: the arbiter hears of the onsets, of a change of speed and of a change of conditions. -/
theorem State.Arrived.arbiterTold : s.ArbiterTold t := by
  obtain ⟨-, -, -, -, -, -, vehicle, -⟩ := State.besideZones_fields g.rest
  have body := State.body_of_besideZones g.rest
  obtain ⟨a, onsets, same, made⟩ := g.arbiter
  rw [h.zones, h.arbiter] at onsets
  refine ⟨a, onsets.congr body vehicle, fun conds speed => ?_, fun changed => ?_⟩
  · rw [vehicle] at conds speed
    exact same conds.symm speed.symm
  · rw [vehicle] at changed
    refine ⟨_, fun i => ?_, (made (changed.imp Ne.symm Ne.symm)).congr body rfl vehicle rfl⟩
    rw [State.told, vehicle, body]
    simp only [State.masked_iff, ne_comm (a := m.vehicle.speed)]
    rfl

end

/-- R146: a cause in service that the new speed masks has ended. -/
theorem State.ArbiterTold.masked (h : s.ArbiterTold t) (speed : t.vehicle.speed ≠ s.vehicle.speed) {i : Cause}
    (stage : (s.causeRec i).stage = .inService) (some : (t.body.cause i).maxSpeed ≠ 0)
    (fast : (t.body.cause i).maxSpeed < t.vehicle.speed) : (t.causeRec i).stage = .quiet ∧ (t.causeRec i).timer = none := by
  obtain ⟨a, onsets, -, tells⟩ := h
  obtain ⟨causes, told, made⟩ := tells (.inr speed)
  have ended : causes i = { a.causes[i] with stage := .quiet, timer := none } :=
    (told i).trans (if_pos ⟨speed, onsets.inService stage, .inr ⟨some, fast⟩⟩)
  have before : ((t.withArbiter a).withCauses causes).causeRec i = causes i := State.withCauses_causeRec _ _ _
  have kept : t.causeRec i = causes i := (made.others i fun served => by
    rw [before, ended] at served
    exact nomatch served.2).trans before
  rw [kept, ended]
  exact ⟨rfl, rfl⟩

/-! ## New values taken -/

/-- From s to t the vehicle state block has taken v, but for the condition SERVICE, which the settings block holds. -/
structure State.TookVehicle (s t : State) (v : Vehicle) : Prop where
  vehicle : { t.vehicle with conds := { t.vehicle.conds with service := v.conds.service } } = v
  taken : s.VehicleTaken t
  rest : t.besideVehicle = s.besideVehicle

theorem State.Arrived.took (h : s.Arrived m v) (g : State.HandedOn s.vehicle m t)
    (service : v.conds.service = s.vehicle.conds.service) : s.TookVehicle t v := by
  obtain ⟨-, -, -, -, -, -, vehicle, -, -, -, settings, -⟩ := State.besideZones_fields g.rest
  have moves : s.MovingEnds t ↔ s.MovingEnds m := by rw [State.MovingEnds, State.MovingEnds, vehicle]
  have told := h.arbiterTold g
  have body : t.body = s.body := (State.body_of_besideZones g.rest).trans h.body
  refine ⟨?_, ⟨?_, ?_, ?_, h.zonesTold g, told, fun speed i stage some fast => ?_⟩,
    (State.besideVehicle_of_zones g.rest).trans h.rest⟩
  · rw [vehicle]
    exact h.vehicle
  · rw [moves, settings, vehicle]
    exact h.ends
  · rw [moves, settings, vehicle, ← service]
    exact h.waits
  · rw [moves, settings, vehicle, ← service]
    exact h.stays
  · rw [← body] at some fast
    exact told.masked speed stage some fast

/-- R103, R191: the block takes new values, and the link controllers alone change after it. -/
theorem State.takeVehicle_took (service : v.conds.service = s.vehicle.conds.service)
    (rest : t.besideLinks = (s.takeVehicle v).besideLinks) : s.TookVehicle t v := by
  have arrived := (s.movingEnds_arrived v).links (State.besideLinks_noteSettings s _)
  have handed := State.handOn_handedOn s (State.noteSettings s (State.movingEnds s { s with vehicle := v }))
  exact arrived.took (handed.links rest) service

/-- The request that has left its queue is no part of what a vehicle state is taken in. -/
theorem State.TookVehicle.of_taken {l : Link} (h : (s.taken l).TookVehicle t v) : s.TookVehicle t v := by
  obtain ⟨vehicle, ⟨ends, waits, stays, zones, arbiter, masked⟩, rest⟩ := h
  exact ⟨vehicle, ⟨ends, waits, stays, zones, arbiter, masked⟩, rest⟩

/-- Without a rise of MOVING the condition SERVICE stays too. -/
theorem State.TookVehicle.vehicle_eq (h : s.TookVehicle t v) (service : v.conds.service = s.vehicle.conds.service)
    (moving : v.conds.moving = s.vehicle.conds.moving) : t.vehicle = v := by
  have movingT : t.vehicle.conds.moving = v.conds.moving := (congrArg (fun w : Vehicle => w.conds.moving) h.vehicle :)
  have still : ¬ s.MovingEnds t := fun ⟨was, is, _⟩ => by
    rw [movingT, moving, was] at is
    cases is
  have same := (h.taken.stays still).2.trans service.symm
  have vehicle := h.vehicle
  rwa [← same] at vehicle

end

end Sys2Proof.Machine
end

section
/-! The vehicle timers fall back (R107, R108, R110): O35; and VEHICLE_STATE (R105): O33. -/

namespace Sys2Proof.Machine

/-! ## The timers (O35) -/

/-- A vehicle timer that runs and expires: the block takes the values of its fallback. -/
theorem State.timerFalls {s : State} (running : s.phase = .running) {timer : Vehicle → Timer} {falls : Vehicle → Vehicle}
    (runs : timer s.vehicle ≠ none) (service : (falls s.vehicle).conds.service = s.vehicle.conds.service) :
    ∃ t, (whileRunning s fun u => if timer u.vehicle = none then u else u.takeVehicle (falls u.vehicle)) = .next t ∧
      s.TookVehicle t (falls s.vehicle) := by
  refine ⟨_, whileRunning_running running _, ?_⟩
  rw [if_neg runs]
  exact State.takeVehicle_took service (State.settle_besideLinks _)

/-- Settles O35: each fallback is a vehicle state taken; only that of the chassis makes MOVING true. -/
theorem vehicleTimersFallBack : Obligations.VehicleTimersFallBack := by
  intro s running Handed
  refine ⟨fun runs => ?_, fun runs => ?_, fun runs => ?_⟩
  · obtain ⟨t, next, took⟩ := State.timerFalls running (timer := Vehicle.offDelay) (falls := Vehicle.offDelayExpiry) runs rfl
    have vehicle := took.vehicle_eq rfl rfl
    refine ⟨t, next, ⟨took.rest, ?_, took.taken.zones, took.taken.arbiter⟩, ?_⟩
    all_goals rw [vehicle]
    exacts [rfl, ⟨rfl, rfl, rfl, rfl⟩]
  · obtain ⟨t, next, took⟩ :=
      State.timerFalls running (timer := Vehicle.chassisTimer) (falls := Vehicle.chassisFallback) runs rfl
    have vehicle := took.vehicle
    refine ⟨t, next, ⟨took.rest, (congrArg Vehicle.raw vehicle :), took.taken.zones, took.taken.arbiter⟩,
      (congrArg Vehicle.chassisTimer vehicle :), (congrArg Vehicle.offDelay vehicle :), (congrArg Vehicle.bodyTimer vehicle :),
      (congrArg Vehicle.speed vehicle :), (congrArg Vehicle.conds vehicle :), took.taken⟩
  · obtain ⟨t, next, took⟩ := State.timerFalls running (timer := Vehicle.bodyTimer) (falls := Vehicle.bodyFallback) runs rfl
    have vehicle := took.vehicle_eq rfl rfl
    refine ⟨t, next, ⟨took.rest, ?_, took.taken.zones, took.taken.arbiter⟩, ?_⟩
    all_goals rw [vehicle]
    exacts [rfl, ⟨rfl, rfl, rfl, rfl⟩]

/-! ## VEHICLE_STATE (O33) -/

section
variable {cond : Bool} {timer : Timer} {delay : Nat}

/-- R107: the indicator is on. -/
theorem indicatorAfter_on : indicatorAfter true cond timer delay = (true, none) := rfl

/-- R107: the indicator goes off, and the off-delay starts if there is one. -/
theorem indicatorAfter_starts (delayed : delay ≠ 0) : indicatorAfter false true none delay = (true, some (100 * delay)) :=
  if_neg delayed

theorem indicatorAfter_ends : indicatorAfter false true none 0 = (false, none) := rfl

/-- R107: the off-delay runs on. -/
theorem indicatorAfter_runs (runs : timer ≠ none) : indicatorAfter false true timer delay = (true, timer) := by
  obtain ⟨n, rfl⟩ := Option.ne_none_iff_exists'.mp runs
  rfl

theorem indicatorAfter_off : indicatorAfter false false timer delay = (false, timer) := rfl

end

section
variable {l : Link} {r : Request} {s : State}

theorem actVehicleState_denied (h : l ≠ .chassis) : actVehicleState l r s = (s, .refuse .notPermitted) := if_pos h

theorem actVehicleState_malformed (h : Gear.ofCode (u8At r.fields 2) = none) :
    actVehicleState .chassis r s = (s, .refuse .malformed) := by
  simp [actVehicleState, h]

/-- R105: the raw chassis state that a VEHICLE_STATE reports. -/
def rawChassisOf (r : Request) (g : Gear) : RawChassis :=
  { speed := (clamp 0 1200 (s16At r.fields 0)).toNat, gear := g, nearside := (byteAt r.fields 3).getLsbD 0
    door := (byteAt r.fields 3).getLsbD 2 }

theorem actVehicleState_reported {g : Gear} (h : Gear.ofCode (u8At r.fields 2) = some g) :
    actVehicleState .chassis r s = (s.takeVehicle (s.vehicle.report s.body (rawChassisOf r g)), .done) := by
  simp only [actVehicleState, h]
  rfl

/-- R105: a report is taken and answered. -/
theorem State.Ready.reported {g : Gear} (h : s.Ready .chassis .vehicleState r) (gear : Gear.ofCode (u8At r.fields 2) = some g) :
    ∃ t, whileRunning s (answering .vehicleState .chassis (actVehicleState .chassis)) = .next t ∧
      s.TookVehicle t (s.vehicle.report s.body (rawChassisOf r g)) ∧ s.Replied t .chassis r .done := by
  obtain ⟨t, next, replied, rest⟩ := h.worked (actVehicleState_reported gear) (State.takeVehicle_raised _ _)
  have took : (s.taken .chassis).TookVehicle t (s.vehicle.report s.body (rawChassisOf r g)) := State.takeVehicle_took rfl rest
  exact ⟨t, next, took.of_taken, replied⟩

end

/-- Settles O33: a report is a vehicle state taken; its indicator is that of R107 case by case. -/
theorem vehicleStateSetsTheConditions : Obligations.VehicleStateSetsTheConditions := by
  refine ⟨fun s r g ready gear => ?_, fun s l r ready => ⟨fun other => ready.refused (actVehicleState_denied other), ?_⟩⟩
  · intro speed on was
    obtain ⟨t, next, took, replied⟩ := ready.reported gear
    have vehicle := took.vehicle
    have after : (t.vehicle.conds.nearsideIndicator, t.vehicle.offDelay) =
        indicatorAfter on was s.vehicle.offDelay s.body.offDelay :=
      (congrArg (fun v : Vehicle => (v.conds.nearsideIndicator, v.offDelay)) vehicle :)
    have indicator : ∀ cond timer, indicatorAfter on was s.vehicle.offDelay s.body.offDelay = (cond, timer) →
        t.vehicle.conds.nearsideIndicator = cond ∧ t.vehicle.offDelay = timer := fun _ _ case => Prod.mk.inj (after.trans case)
    refine ⟨t, next, (congrArg Vehicle.raw vehicle :), (congrArg Vehicle.speed vehicle :),
      (congrArg Vehicle.chassisTimer vehicle :), (congrArg (fun v : Vehicle => v.conds.chassisUnknown) vehicle :),
      (congrArg (fun v : Vehicle => v.conds.moving) vehicle :), (congrArg (fun v : Vehicle => v.conds.reverse) vehicle :),
      (congrArg (fun v : Vehicle => v.conds.doorOpen) vehicle :), fun isOn => indicator _ _ ?_,
      fun isOff held stopped delayed => indicator _ _ ?_, fun isOff held stopped instant => indicator _ _ ?_,
      fun isOff held runs => indicator _ _ ?_, fun isOff clear => indicator _ _ ?_,
      (congrArg (fun v : Vehicle => v.conds.liftActive) vehicle :), (congrArg (fun v : Vehicle => v.conds.stepOccupied) vehicle :),
      (congrArg (fun v : Vehicle => v.conds.bodyUnknown) vehicle :), (congrArg Vehicle.bodyTimer vehicle :), took.taken, replied,
      took.rest⟩
    · rw [isOn, indicatorAfter_on]
    · rw [isOff, held, stopped, indicatorAfter_starts delayed]
    · rw [isOff, held, stopped, instant, indicatorAfter_ends]
    · rw [isOff, held, indicatorAfter_runs runs]
    · rw [isOff, clear, indicatorAfter_off]
  · rintro rfl unknown
    exact ready.refused (actVehicleState_malformed unknown)

end Sys2Proof.Machine
end

section
/-! BODY_STATE (R109): O34. -/

namespace Sys2Proof.Machine

/-! ## A body report (O34) -/

section
variable {s t u : State} {v : Vehicle} {cycling : Bool} {c : Contacts}

/-- R109: the state in which a body report has arrived, before anything follows from it. -/
def State.reported (s : State) (cycling : Bool) (c : Contacts) : State :=
  { s with vehicle := s.vehicle.bodyReport s.body cycling c, tracks := { s.tracks with contacts := c } }

/-- R118: the zones after a report, recounted where the contacts changed. -/
theorem State.reported_recounted (s : State) (cycling : Bool) (c : Contacts) :
    (s.reported cycling c).ZonesTaken
      (if s.tracks.contacts = c then s.reported cycling c else (s.reported cycling c).recountZones)
      (if s.tracks.contacts = c then s.zoneRec else (s.reported cycling c).recounted) := by
  split
  · exact ⟨rfl, rfl, .refl _ _ _⟩
  · exact (s.reported cycling c).recountZones_taken

/-- R103, R118, R148: from s to t the zones are recounted where the contacts changed and then evaluated where the conditions
changed; the onsets reach the arbiter as they come, and a choice follows a change of conditions. -/
def State.BodyTold (s t : State) : Prop :=
  ∃ (first : Zone → ZoneRec) (a b : Arbiter),
    (∀ z,
      let r := (s.zoneRec z).recount (s.body.zone z) s.body.countFloor t.tracks
      first z =
        if t.tracks.contacts ≠ s.tracks.contacts ∧ (s.body.zone z).enabled = true ∧
          (r.occupancy ≠ (s.zoneRec z).occupancy ∨ r.warnMark ≠ (s.zoneRec z).warnMark) then
          r.evaluate (s.body.zone z) t.vehicle.conds
        else s.zoneRec z) ∧
    (∀ z, t.zoneRec z =
      if t.vehicle.conds ≠ s.vehicle.conds ∧ (s.body.zone z).enabled = true then
        (first z).evaluate (s.body.zone z) t.vehicle.conds
      else first z) ∧
    t.OnsetsTaken s.zoneRec first s.arbiter a ∧ t.OnsetsTaken first t.zoneRec a b ∧
    (t.vehicle.conds = s.vehicle.conds → t.arbiter = b) ∧
    (t.vehicle.conds ≠ s.vehicle.conds → State.ChoiceMade (t.withArbiter b) t)

/-- A recount under a report and the handing on of the report, one after the other. -/
theorem State.bodyTold_of (recount : (s.reported cycling c).ZonesTaken u
      (if s.tracks.contacts = c then s.zoneRec else (s.reported cycling c).recounted))
    (handed : State.HandedOn s.vehicle u t) : s.BodyTold t := by
  obtain ⟨first, restU, onsets⟩ := recount
  obtain ⟨zones, restT, b, after, same, made⟩ := handed
  obtain ⟨-, -, -, -, -, -, vehicleU, tracksU, -⟩ := State.besideZones_fields restU
  obtain ⟨-, -, -, -, -, -, vehicleT, tracksT, -⟩ := State.besideZones_fields restT
  have bodyU : u.body = s.body := (State.body_of_besideZones restU).trans rfl
  have body : t.body = u.body := State.body_of_besideZones restT
  have tracks : t.tracks = (s.reported cycling c).tracks := tracksT.trans tracksU
  have contacts : t.tracks.contacts = c := (congrArg Tracks.contacts tracks :)
  have speed : s.vehicle.speed = u.vehicle.speed := (congrArg Vehicle.speed vehicleU.symm :)
  refine ⟨u.zoneRec, u.arbiter, b, fun z => ?_, fun z => ?_, ?_, after.congr body vehicleT, fun conds => ?_, fun conds => ?_⟩
  · dsimp only
    by_cases same : s.tracks.contacts = c
    · rw [first, if_pos same, if_neg fun changed => changed.1 (contacts.trans same.symm)]
    · have changed : t.tracks.contacts ≠ s.tracks.contacts := fun e => same (e.symm.trans contacts)
      rw [first, if_neg same, tracks, vehicleT, vehicleU, State.recounted]
      rw [tracks] at changed
      exact if_congr (by simp [changed]; rfl) rfl rfl
  · rw [zones, vehicleT]
    by_cases conds : u.vehicle.conds = s.vehicle.conds
    · rw [if_neg (not_not.mpr conds.symm), if_neg fun changed => changed.1 conds]
    · rw [if_pos (Ne.symm conds), State.evaluated, bodyU]
      exact if_congr (by simp [conds]) rfl rfl
  · rw [first]
    exact onsets.congr (body.trans (State.body_of_besideZones restU)) (vehicleT.trans vehicleU)
  · rw [vehicleT] at conds
    exact same conds.symm speed
  · rw [vehicleT] at conds
    have chosen := made (.inl (Ne.symm conds))
    rw [State.told_of_not _ (not_not.mpr speed), State.withCauses_self] at chosen
    exact chosen.congr body rfl vehicleT rfl

/-- From s to t a body report has been taken. -/
structure State.BodyTaken (s t : State) (cycling : Bool) (c : Contacts) : Prop where
  vehicle : t.vehicle = s.vehicle.bodyReport s.body cycling c
  tracks : t.tracks = { s.tracks with contacts := c }
  told : s.BodyTold t
  rest :
    { t with
      links := s.links, arbiter := s.arbiter, zones := s.zones, alert := s.alert, vehicle := s.vehicle
      tracks := s.tracks } = s

/-- R109: a report is taken, and the link controllers alone change after it. -/
theorem State.bodyReport_taken (rest : t.besideLinks = (s.bodyReport cycling c).besideLinks) : s.BodyTaken t cycling c := by
  have recount := s.reported_recounted cycling c
  have report : s.bodyReport cycling c = State.handOn s
      (if s.tracks.contacts = c then s.reported cycling c else (s.reported cycling c).recountZones) := rfl
  rw [report] at rest
  generalize (if s.tracks.contacts = c then s.reported cycling c else (s.reported cycling c).recountZones) = u at recount rest
  have handed := (State.handOn_handedOn s u).links rest
  have zones : t.besideZones = (s.reported cycling c).besideZones := handed.rest.trans recount.rest
  obtain ⟨-, -, -, -, -, -, vehicle, tracks, -⟩ := State.besideZones_fields zones
  refine ⟨vehicle, tracks, State.bodyTold_of recount handed, ?_⟩
  exact (congrArg (fun w : State =>
    { w with
      links := s.links, arbiter := s.arbiter, zones := s.zones, alert := s.alert, vehicle := s.vehicle
      tracks := s.tracks }) zones :)

/-- The request that has left its queue is no part of what a report is taken in. -/
theorem State.BodyTaken.of_taken {l : Link} (h : (s.taken l).BodyTaken t cycling c) : s.BodyTaken t cycling c := by
  obtain ⟨vehicle, tracks, told, rest⟩ := h
  refine ⟨vehicle, tracks, told, ?_⟩
  exact (congrArg (fun w : State => { w with links := s.links }) rest :)

end

section
variable {l : Link} {r : Request} {s : State}

theorem actBodyState_denied (h : l ≠ .body) : actBodyState l r s = (s, .refuse .notPermitted) := if_pos h

theorem actBodyState_malformed (h : 2 < u8At r.fields 0 ∨ 1 < u8At r.fields 2) :
    actBodyState .body r s = (s, .refuse .malformed) := by
  simp [actBodyState, h]

theorem actBodyState_reported (lift : u8At r.fields 0 ≤ 2) (third : u8At r.fields 2 ≤ 1) :
    actBodyState .body r s = (s.bodyReport (u8At r.fields 0 = 1) (Contacts.ofByte (byteAt r.fields 1)), .done) := by
  have listed : ¬ (2 < u8At r.fields 0 ∨ 1 < u8At r.fields 2) := by omega
  simp [actBodyState, listed]

end

/-- Settles O34: a report is recounted where the contacts changed, and handed on where the conditions did. -/
theorem bodyStateSetsLiftAndContacts : Obligations.BodyStateSetsLiftAndContacts := by
  refine ⟨fun s r ready lift third => ?_, fun s l r ready => ⟨fun other => ready.refused (actBodyState_denied other), ?_⟩⟩
  · obtain ⟨t, next, replied, rest⟩ := ready.worked (actBodyState_reported lift third) (State.bodyReport_raised _ _ _)
    have took := (State.bodyReport_taken rest).of_taken
    have vehicle := took.vehicle
    have tracks := took.tracks
    exact ⟨t, next, (congrArg Vehicle.bodyTimer vehicle :), (congrArg Vehicle.conds vehicle :),
      (congrArg Tracks.contacts tracks :), (congrArg Tracks.places tracks :), (congrArg Vehicle.raw vehicle :),
      (congrArg Vehicle.chassisTimer vehicle :), (congrArg Vehicle.offDelay vehicle :), took.told, replied, took.rest⟩
  · rintro rfl unlisted
    exact ready.refused (actBodyState_malformed unlisted)

end Sys2Proof.Machine
end

section
/-! The chime pattern and the alert lines (chapter 7): O42, O43. -/

namespace Sys2Proof.Machine

/-! ## The chime pattern (O42) -/

section
variable {a : Alert} {b : Body} {g : Segment} {duty n ns p : Nat}

/-- R133: a tone is high for the duty share from the start of each of its periods. -/
theorem Segment.high_of_tone (tone : g.period = some p) : g.high duty ns = true ↔ 100 * (ns % p) < duty * p := by
  simp [Segment.high, tone]

theorem Segment.high_of_silence (silence : g.period = none) : g.high duty ns = false := by
  simp [Segment.high, silence]

/-- R133: the periods count from the beginning of the segment, which the timer gives. -/
theorem Alert.line_of_segment (inSegment : a.segment = some g) (timer : a.segmentTimer = some n) :
    a.line ns = g.high a.toneDuty (1000000 * (g.length - n) + ns) := by
  simp [Alert.line, inSegment, timer]

theorem Alert.line_of_no_segment (off : a.segment = none) : a.line ns = false := by
  simp [Alert.line, off]

/-- R132: an expiry of the running timer enters the segment after the one that ends. -/
theorem Alert.segmentExpiry_running (runs : a.segmentTimer ≠ none) (inSegment : a.segment = some g) :
    a.segmentExpiry b = a.enterSegment b g.next := by
  obtain ⟨n, timer⟩ := Option.ne_none_iff_exists'.mp runs
  simp only [Alert.segmentExpiry, timer, inSegment]

/-- Entering a segment changes the segment, its timer and the duty, and nothing else of the unit. -/
theorem Alert.enterSegment_frame (a : Alert) (b : Body) (g : Segment) :
    { a.enterSegment b g with segment := a.segment, segmentTimer := a.segmentTimer, toneDuty := a.toneDuty } = a := rfl

/-- R133: of the segments that follow another, only C2, which follows C1, is silent and leaves the duty as it was. -/
theorem Alert.enterSegment_next_toneDuty :
    (a.enterSegment b g.next).toneDuty = if g = .c1 then a.toneDuty else b.chimeVolume := by
  cases g <;> rfl

end

/-- The expiry of the segment timer in a running state. -/
theorem State.segmentTimerExpiry_running {s : State} {g : Segment} (running : s.phase = .running)
    (runs : s.alert.segmentTimer ≠ none) (inSegment : s.alert.segment = some g) :
    exec .segmentTimerExpiry s = .next (State.settle { s with alert := s.alert.enterSegment s.body g.next }) := by
  rw [← Alert.segmentExpiry_running runs inSegment]
  exact whileRunning_running running fun u => { u with alert := u.alert.segmentExpiry u.body }

/-- Settles O42: the level segment by segment of Table 7-3, and the expiry by the segment it enters. -/
theorem segmentExpiryEntersTheNext : Obligations.SegmentExpiryEntersTheNext := by
  refine ⟨fun a g n ns inSegment timer => ?_, fun a ns off => Alert.line_of_no_segment off,
    fun s g running runs inSegment => ?_⟩
  · rw [Alert.line_of_segment inSegment timer]
    cases g with
    | c2 => simp [Segment.high_of_silence (g := .c2) rfl]
    | c1 => simp [Segment.high_of_tone (g := .c1) rfl, Segment.length]
    | w1 => simp [Segment.high_of_tone (g := .w1) rfl, Segment.length]
    | w2 => simp [Segment.high_of_tone (g := .w2) rfl, Segment.length]
  · refine ⟨_, State.segmentTimerExpiry_running running runs inSegment, ?_, ?_, Alert.enterSegment_next_toneDuty,
      s.alert.enterSegment_frame s.body g.next, rfl⟩
    · cases g <;> rfl
    · cases g <;> rfl

/-! ## The lines and the chime level (O43) -/

@[simp] theorem ZoneRec.face_acked {r : ZoneRec} : r.face.acked = r.acked := rfl

theorem ZoneRec.cautions_iff {r : ZoneRec} :
    r.face.cautions = true ↔ r.state = .caution ∨ (r.state = .hold ∧ r.held = .caution) := by
  simp [ZoneFace.cautions, ZoneRec.face]

/-- R135: a held level is CAUTION or WARNING, so an occupied zone is one that warns or cautions. -/
theorem ZoneFace.occupied_iff {f : ZoneFace} : f.occupied = true ↔ f.warns = true ∨ f.cautions = true := by
  obtain ⟨state, held, acked⟩ := f
  cases held <;> simp [ZoneFace.occupied, ZoneFace.warns, ZoneFace.cautions] <;> tauto

/-- R136: bit z of the flags is the chime on caution flag of zone z. -/
theorem Body.chimeFlags_getLsbD (b : Body) (z : Zone) : b.chimeFlags.getLsbD z.val = (b.zone z).chimeOnCaution := by
  have bits := BitVec.getLsbD_ofBoolListLE (bs := (List.finRange 8).map fun y => (b.zone y).chimeOnCaution) (i := z)
  exact bits.trans (by simp)

section
variable {flags : BitVec 8} {copies : Vector ZoneFace 8}

theorem hzWarnOf_iff : hzWarnOf copies = true ↔ ∃ z : Zone, copies[z].warns = true := by
  simp [hzWarnOf]

theorem hzCautionOf_iff : hzCautionOf copies = true ↔ ∃ z : Zone, copies[z].warns = true ∨ copies[z].cautions = true := by
  simp [hzCautionOf, ZoneFace.occupied_iff]

/-- R131: the level case by case, WARNING before CAUTION. -/
theorem chimeLevelOf_eq :
    chimeLevelOf flags copies =
      if ∃ z : Zone, copies[z].warns = true ∧ copies[z].acked = false then .warning
      else if ∃ z : Zone, flags.getLsbD z.val = true ∧ copies[z].cautions = true then .caution
      else .off := by
  simp [chimeLevelOf]

theorem chimeLevelOf_warning_iff :
    chimeLevelOf flags copies = .warning ↔ ∃ z : Zone, copies[z].warns = true ∧ copies[z].acked = false := by
  rw [chimeLevelOf_eq]
  split_ifs with warns cautions
  · exact iff_of_true rfl warns
  · exact iff_of_false nofun warns
  · exact iff_of_false nofun warns

theorem chimeLevelOf_caution_iff :
    chimeLevelOf flags copies = .caution ↔
      (¬ ∃ z : Zone, copies[z].warns = true ∧ copies[z].acked = false) ∧
        ∃ z : Zone, flags.getLsbD z.val = true ∧ copies[z].cautions = true := by
  rw [chimeLevelOf_eq]
  split_ifs with warns cautions
  · exact iff_of_false nofun fun both => both.1 warns
  · exact iff_of_true rfl ⟨warns, cautions⟩
  · exact iff_of_false nofun fun both => cautions both.2

end

/-- Settles O43: level and lines are worked out from the unit's copy, which is that of the zones. -/
theorem linesAndChimeFollowTheZones : Obligations.LinesAndChimeFollowTheZones := by
  intro s running order
  obtain ⟨⟨level, hzWarn, hzCaution, -, -⟩, -, flags, copies⟩ := order running
  refine ⟨?_, ?_, ?_, ?_⟩
  · rw [hzWarn, hzWarnOf_iff]
    simp only [copies, ZoneRec.warns_iff]
  · rw [hzCaution, hzCautionOf_iff]
    simp only [copies, ZoneRec.warns_iff, ZoneRec.cautions_iff]
  · rw [level, chimeLevelOf_warning_iff]
    simp only [copies, ZoneRec.warns_iff, ZoneRec.face_acked]
  · rw [level, chimeLevelOf_caution_iff, flags]
    simp only [copies, Body.chimeFlags_getLsbD, ZoneRec.warns_iff, ZoneRec.cautions_iff, ZoneRec.face_acked]

end Sys2Proof.Machine
end

section
/-! The view arbiter's timers (R144, R149): O44; and its requests (R142, R143, R145, R146): O45, O46. -/

namespace Sys2Proof.Machine

/-! ## A block's work on the arbiter, and the choice after it -/

section
variable {s t u : State}

/-- R148: a block that reaches the arbiter alone and makes the choice, and then the link controllers at most. -/
theorem State.chosen_after (rest : u.besideViews = s.besideViews) (links : t.besideLinks = u.choose.besideLinks) :
    (s.withArbiter u.arbiter).ChoiceMade t ∧ t.besideViews = s.besideViews := by
  obtain ⟨-, -, -, -, -, -, vehicle, -, -, -, -, -, settings, -⟩ := State.besideViews_fields rest
  have body : s.body = u.body := (congrArg SettingsBlock.working settings.symm :)
  have arbiter : t.arbiter = u.choose.arbiter := (congrArg State.arbiter links :)
  exact ⟨u.choose_made.congr body rfl vehicle.symm arbiter,
    ((State.besideViews_of_links links).trans u.besideViews_choose).trans rest⟩

/-- R149: a QUIET cause stays as it is. -/
theorem State.ChoiceMade.quiet_stays (h : s.ChoiceMade t) {i : Cause} (stage : (s.causeRec i).stage = .quiet) :
    t.causeRec i = s.causeRec i :=
  h.others i fun served => by simp [stage] at served

/-- A timer's expiry whose work on the arbiter is followed by the choice. -/
theorem State.expires {f : State → State} (running : s.phase = .running) (acts : f s = u.choose)
    (rest : u.besideViews = s.besideViews) :
    ∃ t, whileRunning s f = .next t ∧ (s.withArbiter u.arbiter).ChoiceMade t ∧ t.besideViews = s.besideViews := by
  refine ⟨_, whileRunning_running running f, State.chosen_after rest ?_⟩
  rw [acts]
  exact State.settle_besideLinks _

/-- A request whose work on the arbiter is followed by the choice, and then by the reply (log 19). -/
theorem State.Ready.chooses {l : Link} {row : RequestRow} {r : Request} {act : Request → State → State × Answer} {a : Answer}
    (h : s.Ready l row r) (acts : act r (s.taken l) = (u.choose, a)) (rest : u.besideViews = s.besideViews)
    (links : u.links = (s.taken l).links) :
    ∃ t, whileRunning s (answering row l act) = .next t ∧ (s.withArbiter u.arbiter).ChoiceMade t ∧ s.Replied t l r a ∧
      t.besideViews = s.besideViews ∧ t.arbiter = u.choose.arbiter := by
  obtain ⟨t, next, replied, beside⟩ := h.worked acts ((State.Raised.of_links links).trans u.choose_raised)
  obtain ⟨made, views⟩ := State.chosen_after rest beside
  exact ⟨t, next, made, replied, views, (congrArg State.arbiter beside :)⟩

end

/-! ## The timers (O44) -/

theorem State.showExpiry_runs {s : State} (runs : s.arbiter.showTimer ≠ none) :
    s.showExpiry = (s.withArbiter { s.arbiter with showTimer := none }).choose := if_neg runs

theorem State.causeExpiry_runs {s : State} {i : Cause} (runs : (s.causeRec i).timer ≠ none) :
    s.causeExpiry i = (s.setCauseRec i { s.causeRec i with stage := .quiet, timer := none }).choose := if_neg runs

/-- Settles O44: the show timer is cleared, or the cause is QUIET, and the choice that follows wakes no cause. -/
theorem viewTimersLeadToAChoice : Obligations.ViewTimersLeadToAChoice := by
  refine ⟨fun s running runs => ?_, fun s i running runs => ?_⟩
  · obtain ⟨t, next, made, rest⟩ := State.expires running (State.showExpiry_runs runs) rfl
    exact ⟨t, next, made, made.masks, rest⟩
  · obtain ⟨t, next, made, rest⟩ :=
      State.expires (f := fun u => u.causeExpiry i) running (State.causeExpiry_runs runs) rfl
    have expired := s.causeRec_setCauseRec_self i { s.causeRec i with stage := .quiet, timer := none }
    have ended := (made.quiet_stays (congrArg CauseRec.stage expired)).trans expired
    exact ⟨t, next, congrArg CauseRec.stage ended, congrArg CauseRec.timer ended, made, rest⟩

/-! ## VIEW_REQUEST (O45) -/

section
variable {r : Request} {s : State}

theorem actViewRequest_malformed (beyond : 11 < u8At r.fields 0) : actViewRequest r s = (s, .refuse .malformed) :=
  dif_neg (by omega)

variable {i : Cause} (index : u8At r.fields 0 = i.val)
include index

/-- R143: what is asked of a cause that there is. -/
theorem actViewRequest_cause :
    actViewRequest r s =
      if (s.body.cause i).enabled = true ∧ (s.body.cause i).source = .linkRequest then
        ((s.raiseCause i).choose, ⟨.done, [byte ((s.raiseCause i).choose.causeRec i).stage.code]⟩)
      else (s, .refuse .notPermitted) := by
  have same : ∀ h : u8At r.fields 0 < 12, (⟨u8At r.fields 0, h⟩ : Cause) = i := fun _ => Fin.ext index
  have small : u8At r.fields 0 < 12 := index ▸ i.isLt
  simp only [actViewRequest, dif_pos small, same, Bool.and_eq_true, beq_iff_eq]

end

/-- Settles O45: the checks of R143 one after another; a cause that is raised is followed by the choice, and its stage is read then. -/
theorem viewRequestRaisesItsCause : Obligations.ViewRequestRaisesItsCause := by
  refine ⟨fun s l r running head room kind short => answering_short running head room kind short, fun s l r ready => ?_⟩
  intro Refused
  refine ⟨fun beyond => ready.refused (actViewRequest_malformed beyond), fun i index => ?_⟩
  intro c
  have judged := actViewRequest_cause (s := s.taken l) index
  refine ⟨fun denied => ready.refused (judged.trans (if_neg ?_)), fun enabled source => ?_⟩
  · rintro ⟨enabled, source⟩
    exact denied.elim (fun off => nomatch off.symm.trans enabled) fun other => other source
  · have acts := judged.trans (if_pos ⟨enabled, source⟩)
    obtain ⟨t, next, made, replied, rest, chosen⟩ :=
      ready.chooses acts (State.besideViews_raiseCause _ i) (State.raiseCause_links _ i)
    have stage : ((s.taken l).raiseCause i).choose.causeRec i = t.causeRec i := by rw [State.causeRec, State.causeRec, chosen]
    rw [stage] at replied
    rw [State.raiseCause_eq] at made
    exact ⟨t, _, next, rfl, made, replied, rest⟩

/-! ## VIEW_MASK (O46) -/

section
variable (s : State)

/-- R145: all that a change of the mask sets changes is the causes. -/
theorem State.mapMasks_eq (f : Nat → BitVec 3 → BitVec 3) :
    s.mapMasks f = s.withCauses fun i => { s.causeRec i with masks := f i.val (s.causeRec i).masks } := by
  have causes : (s.arbiter.causes.mapIdx fun i r => { r with masks := f i r.masks }) =
      Vector.ofFn fun i : Cause => { s.causeRec i with masks := f i.val (s.causeRec i).masks } := by
    refine Vector.ext fun i hi => ?_
    rw [Vector.getElem_mapIdx, Vector.getElem_ofFn]
    rfl
  rw [State.mapMasks, causes, State.withCauses]

/-- R146: the causes under new mask sets: those in service that are masked have ended. -/
def State.underMasks (masks : Cause → BitVec 3) (i : Cause) : CauseRec :=
  if (s.causeRec i).stage = .inService ∧
    (masks i ≠ 0 ∨ ((s.body.cause i).maxSpeed ≠ 0 ∧ (s.body.cause i).maxSpeed < s.vehicle.speed)) then
    { stage := .quiet, timer := none, masks := masks i }
  else { s.causeRec i with masks := masks i }

variable {s} {masks : Cause → BitVec 3} {i : Cause}

theorem State.underMasks_masks : (s.underMasks masks i).masks = masks i := by
  unfold State.underMasks
  split <;> rfl

/-- R146: a cause in service that a link masks has ended. -/
theorem State.underMasks_ended (stage : (s.causeRec i).stage = .inService) (held : masks i ≠ 0) :
    s.underMasks masks i = { stage := .quiet, timer := none, masks := masks i } :=
  if_pos ⟨stage, .inl held⟩

/-- R146: the end of the masked causes in service, after the mask sets have changed. -/
theorem State.endMasked_withMasks :
    (s.withCauses fun i => { s.causeRec i with masks := masks i }).endMasked = s.withCauses (s.underMasks masks) := by
  have ended : ∀ u : State, u.endMasked = u.withCauses (u.told True) := fun u =>
    congrArg u.withArbiter (u.endMasked_arbiter trivial)
  rw [ended]
  refine congrArg s.withCauses (funext fun i => ?_)
  simp only [State.told, State.masked_iff, State.withCauses_causeRec, true_and]
  rfl

end

section
variable (s : State) (l : Link) (set : BitVec 16)

/-- R145, SET: the mask sets with the link added to those of the causes named. -/
def State.addedMasks (i : Cause) : BitVec 3 :=
  if set.getLsbD i.val then (s.causeRec i).masks ||| linkBit l else (s.causeRec i).masks

/-- R145, CLEAR: the mask sets with the link removed from those of the causes named. -/
def State.removedMasks (i : Cause) : BitVec 3 :=
  if set.getLsbD i.val then (s.causeRec i).masks &&& ~~~(linkBit l) else (s.causeRec i).masks

theorem State.maskCauses_eq : s.maskCauses l set = (s.withCauses (s.underMasks (s.addedMasks l set))).choose := by
  rw [State.maskCauses, State.mapMasks_eq, ← State.endMasked_withMasks]
  rfl

theorem State.unmaskCauses_eq :
    s.unmaskCauses l set = (s.withCauses fun i => { s.causeRec i with masks := s.removedMasks l set i }).choose := by
  rw [State.unmaskCauses, State.mapMasks_eq]
  rfl

variable {s l} {r : Request}

theorem actViewMaskSet_sets (action : u8At r.fields 2 = 0) :
    actViewMaskSet l r s =
      ((s.withCauses (s.underMasks (s.addedMasks l (w16At r.fields 0)))).choose, .done) := by
  rw [actViewMaskSet, if_pos action, State.maskCauses_eq]

theorem actViewMaskSet_malformed (action : u8At r.fields 2 ≠ 0) : actViewMaskSet l r s = (s, .refuse .malformed) :=
  if_neg action

theorem actViewMaskClear_clears :
    actViewMaskClear l r s =
      ((s.withCauses fun i => { s.causeRec i with masks := s.removedMasks l (w16At r.fields 0) i }).choose, .done) := by
  rw [actViewMaskClear, State.unmaskCauses_eq]

end

/-- Settles O46: the mask sets change and, on SET, the masked causes in service end; the choice that follows leaves both. -/
theorem viewMaskSetsAndClears : Obligations.ViewMaskSetsAndClears := by
  refine ⟨fun s l r ready action => ?_, fun s l r ready action => ready.refused (actViewMaskSet_malformed action),
    fun s l r ready => ?_⟩
  · obtain ⟨t, next, made, replied, rest, -⟩ := ready.chooses (actViewMaskSet_sets action) rfl rfl
    have before := s.withCauses_causeRec (s.underMasks (s.addedMasks l (w16At r.fields 0)))
    have masks : ∀ i, (t.causeRec i).masks = s.addedMasks l (w16At r.fields 0) i := fun i =>
      ((made.masks i).trans (congrArg CauseRec.masks (before i))).trans State.underMasks_masks
    refine ⟨t, next, masks, fun i stage held => ?_, made, replied, rest⟩
    have ended := (before i).trans (State.underMasks_ended stage (masks i ▸ held))
    have stays := (made.quiet_stays (congrArg CauseRec.stage ended)).trans ended
    exact ⟨congrArg CauseRec.stage stays, congrArg CauseRec.timer stays⟩
  · obtain ⟨t, next, made, replied, rest, -⟩ := ready.chooses actViewMaskClear_clears rfl rfl
    exact ⟨t, next, fun i => (made.masks i).trans (congrArg CauseRec.masks (s.withCauses_causeRec _ i)), made, replied, rest⟩

end Sys2Proof.Machine
end

section
/-! SUPPORT. The CAMERA notices (R24, R40): the work on one camera raises none but its own, each after the change that it tells of. -/

namespace Sys2Proof.Machine

/-! ## Work on one camera, and its notices -/

/-- From u to v one camera's receiver, picture memory and regulator have changed, and nothing else. -/
structure State.CameraWork (c : Camera) (u v : State) : Prop where
  links : v.links = u.links
  beside : v.besideCamera c = u.besideCamera c

theorem State.CameraWork.of_offCamera {c : Camera} {u v : State} (off : v.offCamera = u.offCamera)
    (beside : v.besideCamera c = u.besideCamera c) : State.CameraWork c u v :=
  ⟨(congrArg State.links off :), beside⟩

theorem State.CameraWork.trans {c : Camera} {s u v : State} (h : State.CameraWork c s u) (g : State.CameraWork c u v) :
    State.CameraWork c s v :=
  ⟨g.links.trans h.links, g.beside.trans h.beside⟩

/-- From s to t pieces of work on a camera have been done, a notice after each that changed the camera's face; the age shown stays. -/
inductive State.CameraHeard (c : Camera) (s : State) : State → Prop
  | refl : CameraHeard c s s
  | note {u v : State} (before : CameraHeard c s u) (work : State.CameraWork c u v)
      (age : (v.pict c).shownAge = (u.pict c).shownAge) : CameraHeard c s (State.noteCamera c u v)

/-- The same, or one piece of work with its notice that changed the age shown too. -/
def State.CameraTold (c : Camera) (s t : State) : Prop :=
  State.CameraHeard c s t ∨ ∃ v, State.CameraWork c s v ∧ t = State.noteCamera c s v

theorem State.CameraHeard.told {c : Camera} {s t : State} (h : State.CameraHeard c s t) : State.CameraTold c s t := .inl h

theorem State.CameraHeard.trans {c : Camera} {s u t : State} (h : State.CameraHeard c s u) (g : State.CameraHeard c u t) :
    State.CameraHeard c s t := by
  induction g with
  | refl => exact h
  | note _ work age ih => exact .note ih work age

theorem State.noteCamera_of_same {c : Camera} {b s : State} (same : b.cameraFace c = s.cameraFace c) :
    State.noteCamera c b s = s :=
  if_pos same

/-- One piece of work with its notice. -/
theorem State.CameraHeard.one {c : Camera} {s v : State} (work : State.CameraWork c s v)
    (age : (v.pict c).shownAge = (s.pict c).shownAge) : State.CameraHeard c s (State.noteCamera c s v) :=
  .note .refl work age

/-- Work that changes nothing of the camera's face. -/
theorem State.CameraHeard.quiet {c : Camera} {s v : State} (work : State.CameraWork c s v)
    (same : s.cameraFace c = v.cameraFace c) (age : (v.pict c).shownAge = (s.pict c).shownAge) : State.CameraHeard c s v :=
  State.noteCamera_of_same same ▸ .one work age

theorem State.CameraTold.work {c : Camera} {s v : State} (work : State.CameraWork c s v) :
    State.CameraTold c s (State.noteCamera c s v) :=
  .inr ⟨v, work, rfl⟩

/-! ## The age shown (R40) -/

theorem State.abandonFill_shownAge (s : State) (c : Camera) :
    ((s.abandonFill c).pict c).shownAge = (s.pict c).shownAge := by
  cases h : (s.recv c).fill with
  | none => rw [State.abandonFill_of_no_fill h]
  | some f =>
    rw [State.abandonFill_of_fill h]
    simp only [State.setRecv_keeps, State.pict_setPict_self]
    rfl

theorem State.openFill_shownAge (s : State) (c : Camera) (cycle : Nat) :
    ((s.openFill c cycle).pict c).shownAge = (s.pict c).shownAge := by
  have abandoned := s.abandonFill_shownAge c
  unfold State.openFill
  dsimp only
  split
  · exact abandoned
  · simp only [State.setRecv_keeps, State.pict_setPict_self, Picture.openFill, Picture.setSlot_keeps]
    exact abandoned

/-! ## Frame lock (R5 to R11) -/

section
variable (s : State) (c : Camera)

theorem State.setRecv_work (r : Receiver) : State.CameraWork c s (s.setRecv c r) :=
  .of_offCamera rfl (s.besideCamera_setRecv c r)

theorem State.setPict_work (p : Picture) : State.CameraWork c s (s.setPict c p) :=
  .of_offCamera rfl (s.besideCamera_setPict c p)

theorem State.dropToSearch_heard : State.CameraHeard c s (s.dropToSearch c) :=
  .one (.of_offCamera (by simp) (by simp)) (by simp [s.abandonFill_shownAge c])

theorem State.searchTakes_heard (cycle : Nat) : State.CameraHeard c s (s.searchTakes c cycle) :=
  .one (s.setRecv_work c _) rfl

theorem State.confirmFails_heard : State.CameraHeard c s (s.confirmFails c) :=
  .one (s.setRecv_work c _) rfl

theorem State.enterLocked_heard (cycle : Nat) : State.CameraHeard c s (s.enterLocked c cycle) := by
  refine .one (.of_offCamera (by simp) (by simp)) ?_
  rw [State.openFill_shownAge]
  rfl

/-- R9, R10: a slip and its notice. -/
theorem State.slip_heard : State.CameraHeard c s (State.noteCamera c s (s.slip c)) :=
  .one (.of_offCamera (by simp) (by simp)) (by simp [s.abandonFill_shownAge c])

/-- R9, R10: a slip with what is set in the receiver after it, and its notice. -/
theorem State.slipThen_heard (r : Receiver) : State.CameraHeard c s (State.noteCamera c s ((s.slip c).setRecv c r)) :=
  .one (.of_offCamera (by simp) (by simp)) (by simp [s.abandonFill_shownAge c])

theorem State.frameSlip_heard (cycle : Nat) : State.CameraHeard c s (s.frameSlip c cycle) := by
  unfold State.frameSlip
  dsimp only
  split
  · exact ((s.slip_heard c).trans (State.dropToSearch_heard _ c)).trans (State.searchTakes_heard _ c cycle)
  · exact s.slipThen_heard c _

theorem State.missingFrameStart_heard : State.CameraHeard c s (s.missingFrameStart c) := by
  unfold State.missingFrameStart
  dsimp only
  split
  · exact (s.slip_heard c).trans (State.dropToSearch_heard _ c)
  · exact s.slipThen_heard c _

theorem State.frameStart_heard (cycle : Nat) : State.CameraHeard c s (s.frameStart c cycle) := by
  unfold State.frameStart
  dsimp only
  split
  · exact s.searchTakes_heard c cycle
  · exact s.searchTakes_heard c cycle
  · split
    · exact s.enterLocked_heard c cycle
    · exact (s.confirmFails_heard c).trans (State.searchTakes_heard _ c cycle)
  · split
    · exact .quiet (s.setRecv_work c _) (by simp [State.cameraFace]) rfl
    · split
      · exact .one (.of_offCamera (by simp) (by simp)) (State.openFill_shownAge _ c cycle)
      · exact s.frameSlip_heard c cycle

theorem State.sendWord_heard : State.CameraHeard c s (s.sendWord c) :=
  .quiet (s.setRecv_work c _) (by simp [State.cameraFace]) rfl

theorem State.wake_heard : State.CameraHeard c s (s.wake c) := by
  unfold State.wake
  dsimp only
  split
  · exact (State.CameraHeard.one (s.setRecv_work c _) rfl).trans (State.sendWord_heard _ c)
  · exact .quiet (s.setRecv_work c _) (by simp [State.cameraFace]) rfl

/-! ## Line and blanking records (R1 to R3) -/

/-- A record in a receiver that is not SILENT. -/
theorem State.rowRecord_told (k : RowRecord) : State.CameraTold c s (s.rowRecord c k) := by
  unfold State.rowRecord
  dsimp only
  split
  · exact .inl .refl
  · exact .inl .refl
  · split
    · exact (s.confirmFails_heard c).told
    · exact .inl (.quiet (s.setRecv_work c _) (by simp [State.cameraFace]) rfl)
  · split
    · exact (s.missingFrameStart_heard c).told
    · have same : ∀ n, (s.setRecv c { s.recv c with place := n }).cameraFace c = s.cameraFace c := fun n => by
        simp [State.cameraFace]
      split
      · exact .inl (.quiet (s.setRecv_work c _) (same _).symm rfl)
      · have noted : ∀ u v : State, u.cameraFace c = s.cameraFace c → State.noteCamera c u v = State.noteCamera c s v :=
          fun u v face => by rw [State.noteCamera, State.noteCamera, face]
        rw [noted _ _ (same _)]
        exact .work (.of_offCamera (by simp) (by simp))

/-- R4, R5: a record arrives; the one that wakes a receiver is discarded. -/
theorem State.rowArrives_told (k : RowRecord) : State.CameraTold c s (s.rowArrives c k) := by
  unfold State.rowArrives
  by_cases silent : (s.recv c).lock = .silent
  · obtain ⟨w, -, woken⟩ := State.wake_of_silent silent
    have lock : ((s.wake c).recv c).lock = .search := by rw [woken]; rfl
    have same : (s.wake c).rowRecord c k = s.wake c := by simp [State.rowRecord, lock]
    rw [same]
    exact (s.wake_heard c).told
  · have face : s.cameraFace c = (s.wake c).cameraFace c := by
      simp [State.wake_of_not_silent silent, State.cameraFace, Receiver.heard]
    have work : State.CameraWork c s (s.wake c) := State.wake_of_not_silent silent ▸ s.setRecv_work c _
    rcases (s.wake c).rowRecord_told c k with heard | ⟨v, later, told⟩
    · exact ((s.wake_heard c).trans heard).told
    · rw [told, State.noteCamera, ← face]
      exact .work (work.trans later)

/-! ## Timers, copies and frame starts (R4, R13, R32, R36) -/

theorem State.fallSilent_heard : State.CameraHeard c s (s.fallSilent c) := by
  unfold State.fallSilent
  dsimp only
  split
  · exact .refl
  · exact .one (.of_offCamera (by simp) (by simp)) (by simp [s.abandonFill_shownAge c])

theorem State.windowEnd_heard : State.CameraHeard c s (s.windowEnd c) := by
  unfold State.windowEnd
  dsimp only
  split
  · exact .refl
  · split
    · exact s.dropToSearch_heard c
    · exact .one (s.setRecv_work c _) rfl

theorem State.finishCopy_told : State.CameraTold c s (State.noteCamera c s (s.finishCopy c)) :=
  .work (.of_offCamera (by simp) (by simp))

theorem State.openCamera_told : State.CameraTold c s (s.openCamera c) :=
  .work (s.setPict_work c _)

end

/-! ## The link controllers -/

/-- The notices of a camera are all that its work does to the link controllers. -/
theorem State.CameraHeard.raised {c : Camera} {s t : State} (h : State.CameraHeard c s t) : State.Raised s t := by
  induction h with
  | refl => exact .refl s
  | note _ work _ ih => exact ih.trans ((State.Raised.of_links work.links).trans (State.noteCamera_raised c _ _))

theorem State.CameraTold.raised {c : Camera} {s t : State} (h : State.CameraTold c s t) : State.Raised s t := by
  rcases h with heard | ⟨v, work, rfl⟩
  · exact heard.raised
  · exact (State.Raised.of_links work.links).trans (State.noteCamera_raised c _ _)

end Sys2Proof.Machine
end

section
/-! Every step keeps the queues bounded, with one notice per kind and subject (R178, R181, R182): O6. -/

namespace Sys2Proof.Machine

/-! ## The requests: notices at most -/

section
variable (l : Link) (r : Request) (s : State)

/-- R84: a request that names a handle sets one slot at most. -/
theorem RequestRow.objectAct_cases {row : RequestRow} :
    (row.objectAct l r s).1 = s ∨ ∃ i x, (row.objectAct l r s).1 = s.setSlot i x := by
  cases row with
  | objectPut =>
    dsimp only [RequestRow.objectAct, actObjectPut]
    repeat' split
    on_goal 6 => exact .inr ⟨_, _, rfl⟩
    all_goals exact .inl rfl
  | objectMove =>
    dsimp only [RequestRow.objectAct, actObjectMove]
    split
    · exact .inl rfl
    · exact .inr ⟨_, _, rfl⟩
  | objectStyle =>
    dsimp only [RequestRow.objectAct, actObjectStyle]
    repeat' split
    on_goal 3 => exact .inr ⟨_, _, rfl⟩
    all_goals exact .inl rfl
  | objectTextSetCursor =>
    dsimp only [RequestRow.objectAct, actTextSetCursor]
    repeat' split
    on_goal 3 => exact .inr ⟨_, _, rfl⟩
    all_goals exact .inl rfl
  | objectTextAppend =>
    dsimp only [RequestRow.objectAct, actTextAppend]
    repeat' split
    on_goal 4 => exact .inr ⟨_, _, rfl⟩
    all_goals exact .inl rfl
  | objectRemove =>
    dsimp only [RequestRow.objectAct, actObjectRemove]
    split
    · exact .inl rfl
    · exact .inr ⟨_, _, rfl⟩
  | _ => exact .inl rfl

theorem RequestRow.objectAct_raised {row : RequestRow} : State.Raised s (row.objectAct l r s).1 := by
  rcases RequestRow.objectAct_cases l r s (row := row) with same | ⟨i, x, set⟩
  · rw [same]; exact .refl s
  · rw [set]; exact .of_links rfl

theorem actVehicleState_raised : State.Raised s (actVehicleState l r s).1 := by
  unfold actVehicleState
  split
  · exact .refl s
  · split
    · exact .refl s
    · exact s.takeVehicle_raised _

theorem actBodyState_raised : State.Raised s (actBodyState l r s).1 := by
  unfold actBodyState
  split
  · exact .refl s
  · split
    · exact .refl s
    · exact s.bodyReport_raised _ _

theorem actTrackUpdate_raised : State.Raised s (actTrackUpdate l r s).1 := by
  rcases actTrackUpdate_cases l r s with same | ⟨p, cls, -, -, placed⟩
  · rw [same]; exact .refl s
  · rw [placed]; exact s.setPlace_raised p _

theorem actTrackDrop_raised : State.Raised s (actTrackDrop l r s).1 := by
  rcases actTrackDrop_cases l r s with same | ⟨p, dropped⟩
  · rw [same]; exact .refl s
  · rw [dropped]; exact s.setPlace_raised p none

theorem actZoneAck_raised : State.Raised s (actZoneAck l r s).1 := by
  unfold actZoneAck
  dsimp only
  split
  · split
    · exact .refl s
    · split
      · exact .refl s
      · exact s.takeZone_raised _ _
  · exact .refl s

theorem actViewRequest_raised : State.Raised s (actViewRequest r s).1 := by
  unfold actViewRequest
  dsimp only
  split
  · split
    · exact (State.Raised.of_links (s.raiseCause_links _)).trans (State.choose_raised _)
    · exact .refl s
  · exact .refl s

theorem actViewMaskSet_raised : State.Raised s (actViewMaskSet l r s).1 := by
  unfold actViewMaskSet
  split
  · exact s.maskCauses_raised l _
  · exact .refl s

theorem actStatusQuery_raised : State.Raised s (actStatusQuery l r s).1 := by
  unfold actStatusQuery
  split
  · exact .refl s
  · exact s.clearFlags_raised l

theorem actSettingsRead_raised : State.Raised s (actSettingsRead r s).1 := by
  unfold actSettingsRead
  dsimp only
  split <;> exact .refl s

theorem actServiceEnter_raised : State.Raised s (actServiceEnter l r s).1 := by
  unfold actServiceEnter
  split
  · exact .refl s
  · split
    · exact .refl s
    · exact s.enterService_raised

theorem actServiceExit_raised : State.Raised s (actServiceExit l r s).1 := by
  unfold actServiceExit
  split
  · exact .refl s
  · split
    · exact .refl s
    · exact (State.Raised.of_links s.askServiceEnd_links).trans (State.settingsStep_raised s _)

theorem actSettingsWrite_raised : State.Raised s (actSettingsWrite l r s).1 := by
  unfold actSettingsWrite
  dsimp only
  split
  · exact .refl s
  · split
    · exact .of_links rfl
    · exact .refl s

theorem State.tryCommit_raised (b : Body) : State.Raised s (s.tryCommit b).1 := by
  rw [State.tryCommit]
  split
  · exact .refl s
  · dsimp only
    exact s.applyCommit_raised b

theorem actSettingsCommit_raised : State.Raised s (actSettingsCommit l r s).1 := by
  rw [actSettingsCommit]
  split
  · exact .refl s
  · exact s.tryCommit_raised _
  · exact .refl s

end

/-! ## Output frames and owner silence -/

theorem State.openCameras_raised (s : State) : State.Raised s s.openCameras :=
  State.Raised.foldl _ (fun u c => (u.openCamera_told c).raised) _ _

theorem State.startFrame_raised (s : State) : State.Raised s s.startFrame := by
  have opened := s.openCameras_raised
  unfold State.startFrame
  generalize s.openCameras = u at opened ⊢
  exact opened.trans (.of_links rfl)

theorem State.closedFrame_raised (s : State) : State.Raised s s.countDownTable.closeFrame := by
  have counted := s.countDownTable_raised
  generalize s.countDownTable = u at counted ⊢
  exact counted.trans (.of_links rfl)

/-! ## The queues through the links' own commands -/

section
variable {s t : State} (h : s.QueuesOk)
include h

theorem State.QueuesOk.of_links (links : t.links = s.links) : t.QueuesOk := (State.Raised.of_links links).queues h

/-- One controller changed. -/
theorem State.QueuesOk.onCtl {l : Link} {f : LinkCtl → LinkCtl} (keeps : (s.ctl l).Ok → (f (s.ctl l)).Ok) :
    (s.onCtl l f).QueuesOk :=
  s.setCtl_queues l _ (keeps (h l)) h

/-- R173, R178: a CAN frame. -/
theorem State.QueuesOk.canFrame (l : Link) (ident : BitVec 11) (payload : List Byte) :
    (s.canFrame l ident payload).QueuesOk := by
  unfold State.canFrame
  split
  · exact h
  · split
    · exact (s.setFraming_raised l).queues h
    · exact h.onCtl fun ok => LinkCtl.arrive_ok _ _ _ ok

/-- R176: an SPI exchange. -/
theorem State.QueuesOk.completeExchange (half : List Byte) : (s.completeExchange half).QueuesOk := by
  have sent : (s.setCtl .detector (s.ctl .detector).startExchange.finishSending).QueuesOk :=
    s.setCtl_queues _ _ (LinkCtl.finishSending_ok _ (LinkCtl.startExchange_ok _ (h .detector))) h
  unfold State.completeExchange
  dsimp only
  split
  · exact sent
  · split
    · exact sent
    · exact sent.onCtl fun ok => LinkCtl.arrive_ok _ _ _ ok
    · exact (State.setFraming_raised _ _).queues sent

/-- R177: an SPI exchange is cut short. -/
theorem State.QueuesOk.cutExchange : s.cutExchange.QueuesOk :=
  ((s.setFraming_raised .detector).queues h).onCtl fun ok => LinkCtl.noTransit_ok _ _ ok

/-- R185: the owner silence timer expires. -/
theorem State.QueuesOk.ownerExpiry (l : Link) : (s.ownerExpiry l).QueuesOk := by
  unfold State.ownerExpiry
  split
  · exact h
  · have stopped : (s.onCtl l fun c => { c with ownerTimer := none }).QueuesOk :=
      h.onCtl fun ok => LinkCtl.ownerTimer_ok _ none ok
    exact ((State.purge_raised _ l).trans (State.clearMasks_raised _ l)).queues stopped

/-- R181: a reply enters a queue that can take it. -/
theorem State.QueuesOk.reply {l : Link} (room : (s.ctl l).canReply = true) (r : Request) (a : Answer) :
    (s.reply l r a).QueuesOk :=
  s.setCtl_queues l _ (LinkCtl.pushReply_ok _ _ rfl (h l) room) h

/-- R179: the head of a queue is taken; the outbound queue can still take the reply. -/
theorem State.QueuesOk.takeHead {row : RequestRow} {l : Link} {r : Request} (taken : s.takeHead row l = some (r, t)) :
    t.QueuesOk ∧ (t.ctl l).canReply = true := by
  obtain ⟨rest, queue, room, -, rfl⟩ := State.takeHead_eq taken
  have short : rest.length ≤ Config.inboundLimit := by
    have bound := (h l).inbound
    rw [queue] at bound
    exact Nat.le_of_succ_le bound
  refine ⟨s.setCtl_queues l _ (LinkCtl.inbound_ok _ rest short (h l)) h, ?_⟩
  rw [State.ctl_setCtl_self]
  exact room

/-- R179: a request of an unknown kind. -/
theorem State.QueuesOk.answerUnknown (l : Link) : (s.answerUnknown l).QueuesOk := by
  unfold State.answerUnknown
  split
  · exact h
  · rename_i taken
    obtain ⟨ok, room⟩ := h.takeHead taken
    exact ok.reply room _ _

end

/-! ## Resets (R187, R190, R195) -/

/-- R187: every controller that a reset leaves is in order. -/
theorem State.mapLinks_queues (s : State) {f : Nat → LinkCtl → Nat → LinkCtl} (ok : ∀ i c n, (f i c n).Ok) :
    (s.mapLinks f).QueuesOk := by
  intro l
  simp only [State.mapLinks, State.ctl, Fin.getElem_fin, Vector.getElem_mapIdx]
  exact ok _ _ _

/-- R190: the links of a machine right after a cold reset. -/
theorem State.queues_of_reset {s : State} (links : s.links = State.reset.links) : s.QueuesOk := by
  intro l
  have ctl : s.ctl l = LinkCtl.atReset := by rw [State.ctl, links]; simp [State.reset]
  rw [ctl]
  exact LinkCtl.atReset_ok

/-- R190: the end of the settings load. -/
theorem State.endLoad_queues (s : State) (found : Option Body) : (s.endLoad found).QueuesOk := by
  unfold State.endLoad
  extract_lets s1 s2 s3 s4
  have started : s2.QueuesOk := State.mapLinks_queues _ fun _ c n => c.start_ok n
  have alerted : s3.QueuesOk := started.of_links rfl
  clear_value s3
  exact (s3.firstLook_raised.trans (s4.raise_raised _ _ _)).queues alerted

/-- R195: a warm reset empties every queue before the reply of a RESET enters. -/
theorem State.warmReset_queues (s : State) {first : State → State}
    (keeps : ∀ u : State, u.QueuesOk → (∀ l, (u.ctl l).outbound = []) → (first u).QueuesOk) :
    (s.warmReset first).QueuesOk := by
  have emptied : s.warmBlocks.QueuesOk := State.mapLinks_queues _ fun i c n => c.warmReset_ok i n
  have empty : ∀ l, (s.warmBlocks.ctl l).outbound = [] := fun l => by
    simp only [State.warmBlocks, State.mapLinks, State.ctl, Fin.getElem_fin, Vector.getElem_mapIdx]
    rfl
  have replied := keeps s.warmBlocks emptied empty
  unfold State.warmReset State.noteServiceEnd
  generalize first s.warmBlocks = u at replied
  have looked := u.firstLook_raised.queues replied
  split
  · exact (State.raise_raised _ _ _ _).queues looked
  · exact looked

section
variable {s t : State} (h : s.QueuesOk)
include h

/-- R195: the RESET_N line falls. -/
theorem State.QueuesOk.lineFalls : s.lineFalls.QueuesOk := by
  unfold State.lineFalls
  split
  · split
    · exact State.settle_queues _ (State.warmReset_queues _ fun _ ok _ => ok)
    · exact h.of_links rfl
  · exact h

/-- R195: a RESET request. -/
theorem State.QueuesOk.answerReset (l : Link) : (s.answerReset l).QueuesOk := by
  unfold State.answerReset
  split
  · exact h
  · rename_i r u taken
    obtain ⟨ok, room⟩ := h.takeHead taken
    split
    · exact ok.reply room _ _
    · split
      · exact ok.reply room _ _
      · refine u.warmReset_queues fun v emptied empty => emptied.reply ?_ r .done
        simp [LinkCtl.canReply, empty, Config.outboundLimit]

/-- A step on an empty queue (log 1). -/
theorem State.QueuesOk.idle : s.idle.QueuesOk := by
  unfold State.idle
  split
  · exact h
  · intro l
    rw [s.millisecond_ctl]
    exact LinkCtl.ownerTimer_ok _ _ (h l)

/-! ## The kinds of commands -/

/-- A command of the running part. -/
theorem State.QueuesOk.work {f : State → State} (keeps : ∀ u : State, u.QueuesOk → (f u).QueuesOk)
    (next : whileRunning s f = .next t) : t.QueuesOk :=
  whileRunning_keeps State.QueuesOk State.settle_queues f (fun u _ ok => keeps u ok) next h

/-- A command whose work raises notices and sets flags. -/
theorem State.QueuesOk.raises {f : State → State} (raised : ∀ u : State, State.Raised u (f u))
    (next : whileRunning s f = .next t) : t.QueuesOk :=
  h.work (fun u ok => (raised u).queues ok) next

/-- A request whose block raises notices and sets flags. -/
theorem State.QueuesOk.request {row : RequestRow} {l : Link} {act : Request → State → State × Answer}
    (raised : ∀ r u, State.Raised u (act r u).1) (next : whileRunning s (answering row l act) = .next t) : t.QueuesOk :=
  h.work (answering_queues row l act raised) next

/-- A command of one port. -/
theorem State.QueuesOk.port {l : Link} {f : LinkCtl → LinkCtl} (keeps : ∀ c : LinkCtl, c.Ok → (f c).Ok)
    (next : (whileRunning s fun u => u.onCtl l f) = .next t) : t.QueuesOk :=
  h.work (f := fun u => u.onCtl l f) (fun _ ok => ok.onCtl (keeps _)) next

/-- A command of the supply monitor. -/
theorem State.QueuesOk.powered {f : State → State} (raised : ∀ u : State, State.Raised u (f u))
    (next : whilePowered s f = .next t) : t.QueuesOk := by
  unfold whilePowered at next
  split at next
  all_goals obtain rfl := Host.Outcome.next.inj next
  · exact h
  · exact (raised s).queues h
  · exact State.settle_queues _ ((raised s).queues h)

/-- A report of a supply level. -/
theorem State.QueuesOk.supply {f : Supply → Supply}
    (next : (whilePowered s fun u => u.setSupply (f u.supply)) = .next t) : t.QueuesOk :=
  h.powered (f := fun u => u.setSupply (f u.supply)) (fun u => u.setSupply_raised _) next

/-- A timer of the vehicle state block. -/
theorem State.QueuesOk.vehicleTimer {d : State → Timer} {g : State → Vehicle}
    (next : (whileRunning s fun u => if d u = none then u else u.takeVehicle (g u)) = .next t) : t.QueuesOk :=
  h.raises (f := fun u => if d u = none then u else u.takeVehicle (g u))
    (fun u => .ite _ (.refl u) (u.takeVehicle_raised _)) next

/-- The end of the settings load. -/
theorem State.QueuesOk.loaded {found : Option Body} (next : whileLoading s found = .next t) : t.QueuesOk := by
  obtain rfl := Host.Outcome.next.inj next
  split
  · exact State.settle_queues _ (s.endLoad_queues found)
  · exact h

omit h in
/-- A command whose answer is written out. -/
theorem State.QueuesOk.same {u : State} (next : (.next u : Host.Outcome State Fault Refusal) = .next t)
    (ok : u.QueuesOk) : t.QueuesOk :=
  Host.Outcome.next.inj next ▸ ok

/-! ## Every command (O6) -/

/-- R1, R199: a record of a camera, of whatever form. -/
theorem exec_record_queues {i : Instr} {c : Camera} {packet : List Byte}
    (record : i = .frameStartRecord c packet ∨ i = .lineRecord c packet ∨ i = .blankingRecord c packet)
    (next : exec i s = .next t) : t.QueuesOk := by
  rcases record with rfl | rfl | rfl
  · change execFrameStartRecord c packet s = .next t at next
    unfold execFrameStartRecord at next
    split at next
    · split at next
      · cases next
      · exact h.raises (fun u => ((u.wake_heard c).trans (State.frameStart_heard _ c _)).raised) next
    · exact State.QueuesOk.same next h
  · change execLineRecord c packet s = .next t at next
    unfold execLineRecord at next
    split at next
    · exact h.raises (fun u => (u.rowArrives_told c _).raised) next
    · exact State.QueuesOk.same next h
  · change execBlankingRecord c packet s = .next t at next
    unfold execBlankingRecord at next
    split at next
    · exact h.raises (fun u => (u.rowArrives_told c _).raised) next
    · exact State.QueuesOk.same next h

theorem exec_queues {i : Instr} (next : exec i s = .next t) : t.QueuesOk := by
  cases i with
  | frameStartRecord c packet => exact exec_record_queues h (.inl rfl) next
  | lineRecord c packet => exact exec_record_queues h (.inr (.inl rfl)) next
  | blankingRecord c packet => exact exec_record_queues h (.inr (.inr rfl)) next
  | silenceTimerExpiry c => exact h.raises (fun u => (u.fallSilent_heard c).raised) next
  | returnTimerExpiry c => exact h.raises (fun u => .ite _ (.refl u) (u.sendWord_heard c).raised) next
  | errorWindowEnd c => exact h.raises (fun u => (u.windowEnd_heard c).raised) next
  | concealmentCopyFinish c =>
    exact h.raises (f := fun u => State.noteCamera c u (u.finishCopy c)) (fun u => (u.finishCopy_told c).raised) next
  | stopTimerExpiry c => exact h.raises (f := fun u => u.setReg c (u.reg c).stopExpiry) (fun _ => .of_links rfl) next
  | outputFrameStart =>
    change execOutputFrameStart s = .next t at next
    unfold execOutputFrameStart at next
    split at next
    · exact h.raises State.startFrame_raised next
    · exact State.QueuesOk.same next (h.of_links rfl)
    · exact State.QueuesOk.same next h
  | outputFrameEnd =>
    change execOutputFrameEnd s = .next t at next
    unfold execOutputFrameEnd at next
    split at next
    · exact h.raises State.closedFrame_raised next
    · exact State.QueuesOk.same next (h.of_links rfl)
    · exact State.QueuesOk.same next h
  | objectPut l => exact h.request (fun r u => RequestRow.objectAct_raised l r u (row := .objectPut)) next
  | objectMove l => exact h.request (fun r u => RequestRow.objectAct_raised l r u (row := .objectMove)) next
  | objectStyle l => exact h.request (fun r u => RequestRow.objectAct_raised l r u (row := .objectStyle)) next
  | objectTextSetCursor l =>
    exact h.request (fun r u => RequestRow.objectAct_raised l r u (row := .objectTextSetCursor)) next
  | objectTextAppend l => exact h.request (fun r u => RequestRow.objectAct_raised l r u (row := .objectTextAppend)) next
  | objectRemove l => exact h.request (fun r u => RequestRow.objectAct_raised l r u (row := .objectRemove)) next
  | objectRemoveAll l | stripSet l => exact h.request (fun _ _ => .of_links rfl) next
  | ownerSilenceTimerExpiry l => exact h.work (fun _ ok => ok.ownerExpiry l) next
  | vehicleState l => exact h.request (actVehicleState_raised l) next
  | bodyState l => exact h.request (actBodyState_raised l) next
  | indicatorOffDelayExpiry =>
    exact h.vehicleTimer (d := fun u => u.vehicle.offDelay) (g := fun u => u.vehicle.offDelayExpiry) next
  | chassisSilenceTimerExpiry =>
    exact h.vehicleTimer (d := fun u => u.vehicle.chassisTimer) (g := fun u => u.vehicle.chassisFallback) next
  | bodySilenceTimerExpiry =>
    exact h.vehicleTimer (d := fun u => u.vehicle.bodyTimer) (g := fun u => u.vehicle.bodyFallback) next
  | trackUpdate l => exact h.request (actTrackUpdate_raised l) next
  | trackExpiry p => exact h.raises (fun u => .ite _ (.refl u) (u.setPlace_raised p none)) next
  | trackDrop l => exact h.request (actTrackDrop_raised l) next
  | holdTimerExpiry z => exact h.raises (fun u => u.holdExpiry_raised z) next
  | dwellPeriodEnd z => exact h.raises (fun u => u.dwellEnd_raised z) next
  | zoneAck l => exact h.request (actZoneAck_raised l) next
  | segmentTimerExpiry =>
    exact h.raises (f := fun u => { u with alert := u.alert.segmentExpiry u.body }) (fun _ => .of_links rfl) next
  | viewRequest l => exact h.request actViewRequest_raised next
  | viewMaskSet l => exact h.request (actViewMaskSet_raised l) next
  | viewMaskClear l => exact h.request (fun r u => u.unmaskCauses_raised l _) next
  | causeTimerExpiry i => exact h.raises (fun u => u.causeExpiry_raised i) next
  | showTimerExpiry => exact h.raises State.showExpiry_raised next
  | canRequestFrame p ident payload => exact h.work (fun _ ok => ok.canFrame p.link ident payload) next
  | spiExchangeStart =>
    change execSpiExchangeStart s = .next t at next
    unfold execSpiExchangeStart at next
    split at next
    · exact h.port LinkCtl.startExchange_ok next
    · exact State.QueuesOk.same next (h.onCtl (LinkCtl.startIdleExchange_ok _))
    · exact State.QueuesOk.same next h
  | spiExchange half =>
    change execSpiExchange half s = .next t at next
    unfold execSpiExchange at next
    split at next
    · refine h.work (fun u ok => ?_) next
      split
      · exact ok.cutExchange
      · exact ok.completeExchange half
    · exact State.QueuesOk.same next (h.onCtl (LinkCtl.noTransit_ok _ _))
    · exact State.QueuesOk.same next h
  | spiExchangeCutShort =>
    change execSpiExchangeCutShort s = .next t at next
    unfold execSpiExchangeCutShort at next
    split at next
    · exact h.work (fun _ ok => ok.cutExchange) next
    · exact State.QueuesOk.same next (h.onCtl (LinkCtl.noTransit_ok _ _))
    · exact State.QueuesOk.same next h
  | canFrameAcknowledged p => exact h.port LinkCtl.finishSending_ok next
  | canArbitrationLoss p | canBusError p => exact h.port (f := LinkCtl.sendAgain) (fun c ok => c.noTransit_ok _ ok) next
  | canBusOff p =>
    refine h.port (f := fun c => if c.busOff then c else c.enterBusOff) (fun c ok => ?_) next
    split
    · exact ok
    · exact c.enterBusOff_ok ok
  | canBusOffRecovery p =>
    exact h.port (f := fun c => { c with busOff := false })
      (fun _ ok => ⟨ok.inbound, ok.outbound, ok.subjects, ok.sending⟩) next
  | unknownKind l => exact h.work (fun _ ok => ok.answerUnknown l) next
  | statusQuery l => exact h.request (actStatusQuery_raised l) next
  | serviceEnter l => exact h.request (actServiceEnter_raised l) next
  | serviceExit l => exact h.request (actServiceExit_raised l) next
  | settingsWrite l => exact h.request (actSettingsWrite_raised l) next
  | settingsRead l => exact h.request actSettingsRead_raised next
  | settingsCommit l => exact h.request (actSettingsCommit_raised l) next
  | commitWriteComplete => exact h.raises (fun u => u.endCommit_raised SettingsBlock.complete) next
  | commitWriteFailed | commitLimitExpiry => exact h.raises (fun u => u.endCommit_raised SettingsBlock.fail) next
  | coldReset below => exact State.QueuesOk.same next (State.queues_of_reset rfl)
  | settingsLoadEnd | settingsLoadLimitExpiry | settingsLoadNotAcknowledged => exact h.loaded next
  | resetN => exact State.QueuesOk.same next h.lineFalls
  | reset l => exact h.work (fun _ ok => ok.answerReset l) next
  | supplyFallBelow18V | supplyRiseTo18V | supplyRiseTo20V | supplyFallBelow20V => exact h.supply next
  | dipTimerExpiry => exact h.powered State.dipExpiry_raised next
  | recoveryTimerExpiry => exact h.powered State.recoveryExpiry_raised next
  | supplyStop =>
    obtain rfl := Host.Outcome.next.inj next
    split
    · exact h
    · exact State.queues_of_reset rfl
  | resetNRise => exact State.QueuesOk.same next (h.of_links rfl)

end

/-- Settles O6: a command raises notices and sets flags, or is one of the links' own, or a reset, and each of these keeps every
controller in order; a millisecond moves the owner silence timers alone. -/
theorem queuesStayBounded : Obligations.QueuesStayBounded := by
  intro s t ok stepped
  unfold step at stepped
  split at stepped
  · exact Host.Outcome.next.inj stepped ▸ ok.idle
  · rename_i i rest _
    have queued : (s.withPending rest).QueuesOk := ok.of_links rfl
    exact exec_queues queued stepped

end Sys2Proof.Machine
end

section
/-! SUPPORT. One controller changed, and what the end of the step makes of it (R174): the CAN ports put their heads up, the SPI port does
not. -/

namespace Sys2Proof.Machine

theorem State.setCtl_ctl_self (s : State) (l : Link) : s.setCtl l (s.ctl l) = s := by
  simp [State.setCtl, State.ctl]

theorem State.onCtl_ctl_self (s : State) (l : Link) (f : LinkCtl → LinkCtl) : (s.onCtl l f).ctl l = f (s.ctl l) :=
  s.ctl_setCtl_self l _

theorem State.onCtl_ctl_of_ne (s : State) {l m : Link} (f : LinkCtl → LinkCtl) (h : m ≠ l) :
    (s.onCtl l f).ctl m = s.ctl m :=
  s.ctl_setCtl_of_ne l m _ h

/-- The links of the two CAN ports are the first two. -/
theorem CanPort.link_lt (p : CanPort) : p.link.ix.val < 2 := by
  cases p <;> decide

/-- R174: a CAN port puts its head up at the end of the step. -/
theorem State.settle_port (s : State) (p : CanPort) :
    s.settle.ctl p.link = (s.ctl p.link).putUp s.body p.link.ix.val := by
  simp only [State.settle, State.ctl, Fin.getElem_fin, Vector.getElem_mapIdx, if_pos (CanPort.link_lt p)]

/-- R176: the SPI port puts nothing up; its master begins the exchanges. -/
theorem State.settle_detector (s : State) : s.settle.ctl .detector = s.ctl .detector := by
  simp [State.settle, State.ctl, Link.ix]

section
variable {c : LinkCtl} (b : Body) (i : Nat)

/-- R174: a port that sends nothing puts its head up, a reply on the reply identifier, a notice on the notice identifier. -/
theorem LinkCtl.putUp_head (idle : c.transit = none) (joined : c.busOff = false) {m : OutMsg} {rest : List OutMsg}
    (queue : c.outbound = m :: rest) :
    (c.putUp b i).transit = some
      { msg := some m, ident := b.canId i (if m.notice.isSome then 2 else 1), removesHead := true, disregard := false } := by
  simp [LinkCtl.putUp, idle, joined, queue]

/-- R174: an empty queue leaves a port that sends nothing idle. -/
theorem LinkCtl.putUp_empty (idle : c.transit = none) (queue : c.outbound = []) : (c.putUp b i).transit = none := by
  simp [LinkCtl.putUp, idle, queue]

/-- R175: a port in bus-off puts nothing up. -/
theorem LinkCtl.putUp_busOff (off : c.busOff = true) : c.putUp b i = c := by
  simp [LinkCtl.putUp, off]

end

end Sys2Proof.Machine
end

section
/-! A CAN frame that is received (R173, R175, R178): O47. -/

namespace Sys2Proof.Machine

/-! ## A request arrives (R178) -/

section
variable {c : LinkCtl} (timeout : Nat) (r : Request)

theorem LinkCtl.arrive_joins (room : c.inbound.length < 16) :
    c.arrive timeout r = { c with inbound := c.inbound ++ [r], ownerTimer := some timeout } :=
  if_pos room

theorem LinkCtl.arrive_overruns (full : 16 ≤ c.inbound.length) :
    c.arrive timeout r = { c with flags := { c.flags with inboundOverrun := true } } :=
  if_neg (not_lt.mpr full)

theorem LinkCtl.arrive_outbound : (c.arrive timeout r).outbound = c.outbound := by
  unfold LinkCtl.arrive
  split <;> rfl

end

/-! ## A frame (R173) -/

/-- R173, R175: a frame is for a port that has joined its bus, on its request identifier. -/
def State.Hears (s : State) (l : Link) (ident : BitVec 11) : Prop :=
  (s.ctl l).busOff = false ∧ (ident.toNat : Int) = s.body.canId l.ix.val 0

section
variable {s : State} {l : Link} {ident : BitVec 11} {payload : List Byte}

theorem State.hears_iff : s.Hears l ident ↔ ¬ ((s.ctl l).busOff = true ∨ (ident.toNat : Int) ≠ s.body.canId l.ix.val 0) := by
  simp [State.Hears]

theorem Request.ofBytes_eq_none {bs : List Byte} : Request.ofBytes bs = none ↔ bs.length < 3 := by
  match bs with
  | [] | [_] | [_, _] => simp [Request.ofBytes]
  | _ :: _ :: _ :: _ => simp [Request.ofBytes]

theorem State.canFrame_elsewhere (h : ¬ s.Hears l ident) : s.canFrame l ident payload = s :=
  if_pos (not_not.mp (mt State.hears_iff.mpr h))

theorem State.canFrame_short (h : s.Hears l ident) (short : payload.length < 3) :
    s.canFrame l ident payload = s.setFraming l := by
  rw [State.canFrame, if_neg (State.hears_iff.mp h), Request.ofBytes_eq_none.mpr short]

theorem State.canFrame_request (h : s.Hears l ident) (kind tag len : Byte) (carried : List Byte) :
    s.canFrame l ident (kind :: tag :: len :: carried) =
      s.onCtl l fun c =>
        c.arrive (s.ownerTimeout l) { kind := kind, tag := tag, len := len.toNat, carried := carried } := by
  rw [State.canFrame, if_neg (State.hears_iff.mp h)]
  rfl

/-- A frame reaches one controller, and nothing of the messages that wait there. -/
theorem State.canFrame_keeps (s : State) (l : Link) (ident : BitVec 11) (payload : List Byte) :
    (s.canFrame l ident payload).besideLinks = s.besideLinks ∧
    ((s.canFrame l ident payload).ctl l).outbound = (s.ctl l).outbound ∧
    ∀ m, m ≠ l → (s.canFrame l ident payload).ctl m = s.ctl m := by
  unfold State.canFrame
  split
  · exact ⟨rfl, rfl, fun _ _ => rfl⟩
  · split
    · exact ⟨rfl, by rw [State.setFraming, State.ctl_setCtl_self], fun m e => s.ctl_setCtl_of_ne l m _ e⟩
    · exact ⟨rfl, by rw [State.onCtl_ctl_self, LinkCtl.arrive_outbound], fun m e => s.onCtl_ctl_of_ne _ e⟩

end

/-- Settles O47: a frame that is for the port is too short for a request, or is one that joins the queue or overruns it. -/
theorem canRequestJoinsTheQueue : Obligations.CanRequestJoinsTheQueue := by
  intro s p ident payload running
  obtain ⟨rest, outbound, others⟩ := s.canFrame_keeps p.link ident payload
  have next : exec (.canRequestFrame p ident payload) s = .next (s.canFrame p.link ident payload).settle :=
    whileRunning_running running fun u => u.canFrame p.link ident payload
  refine ⟨_, next, ⟨fun elsewhere => ?_, fun here short => ?_, ?_, ?_, fun m e => ?_⟩, rest⟩
  · simp [State.settle_ctl, State.canFrame_elsewhere elsewhere]
  · simp [State.settle_ctl, State.canFrame_short here short, State.setFraming]
  · rintro here kind tag len carried rfl
    rw [State.canFrame_request here]
    refine ⟨fun room => ?_, fun full => ?_⟩
    · simp [State.settle_ctl, State.onCtl_ctl_self, LinkCtl.arrive_joins _ _ room, State.ownerTimeout]
    · simp [State.settle_ctl, State.onCtl_ctl_self, LinkCtl.arrive_overruns _ _ full]
  · rw [(State.settle_ctl _ _).2.1, outbound]
  · simp [State.settle_ctl, others m e]

end Sys2Proof.Machine
end

section
/-! The reports of a CAN port about its sending, and the frame on its bus (R174, R175, R201): O48. -/

namespace Sys2Proof.Machine

/-! ## One port's work (R174, R175) -/

/-- R174: a port that is free to send has its head on the bus at the end of the step, and an idle bus on an empty queue. -/
theorem LinkCtl.putUp_puts {c : LinkCtl} (b : Body) (i : Nat) (idle : c.transit = none) (joined : c.busOff = false) :
    (∀ m rest, (c.putUp b i).outbound = m :: rest → (c.putUp b i).transit = some
      { msg := some m, ident := b.canId i (if m.notice.isSome then 2 else 1), removesHead := true, disregard := false }) ∧
    ((c.putUp b i).outbound = [] → (c.putUp b i).transit = none) := by
  have queue : (c.putUp b i).outbound = c.outbound := (c.putUp_keeps b i).2.1
  exact ⟨fun m rest e => LinkCtl.putUp_head b i idle joined (queue.symm.trans e),
    fun e => LinkCtl.putUp_empty b i idle (queue.symm.trans e)⟩

section
variable (s : State) (p : CanPort) (f : LinkCtl → LinkCtl)

/-- A CAN port's controller after its own command. -/
theorem State.port_ctl : (s.onCtl p.link f).settle.ctl p.link = (f (s.ctl p.link)).putUp s.body p.link.ix.val := by
  rw [State.settle_port, State.onCtl_ctl_self]
  rfl

/-- A CAN port's own command reaches no request that waits and no other link. -/
theorem State.port_keeps (keeps : ∀ c, (f c).inbound = c.inbound ∧ (f c).ownerTimer = c.ownerTimer) :
    (s.onCtl p.link f).settle.besideLinks = s.besideLinks ∧
    (∀ m, ((s.onCtl p.link f).settle.ctl m).inbound = (s.ctl m).inbound ∧
      ((s.onCtl p.link f).settle.ctl m).ownerTimer = (s.ctl m).ownerTimer) ∧
    ∀ m, m ≠ p.link → ((s.onCtl p.link f).settle.ctl m).outbound = (s.ctl m).outbound ∧
      ((s.onCtl p.link f).settle.ctl m).flags = (s.ctl m).flags := by
  refine ⟨rfl, fun m => ?_, fun m e => ?_⟩
  · obtain ⟨inbound, -, -, ownerTimer, -⟩ := (s.onCtl p.link f).settle_ctl m
    rw [inbound, ownerTimer]
    by_cases e : m = p.link
    · subst e
      rw [State.onCtl_ctl_self]
      exact keeps _
    · rw [State.onCtl_ctl_of_ne _ _ e]
      exact ⟨rfl, rfl⟩
  · obtain ⟨-, outbound, flags, -, -⟩ := (s.onCtl p.link f).settle_ctl m
    rw [outbound, flags, State.onCtl_ctl_of_ne _ _ e]
    exact ⟨rfl, rfl⟩

/-- R174: a CAN port whose own command leaves it free to send has its head on the bus at the end of the step. -/
theorem State.port_puts (idle : (f (s.ctl p.link)).transit = none) (joined : (f (s.ctl p.link)).busOff = false) :
    (∀ m rest, ((s.onCtl p.link f).settle.ctl p.link).outbound = m :: rest →
      ((s.onCtl p.link f).settle.ctl p.link).transit = some
        { msg := some m, ident := s.body.canId p.link.ix.val (if m.notice.isSome then 2 else 1), removesHead := true
          disregard := false }) ∧
    (((s.onCtl p.link f).settle.ctl p.link).outbound = [] → ((s.onCtl p.link f).settle.ctl p.link).transit = none) := by
  rw [State.port_ctl]
  exact LinkCtl.putUp_puts _ _ idle joined

end

/-- R174: the end of a sending concerns the outbound queue and what is being sent. -/
theorem LinkCtl.finishSending_keeps (c : LinkCtl) :
    c.finishSending.inbound = c.inbound ∧ c.finishSending.ownerTimer = c.ownerTimer ∧
    c.finishSending.flags = c.flags ∧ c.finishSending.busOff = c.busOff := by
  unfold LinkCtl.finishSending
  split <;> exact ⟨rfl, rfl, rfl, rfl⟩

/-- R174, R176: the head leaves, unless it was replaced or pushed out. -/
theorem LinkCtl.finishSending_of_some {c : LinkCtl} {f : Transit} (sends : c.transit = some f) :
    c.finishSending =
      { c with transit := none, outbound := if f.removesHead then c.outbound.tail else c.outbound } := by
  rw [LinkCtl.finishSending, sends]

theorem LinkCtl.finishSending_of_none {c : LinkCtl} (idle : c.transit = none) : c.finishSending = c := by
  rw [LinkCtl.finishSending, idle]

/-! ## The five reports -/

section
variable {s : State} {p : CanPort} (running : s.phase = .running)
include running

theorem exec_canFrameAcknowledged :
    exec (.canFrameAcknowledged p) s = .next (s.onCtl p.link LinkCtl.finishSending).settle :=
  whileRunning_running running fun u => u.onCtl p.link LinkCtl.finishSending

/-- R174: a frame that lost arbitration, and one with a bus error, are sent again. -/
theorem exec_canSendAgain {c : Instr} (report : c = .canArbitrationLoss p ∨ c = .canBusError p) :
    exec c s = .next (s.onCtl p.link LinkCtl.sendAgain).settle := by
  rcases report with rfl | rfl <;> exact whileRunning_running running fun u => u.onCtl p.link LinkCtl.sendAgain

/-- R175: bus-off is entered once. -/
theorem exec_canBusOff :
    exec (.canBusOff p) s = .next (s.onCtl p.link fun c => if c.busOff then c else c.enterBusOff).settle :=
  whileRunning_running running fun u => u.onCtl p.link fun c => if c.busOff then c else c.enterBusOff

theorem exec_canBusOffRecovery :
    exec (.canBusOffRecovery p) s = .next (s.onCtl p.link fun c => { c with busOff := false }).settle :=
  whileRunning_running running fun u => u.onCtl p.link fun c => { c with busOff := false }

end

/-! ## The frame on the bus (R174, 12.3; log 39) -/

/-- The least payload length of CAN FD that holds n bytes. -/
def payloadLength (n : Nat) : Nat := (canPayloadLengths.find? fun k => n ≤ k).getD n

theorem OutMsg.canPayload_eq (m : OutMsg) :
    m.canPayload = m.bytes ++ List.replicate (payloadLength m.bytes.length - m.bytes.length) 0 := rfl

theorem payloadLength_least : ∀ n ≤ 64, payloadLength n ∈ canPayloadLengths ∧ n ≤ payloadLength n ∧
    ∀ k ∈ canPayloadLengths, n ≤ k → payloadLength n ≤ k := by decide

theorem byteAt_append_zeros (bs : List Byte) (k : Nat) {i : Nat} (h : bs.length ≤ i) :
    byteAt (bs ++ List.replicate k 0) i = 0 := by
  rw [byteAt, List.getD_append_right _ _ _ _ h, List.getD_eq_getElem?_getD, List.getElem?_replicate]
  split <;> rfl

/-- R174: a frame carries its message and zeros, in the least payload that holds it. -/
theorem OutMsg.canPayload_carries {m : OutMsg} (h : m.bytes.length ≤ 64) :
    m.canPayload.length ∈ canPayloadLengths ∧ (∀ n ∈ canPayloadLengths, m.bytes.length ≤ n → m.canPayload.length ≤ n) ∧
    m.bytes.length ≤ m.canPayload.length ∧ m.canPayload.take m.bytes.length = m.bytes ∧
    ∀ i, m.bytes.length ≤ i → byteAt m.canPayload i = 0 := by
  obtain ⟨isLength, holds, least⟩ := payloadLength_least _ h
  have length : m.canPayload.length = payloadLength m.bytes.length := by
    rw [OutMsg.canPayload_eq, List.length_append, List.length_replicate]
    omega
  rw [length]
  exact ⟨isLength, least, holds, by rw [OutMsg.canPayload_eq]; exact List.take_left,
    fun i le => byteAt_append_zeros _ _ le⟩

/-- Settles O48: each report is one change of the port's controller, after which a port out of bus-off has nothing on the bus and puts its
head up. -/
theorem canPortSendsTheHead : Obligations.CanPortSendsTheHead := by
  refine ⟨fun s p running => ⟨?_, fun c report => ?_, fun joined => ?_, fun off idle => ?_⟩, fun s p => ⟨?_, ?_⟩,
    fun m => ⟨rfl, OutMsg.canPayload_carries⟩⟩
  · have kept := fun c : LinkCtl => And.intro c.finishSending_keeps.1 c.finishSending_keeps.2.1
    obtain ⟨-, -, flags, busOff⟩ := (s.ctl p.link).finishSending_keeps
    refine ⟨_, exec_canFrameAcknowledged running, s.port_keeps p _ kept, ?_, fun f sends => ⟨?_, fun joined => ?_⟩,
      fun idle => ?_⟩
    · rw [State.port_ctl, (LinkCtl.putUp_keeps _ _ _).2.2.1, flags]
    · rw [State.port_ctl, (LinkCtl.putUp_keeps _ _ _).2.1, LinkCtl.finishSending_of_some sends]
    · exact s.port_puts p _ (by rw [LinkCtl.finishSending_of_some sends]) (busOff.trans joined)
    · rw [State.port_ctl, (LinkCtl.putUp_keeps _ _ _).2.1, LinkCtl.finishSending_of_none idle]
  · refine ⟨_, exec_canSendAgain running report, s.port_keeps p _ fun _ => ⟨rfl, rfl⟩, ?_, ?_, fun joined => ?_⟩
    · rw [State.port_ctl, (LinkCtl.putUp_keeps _ _ _).2.2.1]; rfl
    · rw [State.port_ctl, (LinkCtl.putUp_keeps _ _ _).2.1]; rfl
    · exact s.port_puts p _ rfl joined
  · have kept : ∀ c : LinkCtl, (if c.busOff then c else c.enterBusOff).inbound = c.inbound ∧
        (if c.busOff then c else c.enterBusOff).ownerTimer = c.ownerTimer := fun c => by
      split <;> exact ⟨rfl, rfl⟩
    have entered : (s.onCtl p.link fun c => if c.busOff then c else c.enterBusOff).settle.ctl p.link =
        (s.ctl p.link).enterBusOff := by
      rw [State.port_ctl, joined]
      exact LinkCtl.putUp_busOff _ _ rfl
    refine ⟨_, exec_canBusOff running, s.port_keeps p _ kept, ?_⟩
    rw [entered]
    exact ⟨rfl, rfl, rfl, rfl⟩
  · refine ⟨_, exec_canBusOffRecovery running, s.port_keeps p _ fun _ => ⟨rfl, rfl⟩, ?_, ?_, ?_, ?_⟩
    · rw [State.port_ctl, (LinkCtl.putUp_keeps _ _ _).2.2.2.2]
    · exact s.port_puts p _ idle rfl
    · rw [State.port_ctl, (LinkCtl.putUp_keeps _ _ _).2.1]
    · rw [State.port_ctl, (LinkCtl.putUp_keeps _ _ _).2.2.1]
  · intro idle
    rw [State.busFrame, idle]
    rfl
  · intro f m sends carries
    rw [State.busFrame, sends, Option.bind_some, carries]
    rfl

end Sys2Proof.Machine
end

section
/-! The exchanges of the SPI port, and what the KS-4's half carries (R176, R177, R187, R201): O49. -/

namespace Sys2Proof.Machine

/-! ## The master's half (12.3) -/

section
variable {half : List Byte}

theorem masterHalf_empty (marker : byteAt half 0 = 0) : masterHalf half = .empty := by
  simp [masterHalf, marker]

/-- R176: marker 1, and a request in bytes 1 to 32. -/
theorem masterHalf_request (marker : byteAt half 0 = 1) (whole : 36 ≤ half.length) :
    masterHalf half = .request
      { kind := byteAt half 1, tag := byteAt half 2, len := u8At half 3, carried := (half.drop 4).take 29 } := by
  match half with
  | [] | [_] | [_, _] | [_, _, _] => simp at whole
  | mark :: kind :: tag :: len :: rest =>
    obtain rfl : mark = 1 := marker
    rfl

theorem masterHalf_unreadable (marker : 1 < u8At half 0) : masterHalf half = .unreadable := by
  have high : 1 < (byteAt half 0).toNat := marker
  unfold masterHalf
  split
  · omega
  · omega
  · rfl

end

/-! ## The controller through an exchange -/

section
variable {c : LinkCtl}

theorem LinkCtl.startExchange_idle (idle : c.transit = none) :
    c.startExchange = { c with
      transit := some
        { msg := c.outbound.head?, ident := 0, removesHead := c.outbound.head?.isSome, disregard := false } } :=
  if_neg (by simp [idle])

theorem LinkCtl.startIdleExchange_idle (idle : c.transit = none) :
    c.startIdleExchange =
      { c with transit := some { msg := none, ident := 0, removesHead := false, disregard := true } } :=
  if_neg (by simp [idle])

theorem LinkCtl.startExchange_begun {f : Transit} (begun : c.transit = some f) : c.startExchange = c :=
  if_pos (by simp [begun])

theorem LinkCtl.disregards_begun {f : Transit} (begun : c.transit = some f) : c.disregards = f.disregard := by
  simp [LinkCtl.disregards, begun]

theorem LinkCtl.arrive_transit (timeout : Nat) (r : Request) : (c.arrive timeout r).transit = c.transit := by
  unfold LinkCtl.arrive
  split <;> rfl

end

/-! ## The exchange completes (R176, R178) -/

section
variable {s : State} {half : List Byte} {f : Transit} (begun : (s.ctl .detector).transit = some f)
  (heeded : f.disregard = false)
include begun heeded

/-- R176: the detector's controller when its head has gone out. -/
theorem State.completeExchange_sent (read : masterHalf half = .empty) :
    (s.completeExchange half).ctl .detector = (s.ctl .detector).finishSending := by
  simp [State.completeExchange, LinkCtl.startExchange_begun begun, LinkCtl.disregards_begun begun, heeded, read]

theorem State.completeExchange_arrives {r : Request} (read : masterHalf half = .request r) :
    (s.completeExchange half).ctl .detector =
      (s.ctl .detector).finishSending.arrive (1000 * s.body.ownerTimeout .detector) r := by
  simp [State.completeExchange, LinkCtl.startExchange_begun begun, LinkCtl.disregards_begun begun, heeded, read,
    State.onCtl_ctl_self, State.ownerTimeout]

theorem State.completeExchange_unreadable (read : masterHalf half = .unreadable) :
    (s.completeExchange half).ctl .detector =
      { (s.ctl .detector).finishSending with flags := { (s.ctl .detector).flags with framing := true } } := by
  simp [State.completeExchange, LinkCtl.startExchange_begun begun, LinkCtl.disregards_begun begun, heeded, read,
    State.setFraming, LinkCtl.finishSending_keeps]

/-- R176: whatever the master sent, the exchange is over and the head it carried has left. -/
theorem State.completeExchange_ends :
    ((s.completeExchange half).ctl .detector).transit = none ∧
    ((s.completeExchange half).ctl .detector).outbound =
      if f.removesHead then (s.ctl .detector).outbound.tail else (s.ctl .detector).outbound := by
  have sent := LinkCtl.finishSending_of_some begun
  cases read : masterHalf half with
  | empty =>
    rw [State.completeExchange_sent begun heeded read, sent]
    exact ⟨rfl, rfl⟩
  | request r =>
    rw [State.completeExchange_arrives begun heeded read, LinkCtl.arrive_transit, LinkCtl.arrive_outbound, sent]
    exact ⟨rfl, rfl⟩
  | unreadable =>
    rw [State.completeExchange_unreadable begun heeded read, sent]
    exact ⟨rfl, rfl⟩

end

/-! ## The other links -/

/-- From s to t the detector's controller alone has changed. -/
structure State.OnlyDetector (s t : State) : Prop where
  rest : t.besideLinks = s.besideLinks
  others : ∀ m, m ≠ .detector → t.ctl m = s.ctl m

theorem State.onlyDetector_onCtl (s : State) (f : LinkCtl → LinkCtl) : s.OnlyDetector (s.onCtl .detector f) :=
  ⟨rfl, fun _ e => s.onCtl_ctl_of_ne f e⟩

theorem State.OnlyDetector.trans {s t u : State} (h : s.OnlyDetector t) (g : t.OnlyDetector u) : s.OnlyDetector u :=
  ⟨g.rest.trans h.rest, fun m e => (g.others m e).trans (h.others m e)⟩

theorem State.onlyDetector_completeExchange (s : State) (half : List Byte) : s.OnlyDetector (s.completeExchange half) := by
  have sent : s.OnlyDetector (s.setCtl .detector (s.ctl .detector).startExchange.finishSending) :=
    s.onlyDetector_onCtl fun c => c.startExchange.finishSending
  unfold State.completeExchange
  dsimp only
  split
  · exact sent
  · split
    · exact sent
    · exact sent.trans (State.onlyDetector_onCtl _ _)
    · exact sent.trans (State.onlyDetector_onCtl _ fun c => { c with flags := { c.flags with framing := true } })

/-- R177: an exchange that is cut short: the head stays, and FRAMING is set. -/
theorem State.cutExchange_eq (s : State) :
    s.cutExchange.ctl .detector =
      { s.ctl .detector with transit := none, flags := { (s.ctl .detector).flags with framing := true } } ∧
    s.OnlyDetector s.cutExchange := by
  refine ⟨?_, State.OnlyDetector.trans (t := s.setFraming .detector)
    (s.onlyDetector_onCtl fun c => { c with flags := { c.flags with framing := true } })
    ((s.setFraming .detector).onlyDetector_onCtl fun c => { c with transit := none })⟩
  rw [State.cutExchange, State.onCtl_ctl_self, State.setFraming, State.ctl_setCtl_self]

/-- The end of the step leaves the other links' queues and flags. -/
theorem State.OnlyDetector.settled {s t : State} (h : s.OnlyDetector t) : t.settle.besideLinks = s.besideLinks ∧
    ∀ m, m ≠ .detector → (t.settle.ctl m).inbound = (s.ctl m).inbound ∧ (t.settle.ctl m).outbound = (s.ctl m).outbound ∧
      (t.settle.ctl m).flags = (s.ctl m).flags := by
  refine ⟨h.rest, fun m e => ?_⟩
  obtain ⟨inbound, outbound, flags, -, -⟩ := t.settle_ctl m
  rw [inbound, outbound, flags, h.others m e]
  exact ⟨rfl, rfl, rfl⟩

/-! ## The commands by phase -/

section
variable {s : State}

theorem exec_spiExchangeStart_loading (loading : s.phase = .loading) :
    exec .spiExchangeStart s = .next (s.onCtl .detector LinkCtl.startIdleExchange) := by
  show execSpiExchangeStart s = _
  rw [execSpiExchangeStart, loading]

/-- R187: the end of an exchange during the settings load, whole or cut short. -/
theorem exec_spiExchangeEnd_loading (loading : s.phase = .loading) {i : Instr}
    (ends : i = .spiExchangeCutShort ∨ ∃ half, i = .spiExchange half) :
    exec i s = .next (s.onCtl .detector fun c => { c with transit := none }) := by
  rcases ends with rfl | ⟨half, rfl⟩
  · show execSpiExchangeCutShort s = _
    rw [execSpiExchangeCutShort, loading]
  · show execSpiExchange half s = _
    rw [execSpiExchange, loading]

theorem exec_spiExchangeStart_running (running : s.phase = .running) :
    exec .spiExchangeStart s = .next (s.onCtl .detector LinkCtl.startExchange).settle := by
  show execSpiExchangeStart s = _
  rw [execSpiExchangeStart, running]
  exact whileRunning_running running _

theorem exec_spiExchange_whole (running : s.phase = .running) {half : List Byte} (whole : 36 ≤ half.length) :
    exec (.spiExchange half) s = .next (s.completeExchange half).settle := by
  show execSpiExchange half s = _
  rw [execSpiExchange, running]
  refine (whileRunning_running running _).trans ?_
  rw [if_neg (not_lt.mpr whole)]

/-- R177, log 14: an exchange that ends before its 36th byte. -/
theorem exec_spiExchange_cut (running : s.phase = .running) {i : Instr}
    (cut : i = .spiExchangeCutShort ∨ ∃ half : List Byte, i = .spiExchange half ∧ half.length < 36) :
    exec i s = .next s.cutExchange.settle := by
  rcases cut with rfl | ⟨half, rfl, short⟩
  · show execSpiExchangeCutShort s = _
    rw [execSpiExchangeCutShort, running]
    exact whileRunning_running running _
  · show execSpiExchange half s = _
    rw [execSpiExchange, running]
    refine (whileRunning_running running _).trans ?_
    rw [if_pos short]

end

/-! ## The KS-4's half (12.3) -/

theorem slaveHalf_none : slaveHalf none = List.replicate 36 0 := rfl

theorem slaveHalf_some (q : OutMsg) :
    slaveHalf (some q) = (1 :: q.bytes) ++ List.replicate (36 - (q.bytes.length + 1)) 0 := rfl

theorem slaveHalf_length (m : Option OutMsg) (fits : ∀ q, m = some q → q.bytes.length ≤ 32) :
    (slaveHalf m).length = 36 := by
  cases m with
  | none => rfl
  | some q =>
    have short := fits q rfl
    rw [slaveHalf_some]
    simp only [List.length_append, List.length_cons, List.length_replicate]
    omega

/-- R177: the bytes of the half, and empty markers after them. -/
theorem byteAt_slaveBytes {m : Option OutMsg} (length : (slaveHalf m).length = 36) {i n : Nat} (h : i < n) :
    byteAt (slaveBytes m n) i = if i < 36 then byteAt (slaveHalf m) i else 0 := by
  rw [slaveBytes]
  split
  · rename_i early
    have inside : i < ((slaveHalf m).take n).length := by rw [List.length_take]; omega
    rw [byteAt, List.getD_append _ _ _ _ inside, byteAt, List.getD_eq_getElem?_getD, List.getD_eq_getElem?_getD,
      List.getElem?_take_of_lt h]
  · rename_i late
    exact byteAt_append_zeros _ _ (by rw [List.length_take]; omega)

/-- Settles O49: an exchange concerns the detector's controller alone; whole, it ends its sending and takes the master's half, and cut
short it takes nothing. -/
theorem spiExchangesMoveMessages : Obligations.SpiExchangesMoveMessages := by
  refine ⟨⟨fun s loading => ⟨fun idle => ?_, fun i ends => ?_⟩, fun s running => ⟨fun idle => ?_,
    fun half f begun heeded whole => ?_, fun i cut => ?_⟩⟩, fun m n => ⟨?_, rfl, ?_, fun fits => ⟨?_, fun i h => ?_⟩⟩⟩
  · refine ⟨_, exec_spiExchangeStart_loading loading, rfl, ?_⟩
    rw [State.onCtl_ctl_self, LinkCtl.startIdleExchange_idle idle]
  · exact ⟨_, exec_spiExchangeEnd_loading loading ends, rfl, s.onCtl_ctl_self _ _⟩
  · refine ⟨_, exec_spiExchangeStart_running running, (s.onlyDetector_onCtl _).settled, ?_⟩
    rw [State.settle_detector, State.onCtl_ctl_self, LinkCtl.startExchange_idle idle]
  · obtain ⟨ended, outbound⟩ := State.completeExchange_ends (half := half) begun heeded
    have keeps := (s.ctl .detector).finishSending_keeps
    refine ⟨_, exec_spiExchange_whole running whole, (s.onlyDetector_completeExchange half).settled, ?_⟩
    rw [State.settle_detector]
    refine ⟨ended, outbound, fun marker => ?_, fun marker room => ?_, fun marker full => ?_, fun marker => ?_⟩
    · rw [State.completeExchange_sent begun heeded (masterHalf_empty marker)]
      exact ⟨keeps.1, keeps.2.2.1⟩
    · rw [State.completeExchange_arrives begun heeded (masterHalf_request marker whole),
        LinkCtl.arrive_joins _ _ (keeps.1.symm ▸ room), keeps.1, keeps.2.2.1]
      exact ⟨rfl, rfl, rfl⟩
    · rw [State.completeExchange_arrives begun heeded (masterHalf_request marker whole),
        LinkCtl.arrive_overruns _ _ (keeps.1.symm ▸ full), keeps.1, keeps.2.2.1]
      exact ⟨rfl, rfl⟩
    · rw [State.completeExchange_unreadable begun heeded (masterHalf_unreadable marker), keeps.1]
      exact ⟨rfl, rfl⟩
  · obtain ⟨cutShort, others⟩ := s.cutExchange_eq
    refine ⟨_, exec_spiExchange_cut running cut, others.settled, ?_⟩
    rw [State.settle_detector, cutShort]
  · cases m with
    | none => rfl
    | some q =>
      rw [slaveHalf_some]
      simp only [List.length_append, List.length_cons, List.length_replicate]
      omega
  · rintro q rfl
    refine ⟨rfl, List.take_left, fun i h => ?_⟩
    rw [slaveHalf_some]
    exact byteAt_append_zeros _ _ h
  · rw [slaveBytes, List.length_append, List.length_take, List.length_replicate, slaveHalf_length m fits]
    omega
  · exact byteAt_slaveBytes (slaveHalf_length m fits) h

end Sys2Proof.Machine
end

section
/-! STATUS_QUERY and what its parts carry, requests too short, and unknown kinds (R179, R183, R184, Table 10-6): O51. -/

namespace Sys2Proof.Machine

/-! ## The parts (R184; log 22) -/

section
variable (s : State)

/-- R201: a status record and its presence byte. -/
theorem statusBytes_some (a : StatusRecord) :
    statusBytes (some a) = [1, byte a.kind, yesNo a.checksSent] ++ be16 a.temperature ++
      [yesNo a.misted, yesNo a.heaterRunning, yesNo a.sensorFault, byte a.gain, byte a.duty] := rfl

theorem statusBytes_none : statusBytes none = List.replicate 10 0 := rfl

/-- The zones of a half, in ascending order. -/
theorem zonesOfHalf_eq : ∀ half : Fin 2,
    (List.finRange 8).filter (fun z => z.val / 4 == half.val) =
      (List.finRange 4).map fun j : Fin 4 => (⟨4 * half.val + j.val, by omega⟩ : Zone) := by decide

/-- R184, ZONES. -/
theorem State.zonesPart_eq (half : Fin 2) :
    s.zonesPart half.val =
      (List.finRange 4).flatMap fun j : Fin 4 => (s.zoneRec ⟨4 * half.val + j.val, by omega⟩).fields := by
  rw [State.zonesPart, zonesOfHalf_eq, List.flatMap_map]

/-- R151: bit 0 for a mask by links, bit 1 for a mask by speed. -/
theorem maskByte_eq (links speed : Bool) :
    ((if links then 1 else 0) ||| (if speed then 2 else 0) : Byte) =
      byte ((if links then 1 else 0) + if speed then 2 else 0) := by
  cases links <;> cases speed <;> rfl

theorem State.causeBytes_eq (i : Cause) :
    s.causeBytes i =
      [if (s.body.cause i).latched then byte (s.causeRec i).stage.code
        else yesNo ((s.body.cause i).enabled && (s.body.cause i).source.holds s.vehicle.conds),
        byte ((if (s.causeRec i).masks ≠ 0 then 1 else 0) +
          if (s.body.cause i).maxSpeed ≠ 0 ∧ (s.body.cause i).maxSpeed < s.vehicle.speed then 2 else 0)] := by
  rw [State.causeBytes, maskByte_eq]
  simp [State.linkMasked, State.speedMasked]

/-! ## Which part a query names -/

section
variable {f : List Byte}

theorem State.queryPart_summary (part : u8At f 0 = 0) : s.queryPart f = some s.summaryFields := by
  simp [State.queryPart, part]

theorem State.queryPart_camera (c : Camera) (part : u8At f 0 = 1) (long : 2 ≤ f.length) (number : u8At f 1 = c.val) :
    s.queryPart f = some (s.cameraPart c) := by
  simp [State.queryPart, part, long, number]

theorem State.queryPart_zones (half : Fin 2) (part : u8At f 0 = 2) (long : 2 ≤ f.length) (number : u8At f 1 = half.val) :
    s.queryPart f = some (s.zonesPart half.val) := by
  have half_lt : half.val < 2 := half.isLt
  simp [State.queryPart, part, long, number, Nat.lt_succ_iff.mp half_lt]

theorem State.queryPart_causes (part : u8At f 0 = 3) : s.queryPart f = some s.causesPart := by
  simp [State.queryPart, part]

/-- R184: an unknown part, and a camera or half that is missing or beyond its list. -/
theorem State.queryPart_none (h : 3 < u8At f 0 ∨ (u8At f 0 = 1 ∧ (f.length < 2 ∨ 3 < u8At f 1)) ∨
    (u8At f 0 = 2 ∧ (f.length < 2 ∨ 1 < u8At f 1))) : s.queryPart f = none := by
  rcases h with high | ⟨part, lacks⟩ | ⟨part, lacks⟩
  · unfold State.queryPart
    split
    · omega
    · omega
    · omega
    · omega
    · rfl
  · have not : ¬ (2 ≤ f.length ∧ u8At f 1 < 4) := by omega
    simp [State.queryPart, part, not]
  · simp [State.queryPart, part]
    omega

end

end

/-! ## The reply that carries the flags (R183) -/

/-- R181: room made in a full queue that can take a reply costs a notice, and sets NOTICES_LOST. -/
theorem LinkCtl.makeRoom_flags {c : LinkCtl} (room : c.canReply = true) :
    c.makeRoom.flags = { c.flags with noticesLost := c.flags.noticesLost || decide (12 ≤ c.outbound.length) } := by
  unfold LinkCtl.makeRoom
  by_cases space : c.outbound.length < Config.outboundLimit
  · have low : ¬ 12 ≤ c.outbound.length := not_le.mpr space
    rw [if_pos space]
    simp [low]
  · have high : 12 ≤ c.outbound.length := not_lt.mp space
    rw [if_neg space]
    cases found : c.outbound.findIdx? fun m => m.notice.isSome with
    | some i => simp [high]
    | none =>
      have held : c.outbound.any (fun m => m.notice.isSome) = true := by
        simpa [LinkCtl.canReply, space] using room
      obtain ⟨m, waits, notice⟩ := List.any_eq_true.mp held
      exact absurd notice (by simp [List.findIdx?_eq_none_iff.mp found m waits])

section
variable {s : State} {l : Link} {r : Request}

/-- R183, R184: a query that names a part: the controllers after its reply. -/
theorem State.Ready.queried (h : s.Ready l .statusQuery r) {part : List Byte} (named : s.queryPart r.fields = some part) :
    ∃ t, exec (.statusQuery l) s = .next t ∧ s.Replied t l r ⟨.done, (s.ctl l).flags.byte :: part⟩ ∧
      (t.ctl l).flags =
        { inboundOverrun := false, noticesLost := decide (12 ≤ (s.ctl l).outbound.length), objectsPurged := false
          framing := false } ∧
      (∀ m, m ≠ l → (t.ctl m).flags = (s.ctl m).flags ∧ (t.ctl m).outbound = (s.ctl m).outbound) ∧
      t.besideLinks = s.besideLinks := by
  have own : (s.taken l).ctl l = { s.ctl l with inbound := (s.ctl l).inbound.tail } := s.ctl_setCtl_self l _
  have acts : actStatusQuery l r (s.taken l) = ((s.taken l).clearFlags l, ⟨.done, (s.ctl l).flags.byte :: part⟩) := by
    have same : (s.taken l).queryPart r.fields = some part := named
    rw [actStatusQuery, same, own]
  have next : exec (.statusQuery l) s =
      .next (((s.taken l).clearFlags l).reply l r ⟨.done, (s.ctl l).flags.byte :: part⟩).settle := by
    refine (whileRunning_running h.running (answering .statusQuery l (actStatusQuery l))).trans ?_
    rw [h.answering_eq, acts]
  have cleared : ((s.taken l).clearFlags l).ctl l =
      { s.ctl l with inbound := (s.ctl l).inbound.tail, flags := EventFlags.clear } := by
    rw [State.clearFlags, State.ctl_setCtl_self, own]
  have room : (((s.taken l).clearFlags l).ctl l).canReply = true := by
    rw [cleared]
    exact h.room
  refine ⟨_, next, State.replied_of_raised (State.clearFlags_raised _ l), ?_, fun m e => ?_, ?_⟩
  · rw [(State.settle_ctl _ l).2.2.1, State.reply_ctl_self]
    refine (LinkCtl.makeRoom_flags room).trans ?_
    rw [cleared]
    simp [EventFlags.clear]
  · obtain ⟨-, outbound, flags, -, -⟩ :=
      (((s.taken l).clearFlags l).reply l r ⟨.done, (s.ctl l).flags.byte :: part⟩).settle_ctl m
    rw [flags, outbound, State.reply_ctl_of_ne _ _ _ e, State.clearFlags, State.ctl_setCtl_of_ne _ _ _ _ e, State.taken,
      State.ctl_setCtl_of_ne _ _ _ _ e]
    exact ⟨rfl, rfl⟩
  · rw [State.besideLinks_settle, State.besideLinks_reply]
    rfl

/-- R184: a query that names no part is MALFORMED, and clears no flag. -/
theorem State.Ready.unnamed (h : s.Ready l .statusQuery r) (names : s.queryPart r.fields = none) :
    ∃ t, exec (.statusQuery l) s = .next t ∧ s.OnlyReplied t l r (.refuse .malformed) ∧ t.besideLinks = s.besideLinks :=
  h.refused (act := actStatusQuery l) (by
    have same : (s.taken l).queryPart r.fields = none := names
    rw [actStatusQuery, same])

/-! ## Requests too short, and unknown kinds (R179) -/

theorem Request.tooShort_iff : r.tooShort = true ↔ 29 < r.len ∨ r.carried.length < r.len ∨ r.len < r.row.leastLength := by
  simp [Request.tooShort, or_assoc]

/-- R179, R195: a RESET that is too short is answered as any other request. -/
theorem State.answerReset_short (head : (s.ctl l).inbound.head? = some r) (short : r.tooShort = true) :
    s.answerReset l = answering .reset l (fun _ u => (u, .done)) s := by
  unfold State.answerReset answering
  cases taken : s.takeHead .reset l with
  | none => rfl
  | some pair =>
    obtain ⟨q, u⟩ := pair
    obtain ⟨rest, queue, -⟩ := State.takeHead_eq taken
    obtain rfl : q = r := by
      rw [queue] at head
      exact Option.some.inj head
    simp [short]

/-- R179: every request of a known kind is taken, judged too short and answered in one way. -/
theorem exec_short (running : s.phase = .running) (head : (s.ctl l).inbound.head? = some r) (known : r.row ≠ .unknownKind)
    (short : r.tooShort = true) :
    ∃ act, exec (r.row.command l) s = whileRunning s (answering r.row l act) := by
  cases row : r.row with
  | unknownKind => exact absurd row known
  | reset =>
    refine ⟨fun _ u => (u, .done), ?_⟩
    show whileRunning s (State.answerReset l) = _
    rw [whileRunning_running running, whileRunning_running running, State.answerReset_short head short]
  | _ => exact ⟨_, rfl⟩

/-- R179: a request of an unknown kind is taken and answered, whatever its length. -/
theorem exec_unknownKind (running : s.phase = .running) (head : (s.ctl l).inbound.head? = some r)
    (kind : r.row = .unknownKind) (room : (s.ctl l).canReply = true) :
    exec (.unknownKind l) s = .next ((s.taken l).reply l r (.refuse .unknownKind)).settle := by
  obtain ⟨rest, queue⟩ := List.head?_eq_some_iff.mp head
  refine (whileRunning_running running (State.answerUnknown l)).trans ?_
  rw [State.answerUnknown, State.takeHead_ready queue room kind, State.taken, queue]
  rfl

end

/-- R24, R57, R76: the fields of a CAMERA part. -/
theorem State.cameraPart_eq (s : State) (c : Camera) :
    s.cameraPart c =
      [byte c.val, byte (s.recv c).lock.code, byte (s.recv c).mode.code, yesNo (s.recv c).degraded,
          yesNo (s.recv c).notFollowing] ++ statusBytes (s.recv c).accepted ++
        [byte (s.pict c).freshness.code, byte (s.pict c).shownAge, byte (s.reg c).gain,
          byte (if s.supply.state = .crank then 0 else (s.reg c).duty),
          yesNo (decide (s.supply.state = .normal) && (s.reg c).heater), yesNo (s.reg c).stopTimer.isSome] ++
        ((s.reg c).reading.elim [0, 0, 0] fun m => [1, byte m.mean, yesNo m.glare]) ++
        [if (s.body.calibration c).calibrated then 0 else 1] := by
  rw [State.cameraPart, State.regulatorFields, Regulator.handedDuty_eq, Regulator.handedHeater_eq]
  cases (s.reg c).reading <;> simp [State.cameraFields, State.calibrationByte]

/-- Settles O51: a query is answered with the part it names or refused, and what a part holds is read off the blocks; requests too short
are answered before any block is asked. -/
theorem linkControllersAnswerForThemselves : Obligations.LinkControllersAnswerForThemselves := by
  refine ⟨⟨fun s l r part ready named => ready.queried named, fun s l r running head room known short => ?_,
    fun s l r ready names => ready.unnamed names, fun s l r running head kind room => ?_⟩, fun s l r ready => ?_⟩
  · have tooShort := Request.tooShort_iff.mpr short
    obtain ⟨act, next⟩ := exec_short running head known tooShort
    rw [next]
    exact answering_short running head room rfl tooShort
  · exact ⟨_, exec_unknownKind running head kind room, State.onlyReplied_of_links rfl, rfl, rfl⟩
  · have answers : ∀ part, s.queryPart r.fields = some part →
        ∃ t, exec (.statusQuery l) s = .next t ∧ s.Replied t l r ⟨.done, (s.ctl l).flags.byte :: part⟩ ∧
          t.besideLinks = s.besideLinks := fun part named => by
      obtain ⟨t, next, replied, -, -, rest⟩ := ready.queried named
      exact ⟨t, next, replied, rest⟩
    refine ⟨fun part => answers _ (s.queryPart_summary part), fun c part long number => answers _ ?_,
      fun half part long number => answers _ ?_, fun part => answers _ ?_,
      fun lacks => ready.unnamed (s.queryPart_none lacks)⟩
    · rw [s.queryPart_camera c part long number, State.cameraPart_eq]
      cases (s.recv c).accepted <;> cases (s.reg c).reading <;> simp [statusBytes_some, statusBytes_none]
    · rw [s.queryPart_zones half part long number, State.zonesPart_eq]
      rfl
    · rw [s.queryPart_causes part, State.causesPart, funext s.causeBytes_eq]

end Sys2Proof.Machine
end

section
/-! SUPPORT. Notices and replies in a link's queue (R181, R182): what becomes of a queued notice. -/

namespace Sys2Proof.Machine

/-! ## The first message with a property (R181, R182) -/

section
variable {p : OutMsg → Bool} {q : List OutMsg}

theorem findIdx?_of_first {i : Nat} (here : (q[i]?).any p = true) (before : ∀ j < i, (q[j]?).any p = false) :
    q.findIdx? p = some i := by
  rcases Nat.lt_or_ge i q.length with lt | past
  · refine List.findIdx?_eq_some_iff_getElem.mpr ⟨lt, by simpa [List.getElem?_eq_getElem lt] using here, fun j below => ?_⟩
    have before := before j below
    rw [List.getElem?_eq_getElem (below.trans lt)] at before
    simpa using before
  · simp [List.getElem?_eq_none past] at here

theorem findIdx?_of_none (h : ∀ i : Nat, (q[i]?).any p = false) : q.findIdx? p = none := by
  refine List.findIdx?_eq_none_iff.mpr fun m waits => ?_
  obtain ⟨i, lt, rfl⟩ := List.mem_iff_getElem.mp waits
  simpa [List.getElem?_eq_getElem lt] using h i

end

section
variable {c : LinkCtl} {m : OutMsg}

/-- R174, R176: a sending whose head was replaced or pushed out removes nothing. -/
theorem LinkCtl.detach_transit {t : Transit} (h : c.detach.transit = some t) : t.removesHead = false := by
  obtain ⟨_, -, rfl⟩ := Option.map_eq_some_iff.mp h
  rfl

/-! ## A notice enters (R182) -/

theorem LinkCtl.pushNotice_found {i : Nat} (found : c.outbound.findIdx? (fun q => q.notice == m.notice) = some i) :
    c.pushNotice m = { (if i = 0 then c.detach else c) with outbound := c.outbound.set i m } := by
  rw [LinkCtl.pushNotice, found]

theorem LinkCtl.pushNotice_joins (none : c.outbound.findIdx? (fun q => q.notice == m.notice) = none)
    (space : c.outbound.length < 12) : c.pushNotice m = { c with outbound := c.outbound ++ [m] } := by
  rw [LinkCtl.pushNotice, none]
  exact if_pos space

theorem LinkCtl.pushNotice_lost (none : c.outbound.findIdx? (fun q => q.notice == m.notice) = none)
    (full : 12 ≤ c.outbound.length) : c.pushNotice m = { c with flags := { c.flags with noticesLost := true } } := by
  rw [LinkCtl.pushNotice, none]
  exact if_neg full.not_gt

/-! ## A reply enters (R181) -/

theorem LinkCtl.makeRoom_of_space (space : c.outbound.length < 12) : c.makeRoom = c := if_pos space

theorem LinkCtl.makeRoom_found {i : Nat} (full : 12 ≤ c.outbound.length)
    (found : c.outbound.findIdx? (fun q => q.notice.isSome) = some i) :
    c.makeRoom = { (if i = 0 then c.detach else c) with
      outbound := c.outbound.eraseIdx i, flags := { c.flags with noticesLost := true } } := by
  rw [LinkCtl.makeRoom, if_neg full.not_gt, found]

/-! ## A notice that is queued or lost -/

/-- The notice of a kind and subject with the given fields is queued, or NOTICES_LOST is set. -/
def LinkCtl.Says (c : LinkCtl) (k : NoticeKind) (n : Nat) (fields : List Byte) : Prop :=
  noticeMsg k n fields ∈ c.outbound ∨ c.flags.noticesLost = true

variable {k k' : NoticeKind} {n n' : Nat} {f f' : List Byte}

theorem LinkCtl.Says.congr {d : LinkCtl} (h : c.Says k n f) (outbound : d.outbound = c.outbound) (flags : d.flags = c.flags) :
    d.Says k n f := by
  rw [LinkCtl.Says, outbound, flags]
  exact h

/-- R182: a notice is queued when it is raised, or NOTICES_LOST is set. -/
theorem LinkCtl.pushNotice_says (c : LinkCtl) (k : NoticeKind) (n : Nat) (f : List Byte) :
    (c.pushNotice (noticeMsg k n f)).Says k n f := by
  cases found : c.outbound.findIdx? fun q => q.notice == (noticeMsg k n f).notice with
  | some i =>
    obtain ⟨lt, -, -⟩ := List.findIdx?_eq_some_iff_getElem.mp found
    rw [LinkCtl.pushNotice_found found]
    exact .inl (List.mem_set lt _)
  | none =>
    rcases Nat.lt_or_ge c.outbound.length 12 with space | full
    · rw [LinkCtl.pushNotice_joins found space]
      exact .inl (by simp)
    · rw [LinkCtl.pushNotice_lost found full]
      exact .inr rfl

/-- R182: a notice of another kind or subject leaves a queued one. -/
theorem LinkCtl.Says.pushNotice (h : c.Says k n f) (other : (k', n') ≠ (k, n)) :
    (c.pushNotice (noticeMsg k' n' f')).Says k n f := by
  cases found : c.outbound.findIdx? fun q => q.notice == (noticeMsg k' n' f').notice with
  | some i =>
    obtain ⟨lt, same, -⟩ := List.findIdx?_eq_some_iff_getElem.mp found
    have key : c.outbound[i].notice = some (k', n') := beq_iff_eq.mp same
    rw [LinkCtl.pushNotice_found found]
    rcases h with queued | lost
    · refine .inl (List.mem_iff_getElem.mpr ?_)
      obtain ⟨j, within, at_j⟩ := List.mem_iff_getElem.mp queued
      have apart : i ≠ j := by
        rintro rfl
        rw [at_j] at key
        exact other (Option.some.inj key).symm
      exact ⟨j, by simpa using within, by rw [List.getElem_set_ne apart]; exact at_j⟩
    · refine .inr ?_
      dsimp only
      split <;> exact lost
  | none =>
    rcases Nat.lt_or_ge c.outbound.length 12 with space | full
    · rw [LinkCtl.pushNotice_joins found space]
      exact h.imp_left (List.mem_append_left _)
    · rw [LinkCtl.pushNotice_lost found full]
      exact .inr rfl

/-- R181: a reply leaves a queued notice, or pushes one out and sets NOTICES_LOST. -/
theorem LinkCtl.Says.pushReply (h : c.Says k n f) (m : OutMsg) : (c.pushReply m).Says k n f := by
  have room : c.makeRoom = c ∨ c.makeRoom.flags.noticesLost = true := by
    rcases Nat.lt_or_ge c.outbound.length 12 with space | full
    · exact .inl (LinkCtl.makeRoom_of_space space)
    · cases found : c.outbound.findIdx? fun q => q.notice.isSome with
      | some i =>
        rw [LinkCtl.makeRoom_found full found]
        exact .inr rfl
      | none =>
        rw [LinkCtl.makeRoom, if_neg full.not_gt, found]
        exact .inl rfl
  rcases room with same | lost
  · rw [LinkCtl.pushReply, same]
    exact h.imp_left (List.mem_append_left _)
  · exact .inr lost

end

/-- R182: a notice raised reaches every link whose notice set includes its kind. -/
theorem State.raise_pushes {s : State} (running : s.phase = .running) (k : NoticeKind) (n : Nat) (f : List Byte) (l : Link) :
    (s.raise k n f).ctl l =
      if s.body.wantsNotice l.ix.val k.index then (s.ctl l).pushNotice (noticeMsg k n f) else s.ctl l := by
  simp only [State.raise, State.ctl, if_pos running, Fin.getElem_fin, Vector.getElem_mapIdx]

/-- A notice of another kind or subject leaves a queued one. -/
theorem LinkCtl.Says.raise {s : State} {l : Link} {k k' : NoticeKind} {n n' : Nat} {f f' : List Byte}
    (h : (s.ctl l).Says k n f) (other : (k', n') ≠ (k, n)) : ((s.raise k' n' f').ctl l).Says k n f := by
  by_cases running : s.phase = .running
  · rw [State.raise_pushes running]
    split
    · exact h.pushNotice other
    · exact h
  · have same : (s.raise k' n' f').ctl l = s.ctl l := by rw [State.raise, State.ctl, State.ctl, if_neg running]
    rwa [same]

end Sys2Proof.Machine
end

section
/-! SUPPORT. What the machine gives notice of, and when a change of it has been told (R182). -/

namespace Sys2Proof.Machine

/-! ## Subjects -/

/-- What a notice tells of, an OBJECT notice apart. -/
inductive Subject where
  | camera (c : Camera) | zone (z : Zone) | view | supply | settings

/-- The five values of a SETTINGS notice (R189). -/
def SettingsBlock.told (b : SettingsBlock) : SettingsState × Bool × Bool × Bool × WriteResult :=
  (b.state, b.serviceIn, b.exitPending, b.commit.isSome, b.lastWrite)

theorem SettingsBlock.sameFace_iff {a b : SettingsBlock} : a.sameFace b = true ↔ a.told = b.told := by
  simp [SettingsBlock.sameFace, SettingsBlock.told, and_assoc]

theorem SettingsBlock.fields_of_told {a b : SettingsBlock} (h : a.told = b.told) : a.fields = b.fields := by
  obtain ⟨state, serviceIn, exitPending, commit, lastWrite⟩ : _ ∧ _ ∧ _ ∧ _ ∧ _ := by
    simpa only [SettingsBlock.told, Prod.mk.injEq] using h
  rw [SettingsBlock.fields, state, serviceIn, exitPending, commit, lastWrite]
  rfl

namespace Subject

def kind : Subject → NoticeKind
  | camera _ => .camera
  | zone _ => .zone
  | view => .view
  | supply => .supply
  | settings => .settings

def number : Subject → Nat
  | camera c => c.val
  | zone z => z.val
  | view | supply | settings => 0

/-- What a change of raises the notice. -/
def Face : Subject → Type
  | camera _ => LockState × CheckMode × Bool × Bool × Option StatusRecord × Freshness
  | zone _ => ZoneFace
  | view => Nat × Option Cause
  | supply => SupplyState
  | settings => SettingsState × Bool × Bool × Bool × WriteResult

def face : (x : Subject) → State → x.Face
  | camera c, s => s.cameraFace c
  | zone z, s => (s.zoneRec z).face
  | view, s => (s.arbiter.shownView, s.arbiter.shownCause)
  | supply, s => s.supply.state
  | settings, s => s.settings.told

/-- The fields of the notice after its subject. -/
def fields : Subject → State → List Byte
  | camera c, s => s.cameraFields c
  | zone z, s => (s.zoneRec z).fields
  | view, s => s.viewFields
  | supply, s => [byte s.supply.state.code]
  | settings, s => s.settings.fields

/-- A kind and a subject number are one subject's. -/
theorem key_ne {x y : Subject} (h : y ≠ x) : (x.kind, x.number) ≠ (y.kind, y.number) := by
  intro same
  obtain ⟨kind, number⟩ := Prod.mk.inj same
  cases x with
  | camera c =>
    cases y with
    | camera d => exact h (congrArg camera (Fin.ext number.symm))
    | _ => cases kind
  | zone z =>
    cases y with
    | zone w => exact h (congrArg zone (Fin.ext number.symm))
    | _ => cases kind
  | _ =>
    cases y with
    | camera | zone => cases kind
    | _ => cases kind <;> exact h rfl

/-! ## States that show the same -/

end Subject

/-- All that the subjects' faces and fields are read from, with the phase and the notice sets. -/
def State.noticed (s : State) :=
  (s.phase, s.body, s.receivers, s.pictures, s.zones, (s.arbiter.shownView, s.arbiter.shownCause), s.supply.state,
    s.settings.told)

namespace Subject

variable {x y : Subject} {s t u : State}

theorem camera_same {c : Camera} (recv : t.recv c = s.recv c) (pict : t.pict c = s.pict c) :
    (camera c).face t = (camera c).face s ∧ (camera c).fields t = (camera c).fields s := by
  have face : t.cameraFace c = s.cameraFace c := by rw [State.cameraFace, State.cameraFace, recv, pict]
  have fields : t.cameraFields c = s.cameraFields c := by rw [State.cameraFields, State.cameraFields, recv, pict]
  exact ⟨face, fields⟩

/-- The age shown is the one field of a CAMERA notice whose change raises none (R40). -/
theorem camera_fields {c : Camera} (h : (camera c).face t = (camera c).face s)
    (age : (t.pict c).shownAge = (s.pict c).shownAge) : (camera c).fields t = (camera c).fields s := by
  have face : t.cameraFace c = s.cameraFace c := h
  obtain ⟨lock, mode, degraded, following, accepted, freshness⟩ : _ ∧ _ ∧ _ ∧ _ ∧ _ ∧ _ := by
    simpa only [State.cameraFace, Prod.mk.injEq] using face
  simp only [Subject.fields, State.cameraFields, lock, mode, degraded, following, accepted, freshness, age]

theorem zone_same {z : Zone} (record : t.zoneRec z = s.zoneRec z) :
    (zone z).face t = (zone z).face s ∧ (zone z).fields t = (zone z).fields s :=
  ⟨congrArg ZoneRec.face record, congrArg ZoneRec.fields record⟩

theorem view_fields (h : view.face t = view.face s) : view.fields t = view.fields s :=
  congrArg (fun shown : Nat × Option Cause => [byte shown.1, optByte (shown.2.map Fin.val)]) h

theorem supply_fields (h : supply.face t = supply.face s) : supply.fields t = supply.fields s :=
  congrArg (fun u : SupplyState => [byte u.code]) h

theorem settings_fields (h : settings.face t = settings.face s) : settings.fields t = settings.fields s :=
  SettingsBlock.fields_of_told h

theorem same_of_noticed (h : t.noticed = s.noticed) : x.face t = x.face s ∧ x.fields t = x.fields s := by
  obtain ⟨-, -, receivers, pictures, zones, shown, power, told⟩ : _ ∧ _ ∧ _ ∧ _ ∧ _ ∧ _ ∧ _ ∧ _ := by
    simpa only [State.noticed, Prod.mk.injEq] using h
  cases x with
  | camera c =>
    exact camera_same (congrArg (fun r : Vector Receiver 4 => r[c]) receivers) (congrArg (fun p : Vector Picture 4 => p[c]) pictures)
  | zone z => exact zone_same (congrArg (fun r : Vector ZoneRec 8 => r[z]) zones)
  | view =>
    have shown : view.face t = view.face s := Prod.ext shown.1 shown.2
    exact ⟨shown, view_fields shown⟩
  | supply => exact ⟨power, supply_fields power⟩
  | settings => exact ⟨told, settings_fields told⟩

/-! ## What becomes of a subject -/

/-- The notice of the subject as it now is stands queued, or NOTICES_LOST is set, on every link whose notice set includes it. -/
def Told (x : Subject) (t : State) : Prop :=
  ∀ l : Link, t.body.wantsNotice l.ix.val x.kind.index = true → (t.ctl l).Says x.kind x.number (x.fields t)

/-- From s to t the subject shows the same, and what was told of it stands. -/
structure Carried (x : Subject) (s t : State) : Prop where
  phase : t.phase = s.phase
  body : t.body = s.body
  face : x.face t = x.face s
  fields : x.fields t = x.fields s
  stands : ∀ l f, (s.ctl l).Says x.kind x.number f → (t.ctl l).Says x.kind x.number f

/-- From the running s to t the subject stayed, or a notice followed its change. -/
def Followed (x : Subject) (s t : State) : Prop :=
  s.phase = .running → t.phase = .running ∧ (x.Carried s t ∨ x.Told t)

/-- From the running s to t nothing that raises the notice changed, or a notice followed. -/
def Answered (x : Subject) (s t : State) : Prop :=
  s.phase = .running → t.phase = .running ∧ (x.face t = x.face s ∨ x.Told t)

theorem Carried.refl (x : Subject) (s : State) : x.Carried s s := ⟨rfl, rfl, rfl, rfl, fun _ _ h => h⟩

theorem Carried.trans (h : x.Carried s t) (g : x.Carried t u) : x.Carried s u :=
  ⟨g.phase.trans h.phase, g.body.trans h.body, g.face.trans h.face, g.fields.trans h.fields,
    fun l f stands => g.stands l f (h.stands l f stands)⟩

theorem Told.carried (told : x.Told s) (h : x.Carried s t) : x.Told t := fun l wants => by
  rw [h.fields]
  exact h.stands l _ (told l (h.body ▸ wants))

theorem Carried.followed (h : x.Carried s t) : x.Followed s t := fun running => ⟨h.phase.trans running, .inl h⟩

theorem Followed.trans (h : x.Followed s t) (g : x.Followed t u) : x.Followed s u := fun running => by
  obtain ⟨phase, before⟩ := h running
  obtain ⟨phase', after⟩ := g phase
  refine ⟨phase', ?_⟩
  rcases after with carried | told
  · exact before.imp (·.trans carried) (·.carried carried)
  · exact .inr told

theorem Followed.answered (h : x.Followed s t) : x.Answered s t := fun running => by
  obtain ⟨phase, stayed⟩ := h running
  exact ⟨phase, stayed.imp_left Carried.face⟩

/-- What tells of a change tells of it from any state that shows the same. -/
theorem Answered.after (h : x.Answered t u) (phase : t.phase = s.phase) (face : x.face t = x.face s) : x.Answered s u :=
  fun running => by
    obtain ⟨phase', stayed⟩ := h (phase.trans running)
    exact ⟨phase', stayed.imp_left (·.trans face)⟩

theorem Carried.then (h : x.Carried s t) (g : x.Answered t u) : x.Answered s u := g.after h.phase h.face

theorem Answered.then (h : x.Answered s t) (g : x.Followed t u) : x.Answered s u := fun running => by
  obtain ⟨phase, before⟩ := h running
  obtain ⟨phase', after⟩ := g phase
  refine ⟨phase', ?_⟩
  rcases after with carried | told
  · exact before.imp carried.face.trans (·.carried carried)
  · exact .inr told

theorem Answered.refl (x : Subject) (s : State) : x.Answered s s := (Carried.refl x s).followed.answered

theorem Followed.refl (x : Subject) (s : State) : x.Followed s s := (Carried.refl x s).followed

/-! ## States that show the same -/

theorem Carried.of_noticed (h : t.noticed = s.noticed)
    (stands : ∀ l f, (s.ctl l).Says x.kind x.number f → (t.ctl l).Says x.kind x.number f) : x.Carried s t := by
  obtain ⟨phase, body, -⟩ : _ ∧ _ ∧ _ := by simpa only [State.noticed, Prod.mk.injEq] using h
  obtain ⟨face, fields⟩ := same_of_noticed (x := x) h
  exact ⟨phase, body, face, fields, stands⟩

theorem Answered.of_noticed (h : t.noticed = s.noticed) : x.Answered s t := fun running => by
  have phase : t.phase = s.phase := (Prod.mk.inj h).1
  exact ⟨phase.trans running, .inl (same_of_noticed h).1⟩

theorem says_of_links (links : t.links = s.links) (l : Link) (k : NoticeKind) (n : Nat) (f : List Byte)
    (stands : (s.ctl l).Says k n f) : (t.ctl l).Says k n f := by
  have same : t.ctl l = s.ctl l := by rw [State.ctl, links]; rfl
  rwa [same]

/-- A change of what no notice is read from. -/
theorem Carried.of_eq (h : t.noticed = s.noticed) (links : t.links = s.links) : x.Carried s t :=
  .of_noticed h fun l f => says_of_links links l _ _ f

/-! ## Notices -/

end Subject

/-- The notice of a subject is raised. -/
def State.tell (s : State) (x : Subject) : State := s.raise x.kind x.number (x.fields s)

namespace Subject

variable {x y : Subject} {s t u : State}

theorem raise_carried (s : State) {k : NoticeKind} {n : Nat} {f : List Byte} (other : (k, n) ≠ (x.kind, x.number)) :
    x.Carried s (s.raise k n f) :=
  .of_noticed rfl fun _ _ stands => stands.raise other

theorem tell_carried (s : State) (other : y ≠ x) : y.Carried s (s.tell x) := raise_carried s (key_ne other)

theorem told_tell (x : Subject) (running : s.phase = .running) : x.Told (s.tell x) := fun l wants => by
  have fields : x.fields (s.tell x) = x.fields s := (same_of_noticed (x := x) (s := s) (t := s.tell x) rfl).2
  have wanted : s.body.wantsNotice l.ix.val x.kind.index = true := wants
  rw [fields, State.tell, State.raise_pushes running, if_pos wanted]
  exact LinkCtl.pushNotice_says _ _ _ _

/-- From b to s work has been done, and t is s with the subject's notice where its face has changed. -/
def Noted (x : Subject) (b s t : State) : Prop := (t = s ∧ x.face s = x.face b) ∨ t = s.tell x

theorem Noted.others (h : x.Noted u s t) (other : y ≠ x) : y.Carried s t := by
  rcases h with ⟨rfl, -⟩ | rfl
  · exact .refl y t
  · exact tell_carried s other

theorem Noted.answered (h : x.Noted s u t) (phase : u.phase = s.phase) : x.Answered s t := fun running => by
  rcases h with ⟨rfl, face⟩ | rfl
  · exact ⟨phase.trans running, .inl face⟩
  · exact ⟨phase.trans running, .inr (told_tell x (phase.trans running))⟩

/-- From s to t the parts of one subject may have changed, and no other's. -/
structure Work (x : Subject) (s t : State) : Prop where
  links : t.links = s.links
  phase : t.phase = s.phase
  body : t.body = s.body
  others : ∀ y, y ≠ x → y.face t = y.face s ∧ y.fields t = y.fields s

theorem Work.carried (h : x.Work s t) (other : y ≠ x) : y.Carried s t :=
  ⟨h.phase, h.body, (h.others y other).1, (h.others y other).2, fun l f => says_of_links h.links l _ _ f⟩

theorem Work.trans (h : x.Work s t) (g : x.Work t u) : x.Work s u :=
  ⟨g.links.trans h.links, g.phase.trans h.phase, g.body.trans h.body, fun y other =>
    ⟨(g.others y other).1.trans (h.others y other).1, (g.others y other).2.trans (h.others y other).2⟩⟩

theorem Work.noted_others (h : x.Work s u) (noted : x.Noted s u t) (other : y ≠ x) : y.Carried s t :=
  (h.carried other).trans (noted.others other)

/-- Work on a subject whose fields change only with its face. -/
theorem Work.followed (h : x.Work s u) (noted : x.Noted s u t) (fields : x.face u = x.face s → x.fields u = x.fields s) :
    x.Followed s t := fun running => by
  rcases noted with ⟨rfl, face⟩ | rfl
  · exact ⟨h.phase.trans running, .inl ⟨h.phase, h.body, face, fields face, fun l f => says_of_links h.links l _ _ f⟩⟩
  · exact ⟨h.phase.trans running, .inr (told_tell x (h.phase.trans running))⟩

/-! ## One after another -/

section
variable {α : Type} {f : State → α → State}

theorem Carried.foldl (h : ∀ s a, x.Carried s (f s a)) (l : List α) (s : State) : x.Carried s (l.foldl f s) := by
  induction l generalizing s with
  | nil => exact .refl x s
  | cons a l ih => exact (h s a).trans (ih _)

theorem Followed.foldl (h : ∀ s a, x.Followed s (f s a)) (l : List α) (s : State) : x.Followed s (l.foldl f s) := by
  induction l generalizing s with
  | nil => exact .refl x s
  | cons a l ih => exact (h s a).trans (ih _)

/-- Each subject of a list has its turn once, and is left in the turns of the others. -/
theorem Answered.foldl {key : α → Subject} (own : ∀ s a, (key a).Answered s (f s a))
    (others : ∀ s a y, y ≠ a → (key y).Carried s (f s a)) {l : List α} (once : l.Nodup) (y : α) (s : State) :
    (key y).Answered s (l.foldl f s) := by
  induction l generalizing s with
  | nil => exact .refl _ s
  | cons a l ih =>
    obtain ⟨apart, once⟩ := List.nodup_cons.mp once
    rw [List.foldl_cons]
    by_cases e : y = a
    · subst e
      have rest : ∀ (l : List α) (u : State), y ∉ l → (key y).Carried u (l.foldl f u) := fun l => by
        induction l with
        | nil => exact fun u _ => .refl _ u
        | cons b l ih => exact fun u apart =>
            (others u b y fun e => apart (e ▸ List.mem_cons_self)).trans (ih _ fun h => apart (List.mem_cons_of_mem b h))
      exact (own s y).then (rest l _ apart).followed
    · exact (others s a y e).then (ih once _)

end

end Subject

end Sys2Proof.Machine
end

section
/-! SUPPORT. The blocks give notice of what they change (R24, R40, R126, R151, R189, R196, R201). -/

namespace Sys2Proof.Machine

open Subject

variable {s t u : State} {y : Subject}

/-! ## The notices -/

theorem State.noteCamera_noted (c : Camera) (b s : State) : (camera c).Noted b s (State.noteCamera c b s) := by
  unfold State.noteCamera
  split
  · rename_i same
    exact .inl ⟨rfl, same.symm⟩
  · exact .inr rfl

theorem State.noteView_noted (b s : State) : view.Noted b s (State.noteView b s) := by
  unfold State.noteView
  split
  · rename_i same
    obtain ⟨view, cause⟩ := same
    exact .inl ⟨rfl, Prod.ext view.symm cause.symm⟩
  · exact .inr rfl

theorem State.noteSettings_noted (b s : State) : Subject.settings.Noted b s (State.noteSettings b s) := by
  unfold State.noteSettings
  split
  · rename_i same
    exact .inl ⟨rfl, (SettingsBlock.sameFace_iff.mp same).symm⟩
  · exact .inr rfl

/-! ## Work on one subject -/

theorem State.CameraWork.work {c : Camera} (h : State.CameraWork c s t) : (camera c).Work s t := by
  have rest := State.besideCameras_of_besideCamera h.beside
  obtain ⟨phase, -, -, -, -, zones, -, -, -, -, settings, -⟩ := State.besideCameras_fields rest
  refine ⟨h.links, phase, congrArg SettingsBlock.working settings, fun y other => ?_⟩
  cases y with
  | camera d =>
    obtain ⟨recv, pict, -⟩ := State.otherCameras_of_besideCamera h.beside d fun e => other (congrArg camera e)
    exact camera_same recv pict
  | zone z => exact zone_same (congrArg (fun r : Vector ZoneRec 8 => r[z]) zones)
  | view => exact ⟨(congrArg view.face rest :), (congrArg view.fields rest :)⟩
  | supply => exact ⟨(congrArg Subject.supply.face rest :), (congrArg Subject.supply.fields rest :)⟩
  | settings => exact ⟨(congrArg Subject.settings.face rest :), (congrArg Subject.settings.fields rest :)⟩

theorem Subject.Work.of_views (rest : t.besideViews = s.besideViews) (links : t.links = s.links) : view.Work s t := by
  refine ⟨links, (congrArg State.phase rest :), (congrArg State.body rest :), fun y other => ?_⟩
  cases y with
  | camera c => exact ⟨(congrArg (camera c).face rest :), (congrArg (camera c).fields rest :)⟩
  | zone z => exact ⟨(congrArg (zone z).face rest :), (congrArg (zone z).fields rest :)⟩
  | view => exact absurd rfl other
  | supply => exact ⟨(congrArg supply.face rest :), (congrArg supply.fields rest :)⟩
  | settings => exact ⟨(congrArg settings.face rest :), (congrArg settings.fields rest :)⟩

theorem State.setZoneRec_work (s : State) (z : Zone) (r : ZoneRec) : (zone z).Work s (s.setZoneRec z r) := by
  refine ⟨rfl, rfl, rfl, fun y other => ?_⟩
  cases y with
  | zone w => exact zone_same (s.zoneRec_setZoneRec_of_ne z w r fun e => other (congrArg zone e))
  | _ => exact ⟨rfl, rfl⟩

theorem State.setSupply_work (s : State) (u : Supply) : Subject.supply.Work s (s.setSupply u) := by
  refine ⟨rfl, rfl, rfl, fun y other => ?_⟩
  cases y with
  | supply => exact absurd rfl other
  | _ => exact ⟨rfl, rfl⟩

/-- Work on the settings block that leaves the working copy, and on what no notice is read from. -/
theorem Subject.Work.of_settings (body : t.body = s.body) (rest : (t.setSettings s.settings).noticed = s.noticed)
    (links : t.links = s.links) : settings.Work s t := by
  have same : ∀ y : Subject, y.face (t.setSettings s.settings) = y.face s ∧ y.fields (t.setSettings s.settings) = y.fields s :=
    fun y => same_of_noticed rest
  refine ⟨links, (Prod.mk.inj rest).1, body, fun y other => ?_⟩
  cases y with
  | settings => exact absurd rfl other
  | camera c => exact same (camera c)
  | zone z => exact same (zone z)
  | view => exact same view
  | supply => exact same supply

/-! ## Cameras (R24, R40) -/

theorem State.CameraHeard.followed {c : Camera} (h : State.CameraHeard c s t) (y : Subject) : y.Followed s t := by
  induction h with
  | refl => exact .refl y s
  | note _ work age ih =>
    refine ih.trans ?_
    rename_i u v _
    by_cases own : y = camera c
    · subst own
      refine work.work.followed (State.noteCamera_noted c _ _) (camera_fields · age)
    · exact (work.work.noted_others (State.noteCamera_noted c _ _) own).followed

theorem State.CameraTold.answered {c : Camera} (h : State.CameraTold c s t) (y : Subject) : y.Answered s t := by
  rcases h with heard | ⟨v, work, rfl⟩
  · exact (heard.followed y).answered
  · by_cases own : y = camera c
    · subst own
      exact (State.noteCamera_noted c s v).answered work.work.phase
    · exact (work.work.noted_others (State.noteCamera_noted c _ _) own).followed.answered

theorem State.openCamera_carried (s : State) (c : Camera) (other : y ≠ camera c) : y.Carried s (s.openCamera c) :=
  (s.setPict_work c _).work.noted_others (State.noteCamera_noted c _ _) other

/-- R36: the four cameras at a frame start. -/
theorem State.openCameras_answered (s : State) (y : Subject) : y.Answered s s.openCameras := by
  by_cases own : ∃ c, y = camera c
  · obtain ⟨c, rfl⟩ := own
    exact Answered.foldl (key := camera) (fun u c => (u.openCamera_told c).answered _)
      (fun u c d other => u.openCamera_carried c fun e => other (Subject.camera.inj e)) (List.nodup_finRange 4) c s
  · exact (Carried.foldl (fun u c => u.openCamera_carried c fun e => own ⟨c, e⟩) _ s).followed.answered

/-! ## The arbiter and the zones (R126, R151) -/

/-- From s to t the arbiter and the zones of a set have given notice of what they changed, and the rest has stayed. -/
structure State.Monitored (zs : Zone → Prop) (s t : State) : Prop where
  others : ∀ y, y ≠ view → (∀ z, zs z → y ≠ zone z) → y.Carried s t
  view : view.Followed s t
  zones : ∀ z, zs z → (zone z).Answered s t

namespace State.Monitored

variable {zs : Zone → Prop}

theorem of_eq (same : t.noticed = s.noticed) (links : t.links = s.links) : State.Monitored (fun _ => False) s t :=
  ⟨fun _ _ _ => .of_eq same links, (Carried.of_eq same links).followed, fun _ none => none.elim⟩

theorem mono {ws : Zone → Prop} (h : State.Monitored zs s t) (le : ∀ z, zs z → ws z) : State.Monitored ws s t := by
  refine ⟨fun y v z => h.others y v fun w m => z w (le w m), h.view, fun z _ => ?_⟩
  by_cases own : zs z
  · exact h.zones z own
  · exact (h.others (zone z) (fun e => nomatch e) fun w m e => own (Subject.zone.inj e ▸ m)).followed.answered

theorem refl (zs : Zone → Prop) (s : State) : State.Monitored zs s s := (of_eq rfl rfl).mono fun _ => False.elim

/-- A choice of the arbiter first. -/
theorem after_choice (h : State.Monitored (fun _ => False) s t) (g : State.Monitored zs t u) : State.Monitored zs s u :=
  ⟨fun y v z => (h.others y v fun _ none => none.elim).trans (g.others y v z), h.view.trans g.view,
    fun z own => (h.others (zone z) (fun e => nomatch e) fun _ none => none.elim).then (g.zones z own)⟩

/-- A choice of the arbiter last. -/
theorem then_choice (h : State.Monitored zs s t) (g : State.Monitored (fun _ => False) t u) : State.Monitored zs s u :=
  ⟨fun y v z => (h.others y v z).trans (g.others y v fun _ none => none.elim), h.view.trans g.view,
    fun z own => (h.zones z own).then (g.others (zone z) (fun e => nomatch e) fun _ none => none.elim).followed⟩

theorem answered (h : State.Monitored zs s t) (y : Subject) : y.Answered s t := by
  by_cases v : y = Subject.view
  · exact v ▸ h.view.answered
  · by_cases z : ∃ z, zs z ∧ y = zone z
    · obtain ⟨z, own, rfl⟩ := z
      exact h.zones z own
    · exact (h.others y v fun w own e => z ⟨w, own, e⟩).followed.answered

end State.Monitored

/-- R148, R151: the arbiter's choice. -/
theorem State.choose_monitored (s : State) : State.Monitored (fun _ => False) s s.choose := by
  have work : view.Work s s.decideView := .of_views s.besideViews_decideView s.decideView_links
  exact ⟨fun y other _ => work.noted_others (State.noteView_noted _ _) other,
    work.followed (State.noteView_noted _ _) view_fields, fun _ none => none.elim⟩

/-- The arbiter's choice after work that no notice is read from. -/
theorem State.choose_after (same : t.noticed = s.noticed) (links : t.links = s.links) :
    State.Monitored (fun _ => False) s t.choose :=
  (State.Monitored.of_eq same links).after_choice t.choose_monitored

/-- A zone's record that shows the same. -/
theorem State.setZoneRec_monitored (s : State) (z : Zone) {r : ZoneRec} (same : r.face = (s.zoneRec z).face) :
    State.Monitored (· = z) s (s.setZoneRec z r) := by
  have work := s.setZoneRec_work z r
  have face : ((s.setZoneRec z r).zoneRec z).face = (s.zoneRec z).face := by rw [State.zoneRec_setZoneRec_self, same]
  exact ⟨fun y _ other => work.carried (other z rfl), (work.carried (y := view) fun e => nomatch e).followed,
    fun w own running => ⟨running, .inl (own ▸ face)⟩⟩

/-- R126: a zone's record with its notice, before the onset. -/
theorem State.noticedZone_told (s : State) (z : Zone) (r : ZoneRec) :
    (∀ y, y ≠ zone z → y.Carried s (s.noticedZone z r)) ∧ (zone z).Answered s (s.noticedZone z r) := by
  have own : (s.setZoneRec z r).zoneRec z = r := s.zoneRec_setZoneRec_self z r
  have work := s.setZoneRec_work z r
  unfold State.noticedZone
  split
  · rename_i same
    exact ⟨fun y other => work.carried other, (s.setZoneRec_monitored z same.symm).zones z rfl⟩
  · have told : (s.setZoneRec z r).raise .zone z.val r.fields = (s.setZoneRec z r).tell (zone z) := by
      rw [State.tell]
      show _ = (s.setZoneRec z r).raise .zone z.val ((s.setZoneRec z r).zoneRec z).fields
      rw [own]
    have noted : (zone z).Noted s (s.setZoneRec z r) ((s.setZoneRec z r).tell (zone z)) := .inr rfl
    have copied : ∀ y : Subject, y.Carried ((s.setZoneRec z r).tell (zone z)) ((s.setZoneRec z r).zoneChange z r) := fun y => by
      rw [State.zoneChange, told]
      exact .of_eq rfl rfl
    exact ⟨fun y other => (work.noted_others noted other).trans (copied y),
      (noted.answered rfl).then (copied _).followed⟩

/-- R125, R142: an onset raises causes, and the arbiter makes its choice. -/
theorem State.onset_monitored (s : State) (z : Zone) (v : Nat) : State.Monitored (fun _ => False) s (s.onset z v) := by
  rw [State.onset_eq]
  exact State.choose_after rfl rfl

/-- R125, R126: a zone takes a record. -/
theorem State.takeZone_monitored (s : State) (z : Zone) (r : ZoneRec) : State.Monitored (· = z) s (s.takeZone z r) := by
  obtain ⟨others, own⟩ := s.noticedZone_told z r
  have noticed : State.Monitored (· = z) s (s.noticedZone z r) :=
    ⟨fun y _ other => others y (other z rfl), (others view fun e => nomatch e).followed, fun w e => e ▸ own⟩
  by_cases quiet : ¬ (s.zoneRec z).Onset r ∨ (s.body.zone z).preferredView = none
  · rw [State.takeZone_of_none quiet]
    exact noticed
  · obtain ⟨onset, views⟩ := not_or.mp quiet
    obtain ⟨v, view⟩ := Option.ne_none_iff_exists'.mp views
    rw [State.takeZone_of_onset (not_not.mp onset) view]
    exact noticed.then_choice (State.onset_monitored _ z v)

theorem State.evaluateZone_monitored (s : State) (z : Zone) : State.Monitored (· = z) s (s.evaluateZone z) := by
  unfold State.evaluateZone
  split
  · exact s.takeZone_monitored z _
  · exact .refl _ s

theorem State.recountZone_monitored (s : State) (z : Zone) : State.Monitored (· = z) s (s.recountZone z) := by
  unfold State.recountZone
  dsimp only
  split
  · exact s.takeZone_monitored z _
  · exact .refl _ s

theorem State.commitZone_monitored (s : State) (z : Zone) : State.Monitored (· = z) s (s.commitZone z) := by
  unfold State.commitZone
  dsimp only
  split <;> exact s.takeZone_monitored z _

/-- The zones one after another. -/
theorem State.Monitored.foldl {f : State → Zone → State} (h : ∀ s z, State.Monitored (· = z) s (f s z)) (s : State) :
    State.Monitored (fun _ => True) s ((List.finRange 8).foldl f s) := by
  have others : ∀ (u : State) z w, w ≠ z → (zone w).Carried u (f u z) := fun u z w apart =>
    (h u z).others (zone w) (fun e => nomatch e) fun _ same e => apart ((Subject.zone.inj e).trans same)
  exact ⟨fun y v z => .foldl (fun u w => (h u w).others y v fun x _ => z x trivial) _ s,
    .foldl (fun u w => (h u w).view) _ s,
    fun z _ => Answered.foldl (fun u w => (h u w).zones w rfl) others (List.nodup_finRange 8) z s⟩

theorem State.evaluateZones_monitored (s : State) : State.Monitored (fun _ => True) s s.evaluateZones :=
  .foldl State.evaluateZone_monitored s

theorem State.recountZones_monitored (s : State) : State.Monitored (fun _ => True) s s.recountZones :=
  .foldl State.recountZone_monitored s

theorem State.commitZones_monitored (s : State) : State.Monitored (fun _ => True) s s.commitZones :=
  .foldl State.commitZone_monitored s

/-- R120: the hold timer of a zone. -/
theorem State.holdExpiry_monitored (s : State) (z : Zone) : State.Monitored (· = z) s (s.holdExpiry z) := by
  unfold State.holdExpiry
  split
  · exact .refl _ s
  · split
    · exact s.takeZone_monitored z _
    · exact s.setZoneRec_monitored z rfl

/-- R122: the dwell of a zone. -/
theorem State.dwellEnd_monitored (s : State) (z : Zone) : State.Monitored (· = z) s (s.dwellEnd z) := by
  unfold State.dwellEnd
  dsimp only
  split
  · exact .refl _ s
  · split
    · exact s.takeZone_monitored z _
    · exact s.setZoneRec_monitored z rfl

/-! ## Handing on (R103, R146) -/

/-- R103, R146: the arbiter's choices after a change of speed and of the conditions. -/
theorem State.handOn_choices (s : State) (fast changed : Prop) [Decidable fast] [Decidable changed] :
    State.Monitored (fun _ => False) s
      (if changed then (if fast then s.endMasked.choose else s).choose else if fast then s.endMasked.choose else s) := by
  have speed : State.Monitored (fun _ => False) s (if fast then s.endMasked.choose else s) := by
    split
    · exact State.choose_after rfl rfl
    · exact .refl _ s
  split
  · exact speed.after_choice (State.choose_monitored _)
  · exact speed

/-- R103: what has changed since a state is handed on, after other work of the zone monitor. -/
theorem State.handOn_after {b : State}
    (evaluated : State.Monitored (fun _ => True) s (if b.vehicle.conds ≠ t.vehicle.conds then t.evaluateZones else t)) :
    State.Monitored (fun _ => True) s (State.handOn b t) :=
  evaluated.then_choice (State.handOn_choices _ _ _)

theorem State.handOn_monitored (b s : State) : State.Monitored (fun _ => True) s (State.handOn b s) := by
  refine State.handOn_after ?_
  split
  · exact s.evaluateZones_monitored
  · exact .refl _ s

/-! ## The settings block (R189, R191, R193) -/

/-- R189, R191: a change of the settings block is told before what is handed on. -/
theorem State.settingsStep_answered (work : Subject.settings.Work s t) (y : Subject) :
    y.Answered s (State.settingsStep s t) := by
  have noted := State.noteSettings_noted s t
  have handed := State.handOn_monitored s (State.noteSettings s t)
  by_cases own : y = Subject.settings
  · subst own
    exact (work.followed noted settings_fields).answered.then
      (handed.others Subject.settings (fun e => nomatch e) fun _ _ e => nomatch e).followed
  · exact (work.noted_others noted own).then (handed.answered y)

theorem State.endService_work (s : State) : Subject.settings.Work s s.endService := .of_settings rfl rfl rfl

theorem State.askServiceEnd_work (s : State) : Subject.settings.Work s s.askServiceEnd := by
  unfold State.askServiceEnd
  split
  · exact s.endService_work
  · exact .of_settings rfl rfl rfl

/-- R191: MOVING becoming true ends service state. -/
theorem State.movingEnds_work (b s : State) : Subject.settings.Work s (State.movingEnds b s) := by
  unfold State.movingEnds
  split
  · exact s.askServiceEnd_work
  · exact .of_settings rfl rfl rfl

/-- R103, R191: new values of the vehicle state block. -/
theorem State.takeVehicle_answered (s : State) (v : Vehicle) (y : Subject) : y.Answered s (s.takeVehicle v) := by
  have set : Subject.settings.Work s { s with vehicle := v } := .of_settings rfl rfl rfl
  exact State.settingsStep_answered (set.trans (State.movingEnds_work s _)) y

/-- R191: service state is entered. -/
theorem State.enterService_answered (s : State) (y : Subject) : y.Answered s s.enterService := by
  unfold State.enterService
  split
  all_goals
    refine State.settingsStep_answered ?_ y
    exact .of_settings rfl rfl rfl

/-- R194: a commit ends. -/
theorem State.endCommit_answered (s : State) {f : SettingsBlock → SettingsBlock} (keeps : ∀ b, (f b).working = b.working)
    (y : Subject) : y.Answered s (s.endCommit f) := by
  have ended : Subject.settings.Work s (s.setSettings (f s.settings)) := .of_settings (keeps s.settings) rfl rfl
  unfold State.endCommit
  split
  · exact .refl y s
  · refine State.settingsStep_answered ?_ y
    split
    · exact ended.trans (State.endService_work _)
    · exact ended

/-! ## Evaluation of zones that have been evaluated (R119) -/

/-- R119: an evaluation under the same settings and conditions changes nothing more. -/
theorem ZoneRec.evaluate_evaluate (cfg : ZoneSettings) (c : Conditions) (r : ZoneRec) :
    (r.evaluate cfg c).evaluate cfg c = r.evaluate cfg c := by
  by_cases armed : cfg.armed c = true
  · by_cases empty : r.occupancy = 0
    · have cleared : r.toClear.evaluate cfg c = r.toClear := ZoneRec.evaluate_clear armed empty rfl
      have held : ∀ l, (r.toHold l cfg.holdTime).evaluate cfg c = r.toHold l cfg.holdTime := fun l => by
        unfold ZoneRec.toHold
        split
        · exact cleared
        · exact ZoneRec.evaluate_held armed empty rfl (by simp)
      cases state : r.state with
      | idle => rw [ZoneRec.evaluate_idle armed empty state, cleared]
      | clear => rw [ZoneRec.evaluate_clear armed empty state, ZoneRec.evaluate_clear armed empty state]
      | caution => rw [ZoneRec.evaluate_left armed empty (.inl state), held]
      | warning => rw [ZoneRec.evaluate_left armed empty (.inr state), held]
      | hold =>
        by_cases out : r.holdTimer = none
        · rw [ZoneRec.evaluate_released armed empty state out, cleared]
        · rw [ZoneRec.evaluate_held armed empty state out, ZoneRec.evaluate_held armed empty state out]
    · rw [ZoneRec.evaluate_occupied armed empty]
      have level : cfg.level c (r.toLevel (cfg.level c r)) = cfg.level c r := rfl
      rw [ZoneRec.evaluate_occupied (r := r.toLevel _) armed empty, level]
      cases cfg.level c r <;> simp [ZoneRec.toLevel, Level.state, ZoneState.dwelling]
  · rw [ZoneRec.evaluate_unarmed armed, ZoneRec.evaluate_unarmed armed]
    rfl

/-- A zone that takes the record it has. -/
theorem State.takeZone_own (s : State) (z : Zone) : (zone z).Carried s (s.takeZone z (s.zoneRec z)) := by
  have quiet : s.noticedZone z (s.zoneRec z) = s.setZoneRec z (s.zoneRec z) := if_pos rfl
  have same : (s.setZoneRec z (s.zoneRec z)).zoneRec z = s.zoneRec z := s.zoneRec_setZoneRec_self z _
  rw [State.takeZone_of_none (.inl (s.zoneRec z).not_onset_self), quiet]
  exact ⟨rfl, rfl, (zone_same same).1, (zone_same same).2, fun l f => says_of_links rfl l _ _ f⟩

/-- In u zone z and what is beside the zones are as in s, and what was told of the zone stands. -/
structure State.ZoneStays (z : Zone) (s u : State) : Prop where
  record : u.zoneRec z = s.zoneRec z
  rest : u.besideZones = s.besideZones
  carried : (zone z).Carried s u

theorem State.ZoneStays.evaluated {z : Zone} (h : State.ZoneStays z s u) (settled : s.evaluated z = s.zoneRec z) :
    u.evaluated z = u.zoneRec z := by
  obtain ⟨-, -, -, -, -, -, vehicle, -, -, -, block, -⟩ := State.besideZones_fields h.rest
  have body : u.body = s.body := congrArg SettingsBlock.working block
  rw [h.record, ← settled, State.evaluated, State.evaluated, h.record, body, vehicle]

theorem State.ZoneStays.evaluateZone {z : Zone} (h : State.ZoneStays z s u) (settled : s.evaluated z = s.zoneRec z) (w : Zone) :
    State.ZoneStays z s (u.evaluateZone w) := by
  unfold State.evaluateZone
  split
  · rename_i enabled
    by_cases own : w = z
    · subst own
      have record := h.evaluated settled
      rw [State.evaluated, if_pos enabled] at record
      have taken := u.takeZone_taken w (u.zoneRec w)
      rw [record]
      exact ⟨taken.own.trans h.record, taken.rest.trans h.rest, h.carried.trans (u.takeZone_own w)⟩
    · have taken := u.takeZone_taken w ((u.zoneRec w).evaluate (u.body.zone w) u.vehicle.conds)
      have carried := (u.takeZone_monitored w ((u.zoneRec w).evaluate (u.body.zone w) u.vehicle.conds)).others (zone z)
        (fun e => nomatch e) fun x here e => own ((Subject.zone.inj e).trans here).symm
      exact ⟨(taken.others z fun e => own e.symm).trans h.record, taken.rest.trans h.rest, h.carried.trans carried⟩
  · exact h

/-- R119: a zone that an evaluation leaves as it is. -/
theorem State.evaluateZones_carried {z : Zone} (settled : s.evaluated z = s.zoneRec z) :
    (zone z).Carried s s.evaluateZones :=
  (List.foldlRecOn (motive := State.ZoneStays z s) _ State.evaluateZone ⟨rfl, rfl, .refl _ s⟩
    fun _ stays w _ => stays.evaluateZone settled w).carried

/-- R118: a recount leaves a zone, or ends with its evaluation. -/
theorem State.recounted_cases (s : State) (z : Zone) :
    s.recounted z = s.zoneRec z ∨ (s.recounted z).evaluate (s.body.zone z) s.vehicle.conds = s.recounted z := by
  unfold State.recounted
  dsimp only
  split
  · exact .inr (ZoneRec.evaluate_evaluate _ _ _)
  · exact .inl rfl

/-- R118, R119: a recount and an evaluation after it tell of each zone once. -/
theorem State.recountThenEvaluate_monitored (s : State) :
    State.Monitored (fun _ => True) s s.recountZones.evaluateZones := by
  have recounted := s.recountZones_monitored
  have evaluated := s.recountZones.evaluateZones_monitored
  refine ⟨fun y v z => (recounted.others y v z).trans (evaluated.others y v z), recounted.view.trans evaluated.view,
    fun z _ => ?_⟩
  obtain ⟨zones, rest, -⟩ := s.recountZones_taken
  obtain ⟨phase, -, -, -, -, -, vehicle, -, -, -, block, -⟩ := State.besideZones_fields rest
  have body : s.recountZones.body = s.body := congrArg SettingsBlock.working block
  have record := congrFun zones z
  rcases s.recounted_cases z with same | evaluates
  · exact (evaluated.zones z trivial).after phase (zone_same (record.trans same)).1
  · have settled : s.recountZones.evaluated z = s.recountZones.zoneRec z := by
      rw [State.evaluated, record, body, vehicle, evaluates, ite_self]
    exact (recounted.zones z trivial).then (State.evaluateZones_carried settled).followed

/-- R109: a body report. -/
theorem State.bodyReport_answered (s : State) (cycling : Bool) (c : Contacts) (y : Subject) :
    y.Answered s (s.bodyReport cycling c) := by
  unfold State.bodyReport
  extract_lets v tracks s1 s2
  have set : y.Carried s s1 := .of_eq rfl rfl
  refine set.then ?_
  clear_value s1
  refine (State.handOn_after ?_).answered y
  have recounted : State.Monitored (fun _ => True) s1 s2 := by
    show State.Monitored _ s1 (if _ then s1 else s1.recountZones)
    split
    · exact .refl _ s1
    · exact s1.recountZones_monitored
  split
  · show State.Monitored _ s1 (if _ then s1 else s1.recountZones).evaluateZones
    split
    · exact s1.evaluateZones_monitored
    · exact s1.recountThenEvaluate_monitored
  · exact recounted

end Sys2Proof.Machine
end

section
/-! SUPPORT. What leaves a queued notice; commits, masks, owner silence, tracks and the supply monitor give notice of what they change
(R118, R145, R185, R193, R196). -/

namespace Sys2Proof.Machine

open Subject

variable {s t : State} {y : Subject}

/-! ## Controllers that change -/

/-- A controller changes and the notice stands. -/
theorem Subject.Carried.setCtl {l : Link} {c : LinkCtl} (stands : ∀ k n f, (s.ctl l).Says k n f → c.Says k n f) :
    y.Carried s (s.setCtl l c) := by
  refine .of_noticed rfl fun m f queued => ?_
  by_cases own : m = l
  · subst own
    rw [State.ctl_setCtl_self]
    exact stands _ _ f queued
  · rwa [State.ctl_setCtl_of_ne _ _ _ _ own]

theorem LinkCtl.Says.settle {l : Link} {k : NoticeKind} {n : Nat} {f : List Byte} (stands : (s.ctl l).Says k n f) :
    (s.settle.ctl l).Says k n f := by
  obtain ⟨-, outbound, flags, -, -⟩ := s.settle_ctl l
  exact stands.congr outbound flags

theorem State.settle_carried (s : State) (y : Subject) : y.Carried s s.settle :=
  .of_noticed rfl fun _ _ stands => stands.settle

theorem State.reply_carried (s : State) (l : Link) (r : Request) (a : Answer) (y : Subject) : y.Carried s (s.reply l r a) :=
  .setCtl fun _ _ _ stands => stands.pushReply _

theorem State.setPurged_carried (s : State) (l : Link) (y : Subject) : y.Carried s (s.setPurged l) :=
  .setCtl fun _ _ _ => id

/-! ## A commit (R193) -/

theorem State.commitTable_carried (s : State) (y : Subject) : y.Carried s s.commitTable := by
  unfold State.commitTable
  extract_lets table s1
  have dropped : y.Carried s s1 := .of_eq rfl rfl
  refine dropped.trans (.foldl (fun u l => ?_) _ s1)
  split
  · exact u.setPurged_carried l y
  · exact .refl y u

theorem State.alertCommit_monitored (s : State) : State.Monitored (fun _ => False) s s.alertCommit := .of_eq rfl rfl

/-- R152: the arbiter at a commit. -/
theorem State.arbiterCommit_monitored (s : State) : State.Monitored (fun _ => False) s s.arbiterCommit :=
  State.choose_after rfl rfl

/-- R193: what a commit does after its SETTINGS notice. -/
theorem State.commitBlocks_monitored (s : State) :
    State.Monitored (fun _ => True) s s.commitZones.alertCommit.arbiterCommit :=
  (s.commitZones_monitored.then_choice s.commitZones.alertCommit_monitored).then_choice
    s.commitZones.alertCommit.arbiterCommit_monitored

/-- R104: MOVING at a commit. -/
theorem State.commitVehicle_work (s : State) : Subject.settings.Work s s.commitVehicle := by
  have set : Subject.settings.Work s { s with vehicle := s.vehicle.commit s.body } := .of_settings rfl rfl rfl
  exact set.trans (State.movingEnds_work s _)

/-- R51, R99, R104: what a commit does before its SETTINGS notice. -/
theorem State.commitTables_carried (s : State) (old : Body) (other : y ≠ Subject.settings) :
    y.Carried s (s.commitTable.commitRegulators old).commitVehicle := by
  have regulated : y.Carried s.commitTable (s.commitTable.commitRegulators old) := .of_eq rfl rfl
  exact ((s.commitTable_carried y).trans regulated).trans ((State.commitVehicle_work _).carried other)

theorem State.setSettings_face (s : State) (b : SettingsBlock) (other : y ≠ Subject.settings) :
    y.face (s.setSettings b) = y.face s := by
  cases y with
  | settings => exact absurd rfl other
  | _ => rfl

/-- R193: a new working copy is put in force. -/
theorem State.applyCommit_answered (s : State) (new : Body) (y : Subject) : y.Answered s (s.applyCommit new) := by
  unfold State.applyCommit
  extract_lets s1 s2
  have tables : ∀ y, y ≠ Subject.settings → y.Carried s1 s2 := fun _ => s1.commitTables_carried s.body
  have phase : s2.phase = s.phase := (tables view fun e => nomatch e).phase
  have noted := State.noteSettings_noted s s2
  have blocks := (State.noteSettings s s2).commitBlocks_monitored
  by_cases own : y = Subject.settings
  · subst own
    exact (noted.answered phase).then (blocks.others Subject.settings (fun e => nomatch e) fun _ _ e => nomatch e).followed
  · have told := (tables y own).trans (noted.others own)
    exact (blocks.answered y).after told.phase (told.face.trans (s.setSettings_face _ own))

/-! ## Masks, tables and owners -/

theorem State.purge_carried (s : State) (l : Link) (y : Subject) : y.Carried s (s.purge l) := by
  unfold State.purge
  extract_lets s1
  have emptied : y.Carried s s1 := .of_eq rfl rfl
  split
  · exact emptied.trans (s1.setPurged_carried l y)
  · exact emptied

theorem State.clearMasks_monitored (s : State) (l : Link) : State.Monitored (fun _ => False) s (s.clearMasks l) :=
  State.choose_after rfl rfl

/-- R185: the owner silence of a link. -/
theorem State.ownerExpiry_answered (s : State) (l : Link) (y : Subject) : y.Answered s (s.ownerExpiry l) := by
  unfold State.ownerExpiry
  split
  · exact .refl y s
  · have stopped : y.Carried s (s.onCtl l fun c => { c with ownerTimer := none }) := .setCtl fun _ _ _ => id
    exact (stopped.trans (State.purge_carried _ l y)).then ((State.clearMasks_monitored _ l).answered y)

theorem State.maskCauses_monitored (s : State) (l : Link) (set : BitVec 16) :
    State.Monitored (fun _ => False) s (s.maskCauses l set) :=
  State.choose_after rfl rfl

theorem State.unmaskCauses_monitored (s : State) (l : Link) (set : BitVec 16) :
    State.Monitored (fun _ => False) s (s.unmaskCauses l set) :=
  State.choose_after rfl rfl

theorem State.causeExpiry_monitored (s : State) (i : Cause) : State.Monitored (fun _ => False) s (s.causeExpiry i) := by
  unfold State.causeExpiry
  split
  · exact .refl _ s
  · exact State.choose_after rfl rfl

theorem State.showExpiry_monitored (s : State) : State.Monitored (fun _ => False) s s.showExpiry := by
  unfold State.showExpiry
  split
  · exact .refl _ s
  · exact State.choose_after rfl rfl

/-- R118: a place of the track table set. -/
theorem State.setPlace_answered (s : State) (p : Place) (k : Option Track) (y : Subject) : y.Answered s (s.setPlace p k) := by
  have set : y.Carried s { s with tracks := { s.tracks with places := s.tracks.places.set p k } } := .of_eq rfl rfl
  exact set.then ((State.recountZones_monitored _).answered y)

/-! ## The supply monitor (R196) -/

theorem State.noteSupply_answered (same : t.phase = s.phase) (others : ∀ y, y ≠ Subject.supply → y.face t = y.face s)
    (y : Subject) : y.Answered s t.noteSupply := by
  by_cases own : y = Subject.supply
  · subst own
    exact fun running => ⟨same.trans running, .inr (told_tell _ (same.trans running))⟩
  · have told : y.Carried t t.noteSupply := tell_carried t own
    exact told.followed.answered.after same (others y own)

theorem State.dipExpiry_answered (s : State) (y : Subject) : y.Answered s s.dipExpiry := by
  unfold State.dipExpiry
  split
  · exact .refl y s
  · refine State.noteSupply_answered ?_ (fun x other => ?_) y
    · rfl
    have crank : x.Carried (s.setSupply { state := .crank, dip := none, recovery := none })
        (s.setSupply { state := .crank, dip := none, recovery := none }).crankRegulators := .of_eq rfl rfl
    exact crank.face.trans ((s.setSupply_work _).carried other).face

theorem State.recoveryExpiry_answered (s : State) (y : Subject) : y.Answered s s.recoveryExpiry := by
  unfold State.recoveryExpiry
  split
  · exact .refl y s
  · refine State.noteSupply_answered ?_ (fun x other => ((s.setSupply_work _).carried other).face) y
    rfl

end Sys2Proof.Machine
end

section
/-! SUPPORT. The notices of every command (R24, R40, R126, R151, R182, R189, R196). -/

namespace Sys2Proof.Machine

open Subject

variable {s t u : State} {y : Subject}

/-! ## The requests -/

section
variable (l : Link) (r : Request) (s : State) (y : Subject)

theorem RequestRow.objectAct_answered {row : RequestRow} : y.Answered s (row.objectAct l r s).1 := by
  rcases RequestRow.objectAct_cases l r s (row := row) with same | ⟨i, x, set⟩
  · rw [same]; exact .refl y s
  · rw [set]; exact .of_noticed rfl

theorem actVehicleState_answered : y.Answered s (actVehicleState l r s).1 := by
  unfold actVehicleState
  split
  · exact .refl y s
  · split
    · exact .refl y s
    · exact s.takeVehicle_answered _ y

theorem actBodyState_answered : y.Answered s (actBodyState l r s).1 := by
  unfold actBodyState
  split
  · exact .refl y s
  · split
    · exact .refl y s
    · exact s.bodyReport_answered _ _ y

theorem actTrackUpdate_answered : y.Answered s (actTrackUpdate l r s).1 := by
  rcases actTrackUpdate_cases l r s with same | ⟨p, cls, -, -, placed⟩
  · rw [same]; exact .refl y s
  · rw [placed]; exact s.setPlace_answered p _ y

theorem actTrackDrop_answered : y.Answered s (actTrackDrop l r s).1 := by
  rcases actTrackDrop_cases l r s with same | ⟨p, dropped⟩
  · rw [same]; exact .refl y s
  · rw [dropped]; exact s.setPlace_answered p none y

theorem actZoneAck_answered : y.Answered s (actZoneAck l r s).1 := by
  unfold actZoneAck
  dsimp only
  split
  · split
    · exact .refl y s
    · split
      · exact .refl y s
      · exact (s.takeZone_monitored _ _).answered y
  · exact .refl y s

theorem actViewRequest_answered : y.Answered s (actViewRequest r s).1 := by
  unfold actViewRequest
  dsimp only
  split
  · split
    · exact (State.choose_after (by rw [State.raiseCause_eq]; rfl) (s.raiseCause_links _)).answered y
    · exact .refl y s
  · exact .refl y s

theorem actViewMaskSet_answered : y.Answered s (actViewMaskSet l r s).1 := by
  unfold actViewMaskSet
  split
  · exact (s.maskCauses_monitored l _).answered y
  · exact .refl y s

theorem actViewMaskClear_answered : y.Answered s (actViewMaskClear l r s).1 :=
  (s.unmaskCauses_monitored l _).answered y

theorem actStatusQuery_answered : y.Answered s (actStatusQuery l r s).1 := by
  unfold actStatusQuery
  split <;> exact .of_noticed rfl

theorem actSettingsRead_answered : y.Answered s (actSettingsRead r s).1 := by
  unfold actSettingsRead
  dsimp only
  split <;> exact .refl y s

theorem actServiceEnter_answered : y.Answered s (actServiceEnter l r s).1 := by
  unfold actServiceEnter
  split
  · exact .refl y s
  · split
    · exact .refl y s
    · exact s.enterService_answered y

theorem actServiceExit_answered : y.Answered s (actServiceExit l r s).1 := by
  unfold actServiceExit
  split
  · exact .refl y s
  · split
    · exact .refl y s
    · exact State.settingsStep_answered s.askServiceEnd_work y

theorem actSettingsWrite_answered : y.Answered s (actSettingsWrite l r s).1 := by
  unfold actSettingsWrite
  dsimp only
  split
  · exact .refl y s
  · split
    · exact .of_noticed rfl
    · exact .refl y s

theorem State.tryCommit_answered (b : Body) : y.Answered s (s.tryCommit b).1 := by
  rw [State.tryCommit]
  split
  · exact .refl y s
  · dsimp only
    exact s.applyCommit_answered b y

theorem actSettingsCommit_answered : y.Answered s (actSettingsCommit l r s).1 := by
  rw [actSettingsCommit]
  split
  · exact .refl y s
  · exact s.tryCommit_answered y _
  · exact .refl y s

end

/-! ## The kinds of commands -/

theorem Subject.Answered.ite (p : Prop) [Decidable p] (yes : y.Answered s t) (no : y.Answered s u) :
    y.Answered s (if p then t else u) := by
  split
  · exact yes
  · exact no

/-- A command of the running part. -/
theorem Subject.Answered.work {f : State → State} (acts : ∀ u : State, y.Answered u (f u))
    (next : whileRunning s f = .next t) : y.Answered s t := by
  obtain rfl := Host.Outcome.next.inj next
  split
  · exact (acts s).then ((f s).settle_carried y).followed
  · exact .refl y s

/-- A command of the running part that changes nothing a notice is read from. -/
theorem Subject.Answered.quiet {f : State → State} (same : ∀ u : State, (f u).noticed = u.noticed)
    (next : whileRunning s f = .next t) : y.Answered s t :=
  .work (fun u => .of_noticed (same u)) next

/-- A request. -/
theorem Subject.Answered.request {row : RequestRow} {l : Link} {act : Request → State → State × Answer}
    (acts : ∀ r u, y.Answered u (act r u).1) (next : whileRunning s (answering row l act) = .next t) : y.Answered s t := by
  refine .work (fun u => ?_) next
  unfold answering
  split
  · exact .refl y u
  · rename_i r w head
    obtain ⟨rest, -, -, -, rfl⟩ := State.takeHead_eq head
    have taken : y.Carried u (u.setCtl l { u.ctl l with inbound := rest }) := .setCtl fun _ _ _ => id
    split
    · exact (taken.trans (State.reply_carried _ l r _ y)).followed.answered
    · exact taken.then ((acts r _).then (State.reply_carried _ l r _ y).followed)

/-- A command of the supply monitor. -/
theorem Subject.Answered.powered {f : State → State} (acts : ∀ u : State, y.Answered u (f u))
    (next : whilePowered s f = .next t) : y.Answered s t := by
  unfold whilePowered at next
  split at next
  all_goals obtain rfl := Host.Outcome.next.inj next
  · exact .refl y s
  · exact acts s
  · exact (acts s).then ((f s).settle_carried y).followed

/-- A report of a supply level. -/
theorem Subject.Answered.supply {f : Supply → Supply} (keeps : ∀ u, (f u).state = u.state)
    (next : (whilePowered s fun u => u.setSupply (f u.supply)) = .next t) : y.Answered s t := by
  refine .powered (f := fun u => u.setSupply (f u.supply)) (fun u => .of_noticed ?_) next
  simp only [State.noticed, State.setSupply, keeps]
  rfl

/-- R196: the levels leave the supply state. -/
theorem Supply.fallBelow18_state (u : Supply) : u.fallBelow18.state = u.state := by
  unfold Supply.fallBelow18; split <;> rfl

theorem Supply.riseTo18_state (u : Supply) : u.riseTo18.state = u.state := by
  unfold Supply.riseTo18; split <;> rfl

theorem Supply.riseTo20_state (u : Supply) : u.riseTo20.state = u.state := by
  unfold Supply.riseTo20; split <;> rfl

theorem Supply.fallBelow20_state (u : Supply) : u.fallBelow20.state = u.state := by
  unfold Supply.fallBelow20; split <;> rfl

/-- The end of the settings load: the running part has none to end. -/
theorem Subject.Answered.loaded {found : Option Body} (next : whileLoading s found = .next t) : y.Answered s t :=
  fun running => by
    obtain rfl := Host.Outcome.next.inj next
    have left : ¬ s.phase = .loading := by rw [running]; decide
    rw [if_neg left]
    exact Answered.refl y s running

/-- A command whose answer is written out. -/
theorem Subject.Answered.same (next : (.next u : Host.Outcome State Fault Refusal) = .next t) (same : u.noticed = s.noticed) :
    y.Answered s t :=
  Host.Outcome.next.inj next ▸ .of_noticed same

/-- A timer of the vehicle state block. -/
theorem Subject.Answered.vehicleTimer {d : State → Timer} {g : State → Vehicle}
    (next : (whileRunning s fun u => if d u = none then u else u.takeVehicle (g u)) = .next t) : y.Answered s t := by
  refine .work (f := fun u => if d u = none then u else u.takeVehicle (g u)) (fun u => ?_) next
  split
  · exact .refl y u
  · exact u.takeVehicle_answered _ y

/-! ## The links' own commands -/

theorem State.canFrame_noticed (s : State) (l : Link) (ident : BitVec 11) (payload : List Byte) :
    (s.canFrame l ident payload).noticed = s.noticed := by
  unfold State.canFrame
  repeat' split
  all_goals rfl

theorem State.completeExchange_noticed (s : State) (half : List Byte) : (s.completeExchange half).noticed = s.noticed := by
  unfold State.completeExchange
  dsimp only
  repeat' split
  all_goals rfl

theorem State.answerUnknown_noticed (s : State) (l : Link) : (s.answerUnknown l).noticed = s.noticed := by
  unfold State.answerUnknown
  split
  · rfl
  · rename_i head
    obtain ⟨rest, -, -, -, rfl⟩ := State.takeHead_eq head
    rfl

/-! ## Output frames (R36, R94) -/

theorem State.startFrame_answered (s : State) (y : Subject) : y.Answered s s.startFrame := by
  have opened := s.openCameras_answered y
  unfold State.startFrame
  generalize s.openCameras = u at opened ⊢
  refine opened.then (Carried.of_eq ?_ ?_).followed
  all_goals rfl

theorem State.closedFrame_noticed (s : State) : s.countDownTable.closeFrame.noticed = s.noticed := by
  have rest := s.countDownTable_besideTable
  generalize s.countDownTable = u at rest ⊢
  exact (congrArg State.noticed rest :)

/-! ## Every command (R182) -/

/-- R1, R199: a record of a camera, of whatever form. -/
theorem exec_record_answered {i : Instr} {c : Camera} {packet : List Byte}
    (record : i = .frameStartRecord c packet ∨ i = .lineRecord c packet ∨ i = .blankingRecord c packet)
    (next : exec i s = .next t) : y.Answered s t := by
  rcases record with rfl | rfl | rfl
  · change execFrameStartRecord c packet s = .next t at next
    unfold execFrameStartRecord at next
    split at next
    · split at next
      · cases next
      · exact .work (fun u => (((u.wake_heard c).trans (State.frameStart_heard _ c _)).followed y).answered) next
    · exact .same next rfl
  · change execLineRecord c packet s = .next t at next
    unfold execLineRecord at next
    split at next
    · exact .work (fun u => (u.rowArrives_told c _).answered y) next
    · exact .same next rfl
  · change execBlankingRecord c packet s = .next t at next
    unfold execBlankingRecord at next
    split at next
    · exact .work (fun u => (u.rowArrives_told c _).answered y) next
    · exact .same next rfl

/-- A subject of whose face a command that is no reset changes something is told of. -/
theorem exec_answered {i : Instr} (next : exec i s = .next t) (running : t.phase = .running) (line : i ≠ .resetN)
    (request : ∀ l, i ≠ .reset l) : y.Answered s t := by
  cases i with
  | frameStartRecord c packet => exact exec_record_answered (.inl rfl) next
  | lineRecord c packet => exact exec_record_answered (.inr (.inl rfl)) next
  | blankingRecord c packet => exact exec_record_answered (.inr (.inr rfl)) next
  | silenceTimerExpiry c => exact .work (fun u => ((u.fallSilent_heard c).followed y).answered) next
  | returnTimerExpiry c =>
    exact .work (fun u => .ite _ (.refl y u) ((u.sendWord_heard c).followed y).answered) next
  | errorWindowEnd c => exact .work (fun u => ((u.windowEnd_heard c).followed y).answered) next
  | concealmentCopyFinish c =>
    exact .work (f := fun u => State.noteCamera c u (u.finishCopy c)) (fun u => (u.finishCopy_told c).answered y) next
  | stopTimerExpiry c => exact .quiet (f := fun u => u.setReg c (u.reg c).stopExpiry) (fun _ => rfl) next
  | outputFrameStart =>
    change execOutputFrameStart s = .next t at next
    unfold execOutputFrameStart at next
    split at next
    · exact .work (fun u => u.startFrame_answered y) next
    · exact .same next rfl
    · exact .same next rfl
  | outputFrameEnd =>
    change execOutputFrameEnd s = .next t at next
    unfold execOutputFrameEnd at next
    split at next
    · exact .quiet State.closedFrame_noticed next
    · exact .same next rfl
    · exact .same next rfl
  | objectPut l => exact .request (fun r u => RequestRow.objectAct_answered l r u y (row := .objectPut)) next
  | objectMove l => exact .request (fun r u => RequestRow.objectAct_answered l r u y (row := .objectMove)) next
  | objectStyle l => exact .request (fun r u => RequestRow.objectAct_answered l r u y (row := .objectStyle)) next
  | objectTextSetCursor l =>
    exact .request (fun r u => RequestRow.objectAct_answered l r u y (row := .objectTextSetCursor)) next
  | objectTextAppend l => exact .request (fun r u => RequestRow.objectAct_answered l r u y (row := .objectTextAppend)) next
  | objectRemove l => exact .request (fun r u => RequestRow.objectAct_answered l r u y (row := .objectRemove)) next
  | objectRemoveAll l | stripSet l => exact .request (fun _ _ => .of_noticed rfl) next
  | ownerSilenceTimerExpiry l => exact .work (fun u => u.ownerExpiry_answered l y) next
  | vehicleState l => exact .request (fun r u => actVehicleState_answered l r u y) next
  | bodyState l => exact .request (fun r u => actBodyState_answered l r u y) next
  | indicatorOffDelayExpiry =>
    exact .vehicleTimer (d := fun u => u.vehicle.offDelay) (g := fun u => u.vehicle.offDelayExpiry) next
  | chassisSilenceTimerExpiry =>
    exact .vehicleTimer (d := fun u => u.vehicle.chassisTimer) (g := fun u => u.vehicle.chassisFallback) next
  | bodySilenceTimerExpiry =>
    exact .vehicleTimer (d := fun u => u.vehicle.bodyTimer) (g := fun u => u.vehicle.bodyFallback) next
  | trackUpdate l => exact .request (fun r u => actTrackUpdate_answered l r u y) next
  | trackExpiry p =>
    exact .work (fun u => .ite _ (.refl y u) (u.setPlace_answered p none y)) next
  | trackDrop l => exact .request (fun r u => actTrackDrop_answered l r u y) next
  | holdTimerExpiry z => exact .work (fun u => (u.holdExpiry_monitored z).answered y) next
  | dwellPeriodEnd z => exact .work (fun u => (u.dwellEnd_monitored z).answered y) next
  | zoneAck l => exact .request (fun r u => actZoneAck_answered l r u y) next
  | segmentTimerExpiry => exact .quiet (f := fun u => { u with alert := u.alert.segmentExpiry u.body }) (fun _ => rfl) next
  | viewRequest l => exact .request (fun r u => actViewRequest_answered r u y) next
  | viewMaskSet l => exact .request (fun r u => actViewMaskSet_answered l r u y) next
  | viewMaskClear l => exact .request (fun r u => actViewMaskClear_answered l r u y) next
  | causeTimerExpiry i => exact .work (fun u => (u.causeExpiry_monitored i).answered y) next
  | showTimerExpiry => exact .work (fun u => u.showExpiry_monitored.answered y) next
  | canRequestFrame p ident payload => exact .quiet (fun u => u.canFrame_noticed p.link ident payload) next
  | spiExchangeStart =>
    change execSpiExchangeStart s = .next t at next
    unfold execSpiExchangeStart at next
    split at next
    · exact .quiet (f := fun u => u.onCtl .detector LinkCtl.startExchange) (fun _ => rfl) next
    · exact .same next rfl
    · exact .same next rfl
  | spiExchange half =>
    change execSpiExchange half s = .next t at next
    unfold execSpiExchange at next
    split at next
    · refine .quiet (fun u => ?_) next
      split
      · rfl
      · exact u.completeExchange_noticed half
    · exact .same next rfl
    · exact .same next rfl
  | spiExchangeCutShort =>
    change execSpiExchangeCutShort s = .next t at next
    unfold execSpiExchangeCutShort at next
    split at next
    · exact .quiet (f := State.cutExchange) (fun _ => rfl) next
    · exact .same next rfl
    · exact .same next rfl
  | canFrameAcknowledged p => exact .quiet (f := fun u => u.onCtl p.link LinkCtl.finishSending) (fun _ => rfl) next
  | canArbitrationLoss p | canBusError p =>
    exact .quiet (f := fun u => u.onCtl p.link LinkCtl.sendAgain) (fun _ => rfl) next
  | canBusOff p =>
    exact .quiet (f := fun u => u.onCtl p.link fun c => if c.busOff then c else c.enterBusOff) (fun _ => rfl) next
  | canBusOffRecovery p =>
    exact .quiet (f := fun u => u.onCtl p.link fun c => { c with busOff := false }) (fun _ => rfl) next
  | unknownKind l => exact .quiet (fun u => u.answerUnknown_noticed l) next
  | statusQuery l => exact .request (fun r u => actStatusQuery_answered l r u y) next
  | serviceEnter l => exact .request (fun r u => actServiceEnter_answered l r u y) next
  | serviceExit l => exact .request (fun r u => actServiceExit_answered l r u y) next
  | settingsWrite l => exact .request (fun r u => actSettingsWrite_answered l r u y) next
  | settingsRead l => exact .request (fun r u => actSettingsRead_answered r u y) next
  | settingsCommit l => exact .request (fun r u => actSettingsCommit_answered l r u y) next
  | commitWriteComplete => exact .work (fun u => u.endCommit_answered (f := SettingsBlock.complete) (fun _ => rfl) y) next
  | commitWriteFailed | commitLimitExpiry =>
    exact .work (fun u => u.endCommit_answered (f := SettingsBlock.fail) (fun _ => rfl) y) next
  | coldReset below =>
    obtain rfl := Host.Outcome.next.inj next
    cases running
  | settingsLoadEnd | settingsLoadLimitExpiry | settingsLoadNotAcknowledged => exact .loaded next
  | resetN => exact absurd rfl line
  | reset l => exact absurd rfl (request l)
  | supplyFallBelow18V => exact .supply Supply.fallBelow18_state next
  | supplyRiseTo18V => exact .supply Supply.riseTo18_state next
  | supplyRiseTo20V => exact .supply Supply.riseTo20_state next
  | supplyFallBelow20V => exact .supply Supply.fallBelow20_state next
  | dipTimerExpiry => exact .powered (fun u => u.dipExpiry_answered y) next
  | recoveryTimerExpiry => exact .powered (fun u => u.recoveryExpiry_answered y) next
  | supplyStop =>
    obtain rfl := Host.Outcome.next.inj next
    split at running
    · rename_i stopped
      rw [stopped] at running
      cases running
    · cases running
  | resetNRise => exact .same next rfl

end Sys2Proof.Machine
end

section
/-! The OBJECT notice of a lifetime that runs out (R100), and the order of a link's queue: O50. -/

namespace Sys2Proof.Machine

/-! ## Handles and slots (R78, R100) -/

section
variable {b : Body} {l : Link} {i : ObjSlot} {h : Nat}

/-- R78: an entry of a sector map names one of six sectors. -/
theorem Body.sectorEntry_lt {half sector : Nat} (entry : b.sectorEntry l half = some sector) : sector < 6 := by
  unfold Body.sectorEntry at entry
  dsimp only at entry
  split at entry
  · rename_i lt
    exact Option.some.inj entry ▸ lt
  · cases entry

/-- R78: a handle reaches the slot of its number in the sector that its half names. -/
theorem Body.resolve_iff : b.resolve l h = some i ↔ b.sectorEntry l (h / 16) = some (sectorOf i) ∧ i.val % 16 = h % 16 := by
  unfold Body.resolve sectorOf
  cases entry : b.sectorEntry l (h / 16) with
  | none => simp
  | some sector =>
    have lt := Body.sectorEntry_lt entry
    have place := i.isLt
    simp only [Option.some.injEq, Fin.ext_iff, Fin.ofNat]
    omega

/-- R100: the owner's handle reaches the slot. -/
theorem Body.resolve_of_handleOf (own : b.handleOf l i = some h) : b.resolve l h = some i := by
  rw [Body.resolve_iff]
  unfold Body.handleOf at own
  split at own
  · rename_i first
    have same : i.val % 16 = h := Option.some.inj own
    have half : h / 16 = 0 := by omega
    rw [half]
    exact ⟨first, by omega⟩
  · split at own
    · rename_i second
      have same : 16 + i.val % 16 = h := Option.some.inj own
      have half : h / 16 = 1 := by omega
      rw [half]
      exact ⟨second, by omega⟩
    · cases own

/-- R100: the owner's handle is the lowest that reaches the slot. -/
theorem Body.handleOf_of_lowest (le : h ≤ 31) (reaches : b.resolve l h = some i)
    (lowest : ∀ k < h, b.resolve l k ≠ some i) : b.handleOf l i = some h := by
  obtain ⟨entry, place⟩ := Body.resolve_iff.mp reaches
  unfold Body.handleOf
  rcases Nat.lt_or_ge h 16 with low | high
  · have half : h / 16 = 0 := by omega
    rw [half] at entry
    rw [if_pos entry]
    exact congrArg some (by omega)
  · have half : h / 16 = 1 := by omega
    rw [half] at entry
    have other : b.sectorEntry l 0 ≠ some (sectorOf i) := fun first => by
      have half : (h - 16) / 16 = 0 := by omega
      exact lowest (h - 16) (by omega) (Body.resolve_iff.mpr ⟨half.symm ▸ first, by omega⟩)
    rw [if_neg other, if_pos entry]
    exact congrArg some (by omega)

/-- R100: no other slot's OBJECT notice has the subject of the slot's. -/
theorem Body.handle_ne {j : ObjSlot} (le : h ≤ 31) (reaches : b.resolve l h = some i) (other : j ≠ i) :
    (b.handleOf l j).getD 255 ≠ h := by
  intro same
  cases own : b.handleOf l j with
  | none =>
    rw [own] at same
    have missing : 255 = h := same
    omega
  | some k =>
    rw [own] at same
    obtain rfl : k = h := same
    exact other (Option.some.inj ((Body.resolve_of_handleOf own).symm.trans reaches))

end

/-! ## The frame end (R94, R100) -/

section
variable {s : State} {i : ObjSlot} {o : ObjRecord} {h : Nat} {f : List Byte}

theorem expires_of_last (marked : o.marked = true) (last : o.lifetime = 1) : expires (some o) = true := by
  simp [expires, ObjRecord.counts, marked, last]

/-- R100: the notice of a slot that expires. -/
theorem State.endSlot_says (slot : s.slot i = some o) (marked : o.marked = true) (last : o.lifetime = 1)
    (wants : s.body.wantsNotice o.owner.ix.val 5 = true) (handle : s.body.handleOf o.owner i = some h) :
    ((s.endSlot i).ctl o.owner).Says .object h [byte i.val, 0] := by
  have ended : s.endSlot i = (s.setSlot i (countDown (some o))).noteExpiry i o.owner := by
    unfold State.endSlot
    dsimp only
    rw [slot, expires_of_last marked last]
  have wanted : (s.setSlot i (countDown (some o))).body.wantsNotice o.owner.ix.val NoticeKind.object.index = true := wants
  have own : (s.setSlot i (countDown (some o))).body.handleOf o.owner i = some h := handle
  rw [ended, State.noteExpiry, if_pos wanted, State.ctl_setCtl_self, own]
  exact LinkCtl.pushNotice_says _ _ _ _

/-- R100: an OBJECT notice of another subject leaves a link's. -/
theorem State.noteExpiry_stands {l m : Link} {j : ObjSlot} (queued : (s.ctl l).Says .object h f)
    (other : (s.body.handleOf l j).getD 255 ≠ h) : ((s.noteExpiry j m).ctl l).Says .object h f := by
  unfold State.noteExpiry
  split
  · by_cases own : l = m
    · subst own
      rw [State.ctl_setCtl_self]
      exact queued.pushNotice fun same => other (Prod.mk.inj same).2
    · rwa [State.ctl_setCtl_of_ne _ _ _ _ own]
  · exact queued

/-- R100: the end of another slot leaves the notice. -/
theorem State.endSlot_stands {l : Link} {j : ObjSlot} (queued : (s.ctl l).Says .object h f)
    (other : (s.body.handleOf l j).getD 255 ≠ h) : ((s.endSlot j).ctl l).Says .object h f := by
  unfold State.endSlot
  dsimp only
  split
  · exact State.noteExpiry_stands (s := s.setSlot j _) queued other
  · exact queued

theorem State.endSlot_body (s : State) (j : ObjSlot) : (s.endSlot j).body = s.body :=
  (congrArg State.body (s.endSlot_besideTable j) :)

/-- R94, R100: the ends of other slots leave the notice. -/
theorem State.foldl_endSlot_stands {l : Link} {q : List ObjSlot} (queued : (s.ctl l).Says .object h f)
    (others : ∀ j ∈ q, (s.body.handleOf l j).getD 255 ≠ h) : ((q.foldl State.endSlot s).ctl l).Says .object h f := by
  induction q generalizing s with
  | nil => exact queued
  | cons j q ih =>
    refine ih (State.endSlot_stands queued (others j List.mem_cons_self)) fun k within => ?_
    rw [State.endSlot_body]
    exact others k (List.mem_cons_of_mem j within)

/-- R100: the notice of a slot that expires stands at the frame end. -/
theorem State.countDownTable_says (slot : s.slot i = some o) (marked : o.marked = true) (last : o.lifetime = 1)
    (wants : s.body.wantsNotice o.owner.ix.val 5 = true) (le : h ≤ 31) (reaches : s.body.resolve o.owner h = some i)
    (lowest : ∀ k < h, s.body.resolve o.owner k ≠ some i) :
    (s.countDownTable.ctl o.owner).Says .object h [byte i.val, 0] := by
  obtain ⟨before, after, split⟩ := List.append_of_mem (List.mem_finRange i)
  have once := List.nodup_finRange 96
  rw [split] at once
  obtain ⟨onceBefore, onceAfter, apart⟩ := List.nodup_append.mp once
  have body : (before.foldl State.endSlot s).body = s.body := State.foldl_fixes _ State.body State.endSlot_body _ _
  have here : (before.foldl State.endSlot s).slot i = some o := by
    rw [State.foldl_endSlot_slot before onceBefore, if_neg fun within => apart i within i List.mem_cons_self rfl, slot]
  have queued := State.endSlot_says here marked last (body.symm ▸ wants)
    (body.symm ▸ Body.handleOf_of_lowest le reaches lowest)
  rw [State.countDownTable, split, List.foldl_append, List.foldl_cons]
  refine State.foldl_endSlot_stands queued fun j within => ?_
  rw [State.endSlot_body, body]
  exact Body.handle_ne le reaches fun same => (List.nodup_cons.mp onceAfter).1 (same ▸ within)

end

theorem State.closeFrame_ctl (s : State) (l : Link) : s.closeFrame.ctl l = s.ctl l := rfl

/-! ## The order of a queue (O50) -/

/-- R201: a notice message. -/
theorem noticeMsg_eq (k : NoticeKind) (n : Nat) (f : List Byte) :
    (noticeMsg k n f).kind =
        (match k with | .zone => 0x81 | .camera => 0x82 | .view => 0x83 | .supply => 0x84 | .settings => 0x85 | .object => 0x86) ∧
      (noticeMsg k n f).tag = 0 ∧ (noticeMsg k n f).fields = byte n :: f ∧ (noticeMsg k n f).notice = some (k, n) := by
  refine ⟨?_, rfl, rfl, rfl⟩
  cases k <;> rfl

/-- R182: a notice replaces, joins or is dropped. -/
theorem LinkCtl.pushNotice_order (c : LinkCtl) (m : OutMsg) :
    let Same := fun i : Nat => (c.outbound[i]?).any fun q => q.notice == m.notice
    (∀ i, Same i = true → (∀ j < i, Same j = false) →
      (c.pushNotice m).outbound = c.outbound.set i m ∧ (c.pushNotice m).flags = c.flags ∧
      (i = 0 → ∀ t, (c.pushNotice m).transit = some t → t.removesHead = false)) ∧
    ((∀ i, Same i = false) → c.outbound.length < 12 → c.pushNotice m = { c with outbound := c.outbound ++ [m] }) ∧
    ((∀ i, Same i = false) → 12 ≤ c.outbound.length →
      c.pushNotice m = { c with flags := { c.flags with noticesLost := true } }) := by
  refine ⟨fun i here before => ?_, fun none => LinkCtl.pushNotice_joins (findIdx?_of_none none),
    fun none => LinkCtl.pushNotice_lost (findIdx?_of_none none)⟩
  rw [LinkCtl.pushNotice_found (findIdx?_of_first here before)]
  refine ⟨rfl, ?_, ?_⟩
  · dsimp only
    split <;> rfl
  · rintro rfl t sending
    exact LinkCtl.detach_transit sending

/-- R181: a reply joins the tail, the oldest notice of a full queue making room. -/
theorem LinkCtl.pushReply_order (c : LinkCtl) (m : OutMsg) :
    (c.outbound.length < 12 → c.pushReply m = { c with outbound := c.outbound ++ [m] }) ∧
    ∀ i : Nat, 12 ≤ c.outbound.length → ((c.outbound[i]?).any fun q => q.notice.isSome) = true →
      (∀ j < i, ((c.outbound[j]?).any fun q => q.notice.isSome) = false) →
      (c.pushReply m).outbound = c.outbound.eraseIdx i ++ [m] ∧
      (c.pushReply m).flags = { c.flags with noticesLost := true } ∧
      (i = 0 → ∀ t, (c.pushReply m).transit = some t → t.removesHead = false) := by
  refine ⟨fun space => ?_, fun i full here before => ?_⟩
  · rw [LinkCtl.pushReply, LinkCtl.makeRoom_of_space space]
  · rw [LinkCtl.pushReply, LinkCtl.makeRoom_found full (findIdx?_of_first here before)]
    refine ⟨rfl, rfl, ?_⟩
    rintro rfl t sending
    exact LinkCtl.detach_transit sending

/-- Settles O50: the order of the queue is that of its operations; every command tells of each subject whose face it changes, as each
block raises its notice after its change and no later notice of another subject removes it. -/
theorem outboundQueueOrder : Obligations.OutboundQueueOrder := by
  refine ⟨⟨fun c m _ => c.pushNotice_order m, fun c m _ => c.pushReply_order m⟩,
    fun s k n fields l running => State.raise_pushes running k n fields l,
    fun i s t l running after next line request => ?_,
    fun s i o h running slot marked last wants le reaches lowest => ?_, noticeMsg_eq⟩
  · have told : ∀ x : Subject, x.face t ≠ x.face s → t.body.wantsNotice l.ix.val x.kind.index = true →
        (t.ctl l).Says x.kind x.number (x.fields t) := fun x changed =>
      (((exec_answered next after line request) running).2.resolve_left changed) l
    refine ⟨fun c changed => told (.camera c) changed, fun z changed => told (.zone z) changed, fun changed => told .view ?_,
      fun changed => told .supply changed, fun changed => told .settings ?_⟩
    · intro same
      obtain ⟨view, cause⟩ := Prod.mk.inj same
      exact changed.elim (· view) (· cause)
    · intro same
      rw [SettingsBlock.sameFace_iff.mpr same.symm] at changed
      cases changed
  · have queued := State.countDownTable_says slot marked last wants le reaches lowest
    rw [← State.closeFrame_ctl] at queued
    exact ⟨_, exec_outputFrameEnd running, queued.settle⟩

end Sys2Proof.Machine
end

section
/-! The state after a cold reset and a supply stop (R190, R194, R196, R197): O4, O56; what the blocks that have not started take (R25, R187,
R190, R197): O3; the supply monitor (R54, R56, R196): O59. -/

namespace Sys2Proof.Machine

/-! ## Right after a cold reset (O4) -/

section
variable (c : Camera) (l : Link)

theorem State.reset_recv : State.reset.recv c = Receiver.atReset := by
  simp [State.recv, State.reset]

theorem State.reset_pict : State.reset.pict c = Picture.atReset := by
  simp [State.pict, State.reset]

theorem Picture.atReset_slot (i : SlotIx) : Picture.atReset.slot i = PicSlot.atReset := by
  simp [Picture.slot, Picture.atReset]

theorem State.reset_ctl : State.reset.ctl l = LinkCtl.atReset := by
  simp [State.ctl, State.reset]

theorem ObjectTable.atReset_slot (i : ObjSlot) : ObjectTable.atReset.slots[i] = none := by
  simp [ObjectTable.atReset]

theorem ObjectTable.atReset_strips (i : Fin 3) : ObjectTable.atReset.lit[i] = 0 ∧ ObjectTable.atReset.blink[i] = 0 := by
  simp [ObjectTable.atReset]

end

/-- Settles O4: home by home. -/
theorem resetLeavesSpecValues : Obligations.ResetLeavesSpecValues := by
  refine ⟨rfl, rfl, fun c => ?_, fun c i => ?_, fun c => ?_, ObjectTable.atReset_slot, ObjectTable.atReset_strips,
    ⟨rfl, rfl, rfl, rfl, rfl⟩, fun l => ?_, ⟨rfl, rfl⟩, ⟨rfl, rfl, rfl⟩⟩
  · rw [State.reset_recv]
    exact ⟨rfl, rfl, rfl, rfl, rfl, rfl, rfl, rfl, rfl, rfl, rfl, rfl, rfl, rfl, rfl, rfl, rfl, rfl⟩
  · rw [State.reset_pict, Picture.atReset_slot]
    exact ⟨rfl, rfl⟩
  · rw [State.reset_pict]
    exact ⟨rfl, rfl, rfl⟩
  · rw [State.reset_ctl]
    exact ⟨rfl, rfl⟩

/-! ## Blocks that have not started (O3) -/

/-- R25: a packet of a camera link, whatever it holds, finds no receiver started. -/
theorem execFrameStartRecord_unstarted {s : State} (h : s.phase ≠ .running) (c : Camera) (packet : List Byte) :
    execFrameStartRecord c packet s = .next s := by
  unfold execFrameStartRecord
  split
  · rw [if_neg fun stuck => h stuck.1, whileRunning_not h]
  · rfl

theorem execLineRecord_unstarted {s : State} (h : s.phase ≠ .running) (c : Camera) (packet : List Byte) :
    execLineRecord c packet s = .next s := by
  unfold execLineRecord
  split
  · exact whileRunning_not h _
  · rfl

theorem execBlankingRecord_unstarted {s : State} (h : s.phase ≠ .running) (c : Camera) (packet : List Byte) :
    execBlankingRecord c packet s = .next s := by
  unfold execBlankingRecord
  split
  · exact whileRunning_not h _
  · rfl

/-- Settles O3: but for the records, each of these commands is a step of the running part. -/
theorem unstartedBlocksTakeNothing : Obligations.UnstartedBlocksTakeNothing := by
  intro i s idle only
  cases i with
  | frameStartRecord c packet => exact execFrameStartRecord_unstarted idle c packet
  | lineRecord c packet => exact execLineRecord_unstarted idle c packet
  | blankingRecord c packet => exact execBlankingRecord_unstarted idle c packet
  | outputFrameStart | outputFrameEnd | spiExchangeStart | spiExchange | spiExchangeCutShort | supplyFallBelow18V
  | supplyRiseTo18V | supplyFallBelow20V | supplyRiseTo20V | dipTimerExpiry | recoveryTimerExpiry | coldReset
  | settingsLoadEnd | settingsLoadLimitExpiry | settingsLoadNotAcknowledged | resetN | resetNRise | supplyStop => cases only
  | _ => exact congrArg Host.Outcome.next (if_neg idle)

/-! ## Power is lost (O56) -/

theorem SettingsBlock.survivingMemory_eq (b : SettingsBlock) :
    b.survivingMemory = if b.commit = none then b.memory else { b.memory with spoiled := true } := by
  unfold SettingsBlock.survivingMemory
  cases b.commit <;> rfl

/-- Settles O56: both are a loss of power; a cold reset then sets the dip timer by the supply, a stop leaves no load running. -/
theorem coldResetAndStopLoseEverything : Obligations.ColdResetAndStopLoseEverything := by
  intro s memory
  have survives : s.settings.survivingMemory = memory := s.settings.survivingMemory_eq
  refine ⟨fun low => ⟨s.coldStart low, rfl, rfl, rfl, survives, rfl, rfl, rfl, rfl⟩, fun powered => ?_⟩
  have stopped : exec .supplyStop s = .next s.stop := congrArg Host.Outcome.next (if_neg powered)
  exact ⟨s.stop, stopped, rfl, rfl, survives, rfl, rfl, rfl, rfl, rfl, rfl, fun _ => rfl, rfl, rfl, rfl⟩

/-! ## The supply monitor (O59) -/

/-- What the monitor raises, and what the links put up, is all that follows its work: in every phase but the stopped one. -/
theorem whilePowered_next {s : State} (powered : s.phase ≠ .stopped) (f : State → State) :
    ∃ t, whilePowered s f = .next t ∧ t.besideLinks = (f s).besideLinks := by
  unfold whilePowered
  cases phase : s.phase with
  | stopped => exact absurd phase powered
  | loading => exact ⟨_, rfl, rfl⟩
  | running => exact ⟨_, rfl, rfl⟩

/-- The links of a state in place of another's. -/
theorem State.withLinks_of_besideLinks {s t : State} (h : t.besideLinks = s.besideLinks) (links : Vector LinkCtl 3) :
    { t with links := links } = { s with links := links } :=
  (congrArg (fun u : State => { u with links := links }) h :)

/-- A threshold: the monitor alone changes. -/
theorem whilePowered_supply {s : State} (powered : s.phase ≠ .stopped) {f : Supply → Supply} {v : Supply}
    (sets : f s.supply = v) :
    ∃ t, (whilePowered s fun u => u.setSupply (f u.supply)) = .next t ∧
      ({ t with links := s.links, supply := s.supply } : State) = s ∧ t.supply = v := by
  subst sets
  obtain ⟨t, next, rest⟩ := whilePowered_next powered fun u => u.setSupply (f u.supply)
  have same := State.withLinks_of_besideLinks rest s.links
  exact ⟨t, next, (congrArg (fun u : State => { u with supply := s.supply }) same :), (congrArg State.supply rest :)⟩

section
variable (u : Supply)

theorem Supply.fallBelow18_eq : u.fallBelow18 =
    { u with dip := if u.state = .normal ∧ u.dip = none then some 20 else u.dip } := by
  unfold Supply.fallBelow18
  split <;> rfl

theorem Supply.riseTo18_eq : u.riseTo18 = { u with dip := if u.state = .normal then none else u.dip } := by
  unfold Supply.riseTo18
  split <;> rfl

theorem Supply.riseTo20_eq : u.riseTo20 =
    { u with recovery := if u.state = .crank ∧ u.recovery = none then some 200 else u.recovery } := by
  unfold Supply.riseTo20
  split <;> rfl

theorem Supply.fallBelow20_eq : u.fallBelow20 = { u with recovery := if u.state = .crank then none else u.recovery } := by
  unfold Supply.fallBelow20
  split <;> rfl

end

/-- R54, R196: the dip timer expires. -/
theorem State.dipExpiry_eq {s : State} (runs : s.supply.dip ≠ none) :
    s.dipExpiry.besideLinks = ({ s with
      supply := { state := .crank, dip := none, recovery := none }
      regulators := s.regulators.map Regulator.enterCrank } : State).besideLinks := by
  unfold State.dipExpiry
  rw [if_neg runs, State.besideLinks_noteSupply]
  rfl

/-- R56, R196: the recovery timer expires. -/
theorem State.recoveryExpiry_eq {s : State} (runs : s.supply.recovery ≠ none) :
    s.recoveryExpiry.besideLinks =
      ({ s with supply := { s.supply with state := .normal, recovery := none } } : State).besideLinks := by
  unfold State.recoveryExpiry
  rw [if_neg runs, State.besideLinks_noteSupply]
  rfl

/-- Settles O59: each threshold is a change of the monitor's timers, each expiry one of its state, with the notice. -/
theorem supplyMonitorFollowsTheThresholds : Obligations.SupplyMonitorFollowsTheThresholds := by
  intro s powered Only
  refine ⟨?_, ?_, ?_, ?_, fun runs => ?_, fun runs => ?_⟩
  · obtain ⟨t, next, only, supply⟩ := whilePowered_supply powered s.supply.fallBelow18_eq
    exact ⟨t, next, only, supply ▸ ⟨rfl, rfl, rfl⟩⟩
  · obtain ⟨t, next, only, supply⟩ := whilePowered_supply powered s.supply.riseTo18_eq
    exact ⟨t, next, only, supply ▸ ⟨rfl, rfl, rfl⟩⟩
  · obtain ⟨t, next, only, supply⟩ := whilePowered_supply powered s.supply.riseTo20_eq
    exact ⟨t, next, only, supply ▸ ⟨rfl, rfl, rfl⟩⟩
  · obtain ⟨t, next, only, supply⟩ := whilePowered_supply powered s.supply.fallBelow20_eq
    exact ⟨t, next, only, supply ▸ ⟨rfl, rfl, rfl⟩⟩
  · obtain ⟨t, next, rest⟩ := whilePowered_next powered State.dipExpiry
    rw [State.dipExpiry_eq runs] at rest
    have regulators : t.regulators = s.regulators.map Regulator.enterCrank := (congrArg State.regulators rest :)
    have same := State.withLinks_of_besideLinks rest s.links
    refine ⟨t, next, (congrArg State.supply rest :), fun c => ?_,
      (congrArg (fun u : State => { u with supply := s.supply, regulators := s.regulators }) same :)⟩
    simp only [State.reg, regulators, Fin.getElem_fin, Vector.getElem_map]
    rfl
  · obtain ⟨t, next, rest⟩ := whilePowered_next powered State.recoveryExpiry
    rw [State.recoveryExpiry_eq runs] at rest
    have supply : t.supply = { s.supply with state := .normal, recovery := none } := (congrArg State.supply rest :)
    have same := State.withLinks_of_besideLinks rest s.links
    refine ⟨t, next, ?_, ?_, ?_, (congrArg (fun u : State => { u with supply := s.supply }) same :)⟩
    all_goals rw [supply]

end Sys2Proof.Machine
end

section
/-! What the test of a body of settings asks (R188): item by item it is the rules of the chapters (R43, R62, R79, R104, R117, R133, R139,
R140, R166, R186). -/

namespace Sys2Proof.Machine

/-! ## Items that pass -/

/-- Every item keeps its rules. -/
def Passes (q : List Check) : Prop := ∀ k ∈ q, k.2 = true

section
variable {p q : List Check} {k : Check}

@[simp] theorem passes_nil : Passes [] := fun _ h => nomatch h

theorem passes_cons : Passes (k :: q) ↔ k.2 = true ∧ Passes q := List.forall_mem_cons

theorem passes_append : Passes (p ++ q) ↔ Passes p ∧ Passes q := List.forall_mem_append

theorem passes_flatMap {α : Type} {l : List α} {f : α → List Check} : Passes (l.flatMap f) ↔ ∀ x ∈ l, Passes (f x) := by
  simp only [Passes, List.mem_flatMap]
  exact ⟨fun h x hx k hk => h k ⟨x, hx, hk⟩, fun h k ⟨x, hx, hk⟩ => h x hx k hk⟩

theorem passes_finRange {n : Nat} {f : Fin n → List Check} : Passes ((List.finRange n).flatMap f) ↔ ∀ i, Passes (f i) := by
  simp [passes_flatMap]

theorem passes_map {α : Type} {l : List α} {f : α → Check} : Passes (l.map f) ↔ ∀ x ∈ l, (f x).2 = true := List.forall_mem_map

theorem passes_ite {P : Prop} [Decidable P] : Passes (if P then q else []) ↔ (P → Passes q) := by
  split
  · rename_i h; exact ⟨fun pass _ => pass, fun pass => pass h⟩
  · rename_i h; exact ⟨fun _ holds => absurd holds h, fun _ => passes_nil⟩

theorem passes_unless {P : Prop} [Decidable P] : Passes (if P then [] else q) ↔ (¬ P → Passes q) := by
  rw [← passes_ite, ite_not]

end

theorem within_iff {lo x hi : Int} : within lo x hi = true ↔ lo ≤ x ∧ x ≤ hi := by simp [within]

theorem inRange_iff {lo x hi : Nat} : inRange lo x hi = true ↔ lo ≤ x ∧ x ≤ hi := by simp [inRange]

theorem entryOk_iff {e : Nat} : entryOk e = true ↔ e < 6 ∨ e = 255 := by simp [entryOk]

/-- R204: a yes/no byte in its range is yes exactly at 1. -/
theorem Body.YesNo.yes {b : Body} {n off : Nat} (h : b.YesNo n off) : b.yes n off = true ↔ b.u8 n off = 1 := by
  unfold Body.YesNo at h
  simp only [Body.yes, decide_eq_true_eq]
  omega

section
variable {b : Body}

/-! ## Section 1 (R79, R104, R186) -/

theorem canIdChecks_pass {i : Nat} : Passes (canIdChecks b (6 * i)) ↔
    ∀ j, j < 3 → 0 ≤ b.canId i j ∧ b.canId i j ≤ 0x7FF ∧ ∀ k, k < j → b.canId i k ≠ b.canId i j := by
  simp only [canIdChecks, passes_cons, passes_nil, within_iff, Bool.and_eq_true, bne_iff_ne]
  constructor
  · rintro ⟨range0, ⟨range1, apart⟩, ⟨⟨range2, apart0⟩, apart1⟩, -⟩ j hj
    interval_cases j
    · exact ⟨range0.1, range0.2, fun k hk => absurd hk (Nat.not_lt_zero k)⟩
    · refine ⟨range1.1, range1.2, fun k hk => ?_⟩
      interval_cases k
      exact apart.symm
    · refine ⟨range2.1, range2.2, fun k hk => ?_⟩
      interval_cases k
      exacts [apart0.symm, apart1.symm]
  · intro h
    obtain ⟨low0, high0, -⟩ := h 0 (by decide)
    obtain ⟨low1, high1, apart1⟩ := h 1 (by decide)
    obtain ⟨low2, high2, apart2⟩ := h 2 (by decide)
    exact ⟨⟨low0, high0⟩, ⟨⟨low1, high1⟩, (apart1 0 (by decide)).symm⟩,
      ⟨⟨⟨low2, high2⟩, (apart2 0 (by decide)).symm⟩, (apart2 1 (by decide)).symm⟩, trivial⟩

theorem Body.sectorEntry_some {l : Link} {h s : Nat} :
    b.sectorEntry l h = some s ↔ b.u8 1 (22 + 2 * l.ix.val + h) < 6 ∧ b.u8 1 (22 + 2 * l.ix.val + h) = s := by
  simp [Body.sectorEntry]

theorem mapChecks_pass {l : Link} : Passes (mapChecks b l.ix.val) ↔
    (∀ h, h < 2 → b.u8 1 (22 + 2 * l.ix.val + h) < 6 ∨ b.u8 1 (22 + 2 * l.ix.val + h) = 255) ∧
      ∀ s, b.sectorEntry l 0 = some s → b.sectorEntry l 1 ≠ some s := by
  have second : 23 + 2 * l.ix.val = 22 + 2 * l.ix.val + 1 := by omega
  simp only [mapChecks, passes_cons, passes_nil, entryOk_iff, Bool.and_eq_true, Bool.or_eq_true, beq_iff_eq, bne_iff_ne, ne_eq,
    Body.sectorEntry_some, second, Nat.add_zero]
  constructor
  · rintro ⟨ok0, ⟨ok1, apart⟩, -⟩
    refine ⟨fun h hh => ?_, fun s first same => by omega⟩
    interval_cases h
    exacts [ok0, ok1]
  · rintro ⟨ok, differ⟩
    have ok1 := ok 1 (by decide)
    have apart := differ (b.u8 1 (22 + 2 * l.ix.val + 1))
    exact ⟨ok 0 (by decide), ⟨ok1, by omega⟩, trivial⟩

theorem Link.exists_ix {i : Nat} (h : i < 3) : ∃ l : Link, l.ix.val = i := by
  interval_cases i
  exacts [⟨.chassis, rfl⟩, ⟨.body, rfl⟩, ⟨.detector, rfl⟩]

theorem linkChecks_pass : Passes (linkChecks b) ↔ b.LinksKeep := by
  simp only [linkChecks, passes_append, passes_map, passes_flatMap, passes_cons, passes_nil, within_iff, inRange_iff, List.mem_range]
  constructor
  · rintro ⟨⟨⟨⟨chassis, body⟩, chassisLimit, bodyLimit, -⟩, owners⟩, maps⟩
    refine ⟨fun i j hi hj => ?_, ⟨chassisLimit, bodyLimit⟩, fun l => owners _ l.ix.isLt,
      fun l => (mapChecks_pass.mp (maps _ l.ix.isLt)).1, fun l => (mapChecks_pass.mp (maps _ l.ix.isLt)).2⟩
    interval_cases i
    · exact canIdChecks_pass.mp chassis j hj
    · exact canIdChecks_pass.mp body j hj
  · rintro ⟨idents, ⟨chassisLimit, bodyLimit⟩, owners, sectors, differ⟩
    refine ⟨⟨⟨⟨canIdChecks_pass.mpr fun j => idents 0 j (by decide), canIdChecks_pass.mpr fun j => idents 1 j (by decide)⟩,
      chassisLimit, bodyLimit, trivial⟩, fun i hi => ?_⟩, fun i hi => ?_⟩
    · obtain ⟨l, rfl⟩ := Link.exists_ix hi
      exact owners l
    · obtain ⟨l, rfl⟩ := Link.exists_ix hi
      exact mapChecks_pass.mpr ⟨sectors l, differ l⟩

/-! ## Section 2 (R43) -/

theorem cameraChecks_pass {c : Camera} : Passes (cameraChecks b c) ↔ b.CameraKeeps c := by
  simp only [cameraChecks, passes_cons, passes_nil, within_iff, inRange_iff, Bool.and_eq_true, decide_eq_true_eq, beq_iff_eq]
  constructor
  · rintro ⟨policy, top, ⟨⟨bottom, eighths⟩, above⟩, target, tolerance, up, down, -, ⟨ceiling, -⟩, ⟨-, floor, initial⟩, fitted,
      start, ⟨⟨five, -⟩, stop⟩, on, off, -⟩
    exact ⟨policy, top, ⟨bottom, eighths, above⟩, target, ⟨Nat.zero_le _, tolerance⟩, ⟨up, down⟩, ⟨floor, initial, ceiling⟩, fitted,
      ⟨start, five, stop⟩, on, off⟩
  · rintro ⟨policy, top, ⟨bottom, eighths, above⟩, target, tolerance, ⟨up, down⟩, ⟨floor, initial, ceiling⟩, fitted,
      ⟨start, five, stop⟩, on, off⟩
    exact ⟨policy, top, ⟨⟨bottom, eighths⟩, above⟩, target, tolerance.2, up, down, (floor.trans initial).trans ceiling,
      ⟨ceiling, floor.trans initial⟩, ⟨initial.trans ceiling, floor, initial⟩, fitted, start, ⟨⟨five, stop.trans start.2⟩, stop⟩,
      on, off, trivial⟩

/-! ## Section 3 (R62) -/

/-- Table 4-2: a rung's fields in the section. -/
theorem Body.calibration_rung (c : Camera) {k : Nat} (h : k < 9) :
    (b.calibration c).rung k =
      { depth := b.s16 3 (80 * c.val + 8 + 8 * k), row := b.s16 3 (80 * c.val + 10 + 8 * k)
        centre := b.s16 3 (80 * c.val + 12 + 8 * k), scale := b.s16 3 (80 * c.val + 14 + 8 * k) } := by
  simp [Calibration.rung, Body.calibration, h]

theorem rungChecks_pass {c : Camera} {k : Nat} (h : k < 9) : Passes (rungChecks b (80 * c.val) k) ↔
    let g := (b.calibration c).rung k
    (0 ≤ g.depth ∧ g.depth ≤ 2000) ∧ (0 ≤ g.row ∧ g.row ≤ 479) ∧ (0 ≤ g.centre ∧ g.centre ≤ 799) ∧
      (0 ≤ g.scale ∧ g.scale ≤ 1000) ∧ (k ≠ 0 → ((b.calibration c).rung (k - 1)).depth < g.depth) := by
  have before : k = 0 ∨ 80 * c.val + 8 + 8 * k - 8 = 80 * c.val + 8 + 8 * (k - 1) := by omega
  have rises : (k = 0 ∨ b.s16 3 (80 * c.val + 8 + 8 * k - 8) < b.s16 3 (80 * c.val + 8 + 8 * k)) ↔
      (k ≠ 0 → b.s16 3 (80 * c.val + 8 + 8 * (k - 1)) < b.s16 3 (80 * c.val + 8 + 8 * k)) := by
    rcases before with first | place
    · simp [first]
    · rw [place, or_iff_not_imp_left]
  have places : 80 * c.val + 8 + 8 * k + 2 = 80 * c.val + 10 + 8 * k ∧ 80 * c.val + 8 + 8 * k + 4 = 80 * c.val + 12 + 8 * k ∧
      80 * c.val + 8 + 8 * k + 6 = 80 * c.val + 14 + 8 * k := by omega
  rw [Body.calibration_rung c h, Body.calibration_rung c (show k - 1 < 9 by omega)]
  simp only [rungChecks, passes_cons, passes_nil, within_iff, Bool.and_eq_true, Bool.or_eq_true, beq_iff_eq, decide_eq_true_eq,
    places]
  constructor
  · rintro ⟨⟨depth, up⟩, row, centre, scale, -⟩
    exact ⟨depth, row, centre, scale, rises.mp up⟩
  · rintro ⟨depth, row, centre, scale, up⟩
    exact ⟨⟨depth, rises.mpr up⟩, row, centre, scale, trivial⟩

theorem calibrationChecks_pass {c : Camera} : Passes (calibrationChecks b c) ↔ b.CalibrationKeeps c := by
  simp only [calibrationChecks, passes_cons, passes_ite, passes_append, passes_flatMap, passes_nil, within_iff,
    decide_eq_true_eq, List.mem_range]
  constructor
  · rintro ⟨calibrated, rest⟩
    refine ⟨calibrated, fun yes => ?_, fun yes => ?_, fun yes => ?_, fun yes k hk => ?_⟩
    all_goals obtain ⟨⟨axis, x, y, sign, across, -⟩, rungs⟩ := rest yes
    exacts [axis, ⟨x, y⟩, ⟨sign, across⟩, (rungChecks_pass hk).mp (rungs k hk)]
  · rintro ⟨calibrated, axis, origin, signs, rungs⟩
    exact ⟨calibrated, fun yes => ⟨⟨axis yes, (origin yes).1, (origin yes).2, (signs yes).1, (signs yes).2, trivial⟩,
      fun k hk => (rungChecks_pass hk).mpr (rungs yes k hk)⟩⟩

/-! ## Section 4 (R117) -/

theorem zoneChecks_pass {z : Zone} : Passes (zoneChecks b z) ↔ b.ZoneKeeps z := by
  simp only [zoneChecks, passes_cons, passes_nil, within_iff, Bool.and_eq_true, Bool.or_eq_true, decide_eq_true_eq, beq_iff_eq]
  have view : (b.u8 4 (25 * z.val + 21) ≤ 7 ∨ b.u8 4 (25 * z.val + 21) = 255) ↔
      ∀ v, (b.zone z).preferredView = some v → v ≤ 7 := by
    by_cases none : b.u8 4 (25 * z.val + 21) = 255 <;> simp [Body.zone, none]
  rw [view]
  constructor
  · rintro ⟨enabled, xMin, ⟨xMax, columns⟩, yMin, ⟨yMax, rows⟩, dwell, hold, chime, view, clear, caution, warning, -⟩
    exact ⟨enabled, ⟨xMin.1, columns, xMax.2⟩, ⟨yMin.1, rows, yMax.2⟩, dwell, hold, chime, view, clear, caution, warning⟩
  · rintro ⟨enabled, ⟨left, columns, right⟩, ⟨near, rows, far⟩, dwell, hold, chime, view, clear, caution, warning⟩
    exact ⟨enabled, ⟨left, columns.trans right⟩, ⟨⟨left.trans columns, right⟩, columns⟩, ⟨near, rows.trans far⟩,
      ⟨⟨near.trans rows, far⟩, rows⟩, dwell, hold, chime, view, clear, caution, warning, trivial⟩

/-! ## Section 5 (R139) -/

/-- R139: a pane shares no pixel with an earlier one. -/
theorem panesApart_iff {v k : Nat} : ((List.range k).all fun j => !panesOverlap (b.pane v j) (b.pane v k)) = true ↔
    ∀ j, j < k → ∀ q : Px, ¬ ((b.pane v j).holds q = true ∧ (b.pane v k).holds q = true) := by
  simp only [List.all_eq_true, List.mem_range, Bool.not_eq_true', ← Bool.not_eq_true, panesOverlap_iff, not_exists]

theorem paneChecks_pass {v k : Nat} : Passes (paneChecks b v k) ↔ b.PaneKeeps v k := by
  simp only [paneChecks, passes_cons, passes_nil, within_iff, Bool.and_eq_true, decide_eq_true_eq, panesApart_iff]
  have place : 44 * v + 3 + 14 * k = 44 * v + 2 + 14 * k + 1 := by omega
  have taken : ∀ (half : Bool) (x w : Int), (if half then x + 2 * w else x + w) = x + if half then 2 * w else w := fun half x w => by
    cases half <;> rfl
  simp only [taken]
  constructor
  · rintro ⟨⟨camera, alone⟩, mode, cx, cy, px, py, ⟨⟨w, right⟩, cols⟩, ⟨⟨h, bottom⟩, rows⟩, -⟩
    exact ⟨⟨Nat.zero_le _, camera⟩, place ▸ mode, ⟨cx, cy⟩, ⟨px, py⟩, ⟨⟨w.1, w.2, right⟩, h.1, h.2, bottom⟩, ⟨cols, rows⟩, alone⟩
  · rintro ⟨camera, mode, ⟨cx, cy⟩, ⟨px, py⟩, ⟨⟨w1, w2, right⟩, h1, h2, bottom⟩, ⟨cols, rows⟩, alone⟩
    exact ⟨⟨camera.2, alone⟩, place ▸ mode, cx, cy, px, py, ⟨⟨⟨w1, w2⟩, right⟩, cols⟩, ⟨⟨⟨h1, h2⟩, bottom⟩, rows⟩, trivial⟩

theorem viewChecks_pass {v : Nat} : Passes (viewChecks b v) ↔ b.ViewKeeps v := by
  simp only [viewChecks, passes_cons, passes_ite, passes_flatMap, inRange_iff, decide_eq_true_eq, List.mem_range, paneChecks_pass]
  constructor
  · rintro ⟨yesNo, rest⟩
    have yes : b.viewDefined v = true ↔ b.u8 5 (44 * v) = 1 := Body.YesNo.yes yesNo
    refine ⟨yesNo, fun shown => (rest (yes.mp shown)).1, fun shown k hk => ?_⟩
    obtain ⟨count, panes⟩ := rest (yes.mp shown)
    exact panes k (by omega)
  · rintro ⟨yesNo, count, panes⟩
    have yes : b.viewDefined v = true ↔ b.u8 5 (44 * v) = 1 := Body.YesNo.yes yesNo
    exact ⟨yesNo, fun shown => ⟨count (yes.mpr shown), fun k hk => panes (yes.mpr shown) k (by omega)⟩⟩

/-! ## Section 6 (R140) -/

theorem CauseSource.isLatched_iff {c : CauseSource} : c.isLatched = true ↔ c = .zoneWarning ∨ c = .linkRequest := by
  cases c <;> simp [CauseSource.isLatched]

/-- R140: the class that a cause asks for is its source's. -/
theorem Body.cause_class {i : Cause} (cls : b.YesNo 6 (13 * i.val + 5)) :
    ((b.cause i).source.isLatched == (b.u8 6 (13 * i.val + 5) == 1)) = true ↔
      ((b.cause i).latched = true ↔ (b.cause i).source = .zoneWarning ∨ (b.cause i).source = .linkRequest) := by
  have latched : (b.cause i).latched = true ↔ b.u8 6 (13 * i.val + 5) = 1 := Body.YesNo.yes cls
  rw [latched, ← CauseSource.isLatched_iff, beq_iff_eq, Bool.eq_iff_iff, beq_iff_eq]
  exact iff_comm

theorem causeChecks_pass {i : Cause} : Passes (causeChecks b i) ↔ b.CauseKeeps i := by
  simp only [causeChecks, passes_cons, passes_ite, passes_append, passes_nil, within_iff, decide_eq_true_eq, Bool.and_eq_true,
    Bool.or_eq_true]
  constructor
  · rintro ⟨yesNo, rest⟩
    have yes : (b.cause i).enabled = true ↔ b.u8 6 (13 * i.val) = 1 := Body.YesNo.yes yesNo
    refine ⟨yesNo, fun on => ?_, fun on => ?_, fun on => ?_, fun on => ?_, fun on => ?_, fun on => ?_, fun on latched => ?_⟩
    all_goals obtain ⟨⟨source, view, priority, ⟨cls, agrees⟩, urgent, speed, -⟩, times⟩ := rest (yes.mp on)
    · exact ⟨Nat.zero_le _, source⟩
    · exact view
    · exact priority
    · exact ⟨cls, (Body.cause_class cls).mp (agrees.resolve_left (by omega))⟩
    · exact urgent
    · exact speed
    · obtain ⟨serve, pending, -⟩ := times ((Body.YesNo.yes cls).mp latched)
      exact ⟨serve, pending⟩
  · rintro ⟨yesNo, source, view, priority, cls, urgent, speed, times⟩
    have yes : (b.cause i).enabled = true ↔ b.u8 6 (13 * i.val) = 1 := Body.YesNo.yes yesNo
    refine ⟨yesNo, fun is => ?_⟩
    have on := yes.mpr is
    obtain ⟨cls, agrees⟩ := cls on
    refine ⟨⟨(source on).2, view on, priority on, ⟨cls, .inr ((Body.cause_class cls).mpr agrees)⟩, urgent on, speed on, trivial⟩,
      fun one => ?_⟩
    obtain ⟨serve, pending⟩ := times on ((Body.YesNo.yes cls).mpr one)
    exact ⟨serve, pending, trivial⟩

/-! ## Section 7 (R133, R166) -/

theorem stripChecks_pass {p : Nat} : Passes (stripChecks b p) ↔ b.StripKeeps p := by
  simp only [stripChecks, passes_cons, passes_unless, passes_nil, decide_eq_true_eq]
  have target : (if (b.strip p).kind = 2 ∨ (b.strip p).kind = 3 then (b.strip p).target ≤ 7 || (b.strip p).target == 255
      else if (b.strip p).kind = 4 then (b.strip p).target ≤ 3 || (b.strip p).target == 255 else true) = true ↔
      ((b.strip p).kind = 2 ∨ (b.strip p).kind = 3 → (b.strip p).target ≤ 7 ∨ (b.strip p).target = 255) ∧
        ((b.strip p).kind = 4 → (b.strip p).target ≤ 3 ∨ (b.strip p).target = 255) := by
    by_cases zone : (b.strip p).kind = 2 ∨ (b.strip p).kind = 3
    · have apart : (b.strip p).kind ≠ 4 := by omega
      simp [zone, apart]
    · simp [zone, imp_iff_not_or]
  rw [target]
  constructor
  · rintro ⟨kind, rest⟩
    exact ⟨kind, fun some => ⟨(rest some).1, (rest some).2.1⟩, fun zone => (rest (by omega)).2.2.1.1 zone,
      fun camera => (rest (by omega)).2.2.1.2 camera⟩
  · rintro ⟨kind, icon, zone, camera⟩
    exact ⟨kind, fun some => ⟨(icon some).1, (icon some).2, ⟨zone, camera⟩, trivial⟩⟩

theorem appearanceChecks_pass : Passes (appearanceChecks b) ↔ b.SectionKeeps 7 := by
  simp only [appearanceChecks, passes_append, passes_map, passes_flatMap, passes_cons, passes_nil, inRange_iff, decide_eq_true_eq,
    List.mem_range, stripChecks_pass, and_true, Body.SectionKeeps, and_assoc]

/-! ## Every section -/

/-- R188: the test of a section asks what its chapter asks. -/
theorem sectionChecks_pass {n : Nat} (low : 1 ≤ n) (high : n ≤ 8) : Passes (sectionChecks b n) ↔ b.SectionKeeps n := by
  interval_cases n
  · exact linkChecks_pass
  · simp only [sectionChecks, passes_finRange, cameraChecks_pass]
    rfl
  · simp only [sectionChecks, passes_finRange, calibrationChecks_pass]
    rfl
  · simp only [sectionChecks, passes_append, passes_finRange, zoneChecks_pass, passes_cons, passes_nil, decide_eq_true_eq, and_true]
    rfl
  · simp only [sectionChecks, passes_flatMap, List.mem_range, viewChecks_pass]
    rfl
  · simp only [sectionChecks, passes_append, passes_finRange, causeChecks_pass, causeTailChecks, passes_cons, passes_nil,
      decide_eq_true_eq, Bool.and_eq_true, and_true]
    rfl
  · exact appearanceChecks_pass
  · simp only [sectionChecks, conditionChecks, passes_cons, passes_nil, inRange_iff, decide_eq_true_eq, and_true]
    rfl

end

end Sys2Proof.Machine
end

section
/-! The items of a section stand in the order of their places, so that the failure named is that of least offset (R188, log 23); a body
survives its record (R203): O14. -/

namespace Sys2Proof.Machine

/-! ## Items in the order of their places -/

/-- The places of the items rise, from lo on and below hi. -/
def InOrder (hi : Nat) : Nat → List Check → Prop
  | _, [] => True
  | lo, k :: q => lo ≤ k.1 ∧ k.1 < hi ∧ InOrder hi (k.1 + 1) q

section
variable {lo mid hi : Nat} {p q : List Check}

theorem InOrder.weaken {lo' hi' : Nat} (h : InOrder hi lo q) (low : lo' ≤ lo) (high : hi ≤ hi') : InOrder hi' lo' q := by
  induction q generalizing lo lo' with
  | nil => trivial
  | cons k q ih => exact ⟨low.trans h.1, h.2.1.trans_le high, ih h.2.2 le_rfl⟩

theorem InOrder.append (low : lo ≤ mid) (high : mid ≤ hi) (first : InOrder mid lo p) (then_ : InOrder hi mid q) :
    InOrder hi lo (p ++ q) := by
  induction p generalizing lo with
  | nil => exact then_.weaken low le_rfl
  | cons k p ih => exact ⟨first.1, first.2.1.trans_le high, ih first.2.1 first.2.2⟩

theorem InOrder.ite {P : Prop} [Decidable P] (h : P → InOrder hi lo q) : InOrder hi lo (if P then q else []) := by
  split
  · exact h ‹P›
  · trivial

/-- Blocks of w places each, block after block. -/
theorem InOrder.flatMap {α : Type} {l : List α} {f : α → List Check} {place : α → Nat} {a n w : Nat}
    (places : l.map place = List.range' a n)
    (blocks : ∀ x ∈ l, InOrder (lo + w * (place x + 1)) (lo + w * place x) (f x)) :
    InOrder (lo + w * (a + n)) (lo + w * a) (l.flatMap f) := by
  induction l generalizing a n with
  | nil => trivial
  | cons x l ih =>
    cases n with
    | zero => cases places
    | succ n =>
      obtain ⟨here, places⟩ := List.cons.inj (places.trans List.range'_succ)
      have block := blocks x List.mem_cons_self
      have rest := ih places fun y hy => blocks y (List.mem_cons_of_mem x hy)
      have next : a + 1 + n = a + (n + 1) := by omega
      rw [here] at block
      rw [next] at rest
      exact block.append (Nat.add_le_add_left (Nat.mul_le_mul_left w (by omega)) lo)
        (Nat.add_le_add_left (Nat.mul_le_mul_left w (by omega)) lo) rest

theorem InOrder.range {n w : Nat} {f : Nat → List Check} (blocks : ∀ i, i < n → InOrder (lo + w * (i + 1)) (lo + w * i) (f i)) :
    InOrder (lo + w * n) lo ((List.range n).flatMap f) := by
  have all := InOrder.flatMap (lo := lo) (w := w) (place := id) (l := List.range n) (f := f) (a := 0) (n := n)
    (by rw [List.map_id, List.range_eq_range']) fun i hi => blocks i (List.mem_range.mp hi)
  simpa using all

theorem InOrder.finRange {n w : Nat} {f : Fin n → List Check} (blocks : ∀ i, InOrder (lo + w * (i.val + 1)) (lo + w * i.val) (f i)) :
    InOrder (lo + w * n) lo ((List.finRange n).flatMap f) := by
  have all := InOrder.flatMap (lo := lo) (w := w) (place := Fin.val) (l := List.finRange n) (f := f) (a := 0) (n := n)
    (by rw [List.map_coe_finRange_eq_range, List.range_eq_range']) fun i _ => blocks i
  simpa using all

/-- One item at each place, or at every w-th. -/
theorem InOrder.rangeMap {n w : Nat} {f : Nat → Check} (items : ∀ i, i < n → lo + w * i ≤ (f i).1 ∧ (f i).1 < lo + w * (i + 1)) :
    InOrder (lo + w * n) lo ((List.range n).map f) := by
  rw [List.map_eq_flatMap]
  exact InOrder.range fun i hi => ⟨(items i hi).1, (items i hi).2, trivial⟩

theorem InOrder.bounds (h : InOrder hi lo q) : ∀ k ∈ q, lo ≤ k.1 ∧ k.1 < hi := by
  induction q generalizing lo with
  | nil => exact fun k hk => nomatch hk
  | cons a q ih =>
    intro k hk
    rcases List.mem_cons.mp hk with rfl | hk
    · exact ⟨h.1, h.2.1⟩
    · have later := ih h.2.2 k hk
      exact ⟨by have := h.1; omega, later.2⟩

/-- The first item with a property has the least place. -/
theorem InOrder.find_least (h : InOrder hi lo q) {P : Check → Bool} {a : Check} (found : q.find? P = some a) :
    ∀ k ∈ q, P k = true → a.1 ≤ k.1 := by
  induction q generalizing lo with
  | nil => cases found
  | cons c q ih =>
    intro k hk holds
    rw [List.find?_cons] at found
    split at found
    · obtain rfl := Option.some.inj found
      rcases List.mem_cons.mp hk with rfl | hk
      · exact le_rfl
      · exact Nat.le_of_succ_le (h.2.2.bounds k hk).1
    · rename_i fails
      rcases List.mem_cons.mp hk with rfl | hk
      · rw [fails] at holds; cases holds
      · exact ih h.2.2 found k hk holds

end

/-! ## The sections -/

section
variable (b : Body)

theorem linkChecks_inOrder : InOrder 28 0 (linkChecks b) := by
  have idents : ∀ o, InOrder (o + 6) o (canIdChecks b o) := fun o => by simp [canIdChecks, InOrder]
  have limits : ∀ p q : Bool, InOrder 16 12 [(12, p), (14, q)] := fun p q => by simp [InOrder]
  have owners : InOrder (16 + 1 * 3) 16 ((List.range 3).map fun i => (16 + i, inRange 1 (b.u8 1 (16 + i)) 30)) :=
    .rangeMap fun i _ => by dsimp only; omega
  have maps : InOrder (22 + 2 * 3) 22 ((List.range 3).flatMap (mapChecks b)) :=
    .range fun i _ => by simp only [mapChecks, InOrder, and_true]; omega
  exact ((((idents 0).append (by decide) (by decide) (idents 6)).append (by decide) (by decide) (limits _ _)).append (by decide)
    (by decide) owners).append (by decide) (by decide) (maps.weaken (by decide) (by decide))

theorem cameraChecks_inOrder (c : Camera) : InOrder (19 * (c.val + 1)) (19 * c.val) (cameraChecks b c) := by
  simp only [cameraChecks, InOrder, and_true]
  omega

theorem rungChecks_inOrder (o k : Nat) : InOrder (o + 8 + 8 * (k + 1)) (o + 8 + 8 * k) (rungChecks b o k) := by
  simp only [rungChecks, InOrder, and_true]
  omega

theorem calibrationChecks_inOrder (c : Camera) : InOrder (80 * (c.val + 1)) (80 * c.val) (calibrationChecks b c) := by
  have rungs : InOrder (80 * c.val + 8 + 8 * 9) (80 * c.val + 8) ((List.range 9).flatMap (rungChecks b (80 * c.val))) :=
    .range fun k _ => rungChecks_inOrder b _ k
  refine ⟨le_rfl, by dsimp only; omega, .ite fun _ => ?_⟩
  refine InOrder.append (mid := 80 * c.val + 8) (by dsimp only; omega) (by omega) ?_ (rungs.weaken le_rfl (by omega))
  simp only [InOrder, and_true]
  omega

theorem zoneChecks_inOrder (z : Zone) : InOrder (25 * (z.val + 1)) (25 * z.val) (zoneChecks b z) := by
  simp only [zoneChecks, InOrder, and_true]
  omega

theorem paneChecks_inOrder (v k : Nat) : InOrder (44 * v + 2 + 14 * (k + 1)) (44 * v + 2 + 14 * k) (paneChecks b v k) := by
  simp only [paneChecks, InOrder, and_true]
  omega

theorem viewChecks_inOrder (v : Nat) : InOrder (44 * (v + 1)) (44 * v) (viewChecks b v) := by
  have panes : InOrder (44 * v + 2 + 14 * min 3 (b.u8 5 (44 * v + 1))) (44 * v + 2)
      ((List.range (min 3 (b.u8 5 (44 * v + 1)))).flatMap (paneChecks b v)) :=
    .range fun k _ => paneChecks_inOrder b v k
  exact ⟨le_rfl, by dsimp only; omega, .ite fun _ => ⟨le_rfl, by dsimp only; omega, panes.weaken le_rfl (by omega)⟩⟩

theorem causeChecks_inOrder (i : Cause) : InOrder (13 * (i.val + 1)) (13 * i.val) (causeChecks b i) := by
  refine ⟨le_rfl, by dsimp only; omega, .ite fun _ => ?_⟩
  refine InOrder.append (mid := 13 * i.val + 9) (by dsimp only; omega) (by omega) ?_ (.ite fun _ => ?_)
  all_goals
    simp only [InOrder, and_true]
    omega

theorem stripChecks_inOrder (p : Nat) : InOrder (64 + 4 * (p + 1)) (64 + 4 * p) (stripChecks b p) := by
  unfold stripChecks
  dsimp only
  split
  all_goals
    simp only [InOrder, and_true]
    omega

theorem appearanceChecks_inOrder : InOrder 197 0 (appearanceChecks b) := by
  have palette : InOrder (0 + 4 * 16) 0 ((List.range 16).map fun e => (4 * e + 3, decide (b.paletteAlpha e ≤ 16))) :=
    .rangeMap fun e _ => by dsimp only; omega
  have strips : InOrder (64 + 4 * 32) 64 ((List.range 32).flatMap (stripChecks b)) := .range fun p _ => stripChecks_inOrder b p
  have volume : InOrder 193 192 [(192, inRange 5 b.chimeVolume 50)] := by simp [InOrder]
  have markers : InOrder (193 + 1 * 4) 193 ((List.range 4).map fun i => (193 + i, decide (b.markerColour i ≤ 15))) :=
    .rangeMap fun i _ => by dsimp only; omega
  exact ((palette.append (by decide) (by decide) strips).append (by decide) (by decide) volume).append (by decide) (by decide) markers

/-- R188, log 23: the items of a section stand in the order of their places, within the section. -/
theorem sectionChecks_inOrder {n : Nat} (low : 1 ≤ n) (high : n ≤ 8) : InOrder (sectionLength n) 0 (sectionChecks b n) := by
  interval_cases n
  · exact linkChecks_inOrder b
  · exact InOrder.finRange (lo := 0) (w := 19) fun c => by simpa using cameraChecks_inOrder b c
  · exact InOrder.finRange (lo := 0) (w := 80) fun c => by simpa using calibrationChecks_inOrder b c
  · have zones : InOrder (0 + 25 * 8) 0 ((List.finRange 8).flatMap (zoneChecks b)) :=
      .finRange fun z => by simpa using zoneChecks_inOrder b z
    exact zones.append (by decide) (by decide) (by simp [InOrder, sectionLength])
  · exact InOrder.range (lo := 0) (n := 8) (w := 44) fun v _ => by simpa using viewChecks_inOrder b v
  · have causes : InOrder (0 + 13 * 12) 0 ((List.finRange 12).flatMap (causeChecks b)) :=
      .finRange fun i => by simpa using causeChecks_inOrder b i
    exact causes.append (by decide) (by decide) (by simp [InOrder, causeTailChecks, sectionLength])
  · exact appearanceChecks_inOrder b
  · simp [sectionChecks, conditionChecks, InOrder, sectionLength]

end

/-! ## The failure named (O14) -/

section
variable {b : Body}

theorem sectionFailure_none_iff {n : Nat} (low : 1 ≤ n) (high : n ≤ 8) : sectionFailure b n = none ↔ b.SectionKeeps n :=
  sectionFailure_none.trans (sectionChecks_pass low high)

/-- R188: a body passes where every section keeps its rules. -/
theorem Body.firstFailure_none_iff : b.firstFailure = none ↔ ∀ n, 1 ≤ n → n ≤ 8 → b.SectionKeeps n := by
  rw [Body.firstFailure_none]
  exact forall_congr' fun n => forall_congr' fun low => forall_congr' fun high => sectionFailure_none_iff low high

/-- The first of a range of numbers that gives something. -/
theorem findSome?_range' {α : Type} {f : Nat → Option α} {y : α} {a n : Nat} :
    (List.range' a n).findSome? f = some y ↔ ∃ k, a ≤ k ∧ k < a + n ∧ (∀ m, a ≤ m → m < k → f m = none) ∧ f k = some y := by
  induction n generalizing a with
  | zero => exact ⟨fun h => (nomatch h), fun ⟨k, low, high, _⟩ => absurd low (by omega)⟩
  | succ n ih =>
    rw [List.range'_succ, List.findSome?_cons]
    cases first : f a with
    | some z =>
      refine ⟨fun same => ⟨a, le_rfl, by omega, fun m low high => absurd low (by omega), first.trans same⟩,
        fun ⟨k, low, _, before, here⟩ => ?_⟩
      rcases Nat.eq_or_lt_of_le low with rfl | later
      · exact first.symm.trans here
      · exact nomatch (before a le_rfl later).symm.trans first
    | none =>
      refine ih.trans ⟨fun ⟨k, low, high, before, here⟩ => ⟨k, by omega, by omega, fun m le lt => ?_, here⟩,
        fun ⟨k, low, high, before, here⟩ => ⟨k, ?_, by omega, fun m le => before m (by omega), here⟩⟩
      · rcases Nat.eq_or_lt_of_le le with rfl | later
        · exact first
        · exact before m later lt
      · exact Nat.lt_of_le_of_ne low fun same => nomatch (same ▸ first).symm.trans here

/-- R188: the failure named is the first of the first section that fails. -/
theorem Body.firstFailure_some {n item : Nat} :
    b.firstFailure = some (n, item) ↔
      1 ≤ n ∧ n ≤ 8 ∧ (∀ m, 1 ≤ m → m < n → b.SectionKeeps m) ∧ sectionFailure b n = some item := by
  refine (findSome?_range' (a := 1) (n := 8)).trans
    ⟨fun ⟨k, low, high, before, here⟩ => ?_, fun ⟨low, high, before, here⟩ => ?_⟩
  · obtain ⟨i, failed, same⟩ := Option.map_eq_some_iff.mp here
    obtain ⟨rfl, rfl⟩ := Prod.mk.inj same
    exact ⟨low, by omega, fun m le lt => (sectionFailure_none_iff le (by omega)).mp (Option.map_eq_none_iff.mp (before m le lt)),
      failed⟩
  · exact ⟨n, low, by omega,
      fun m le lt => Option.map_eq_none_iff.mpr ((sectionFailure_none_iff le (by omega)).mpr (before m le lt)),
      Option.map_eq_some_iff.mpr ⟨item, here, rfl⟩⟩

/-- R188, log 23: the item named fails, within its section, and no failing item has a lesser offset. -/
theorem sectionFailure_least {n item : Nat} (low : 1 ≤ n) (high : n ≤ 8) (failed : sectionFailure b n = some item) :
    item < sectionLength n ∧ (item, false) ∈ sectionChecks b n ∧ ∀ k ∈ sectionChecks b n, k.2 = false → item ≤ k.1 := by
  have named := sectionFailure_some failed
  have ordered := sectionChecks_inOrder b low high
  refine ⟨(ordered.bounds _ named).2, named, fun k hk fails => ?_⟩
  obtain ⟨a, found, rfl⟩ := Option.map_eq_some_iff.mp failed
  exact ordered.find_least found k hk (by simp [fails])

/-- R188, log 23: a failing item that no failing item comes before is the one named. -/
theorem sectionFailure_of_least {n item : Nat} (low : 1 ≤ n) (high : n ≤ 8) (fails : (item, false) ∈ sectionChecks b n)
    (least : ∀ k ∈ sectionChecks b n, k.2 = false → item ≤ k.1) : sectionFailure b n = some item := by
  cases failed : sectionFailure b n with
  | none => exact nomatch sectionFailure_none.mp failed _ fails
  | some first =>
    obtain ⟨-, named, before⟩ := sectionFailure_least low high failed
    exact congrArg some (Nat.le_antisymm (before _ fails rfl) (least _ named rfl))

/-- R140, R188: the spec's example. Causes 0 to 3 pass, and of cause 4 the items before its view. -/
theorem sectionFailure_view (before : ∀ i : Cause, i.val < 4 → b.CauseKeeps i) (enabled : b.u8 6 52 = 1) (source : b.u8 6 53 ≤ 6)
    (view : ¬ b.NamesView (b.cause 4).view) : sectionFailure b 6 = some 55 := by
  have unnamed : (decide (b.u8 6 55 ≤ 7) && b.viewDefined (b.u8 6 55)) = false :=
    Bool.eq_false_iff.mpr fun names => view (by simpa [Body.NamesView, Body.cause] using names)
  have cause4 : causeChecks b 4 = (52, true) :: (53, true) :: (55, false) :: (causeChecks b 4).drop 3 := by
    simp [causeChecks, enabled, source, unnamed]
  have mem4 : (55, false) ∈ causeChecks b 4 := by rw [cause4]; simp
  refine sectionFailure_of_least (by decide) (by decide)
    (List.mem_append_left _ (List.mem_flatMap.mpr ⟨4, List.mem_finRange 4, mem4⟩)) fun k hk fails => ?_
  rcases List.mem_append.mp hk with inCause | inTail
  · obtain ⟨i, -, here⟩ := List.mem_flatMap.mp inCause
    rcases Nat.lt_trichotomy i.val 4 with early | same | late
    · exact nomatch (causeChecks_pass.mpr (before i early) k here).symm.trans fails
    · obtain rfl : i = 4 := Fin.ext same
      have ordered := causeChecks_inOrder b 4
      rw [cause4] at here ordered
      simp only [List.mem_cons] at here
      rcases here with rfl | rfl | rfl | later
      · cases fails
      · cases fails
      · exact le_rfl
      · exact Nat.le_of_succ_le (ordered.2.2.2.2.2.2.bounds k later).1
    · have := ((causeChecks_inOrder b i).bounds k here).1
      omega
  · have tail : InOrder 158 156 (causeTailChecks b) := by simp [InOrder, causeTailChecks]
    have := (tail.bounds k inTail).1
    omega

end

/-- Settles O14: a body is what its record carries; the test asks what the chapters ask, and names the first failing section and in it the
failing item of least offset. -/
theorem settingsRecordRoundTrip : Obligations.SettingsRecordRoundTrip := by
  refine ⟨fun b wf => ⟨Body.record_length wf, Body.ofRecord_record wf⟩, fun b => Body.firstFailure_none_iff,
    fun b => Body.valid_iff.trans Body.firstFailure_none_iff, fun b n item failure => ?_,
    fun b sections causes _ enabled source view => ?_⟩
  · obtain ⟨low, high, before, failed⟩ := Body.firstFailure_some.mp failure
    obtain ⟨inside, named, least⟩ := sectionFailure_least low high failed
    refine ⟨low, high, inside, before, fun keeps => ?_, named, least⟩
    exact nomatch ((sectionFailure_none_iff low high).mpr keeps).symm.trans failed
  · exact Body.firstFailure_some.mpr ⟨by decide, by decide, fun m low high => sections m low (by omega),
      sectionFailure_view causes enabled source view⟩

end Sys2Proof.Machine
end

section
/-! SETTINGS_WRITE and SETTINGS_READ (R192): O53. -/

namespace Sys2Proof.Machine

/-! ## The bytes of a section after a write -/

theorem byteAt_splice {old new : List Sys2Proof.Byte} {off : Nat} (fits : off + new.length ≤ old.length) (i : Nat) :
    byteAt (splice old off new) i = if off ≤ i ∧ i < off + new.length then byteAt new (i - off) else byteAt old i := by
  have whole : splice old off new = old.take off ++ (new ++ old.drop (off + new.length)) := by
    rw [splice, List.append_assoc]
    refine List.take_of_length_le ?_
    simp only [List.length_append, List.length_take, List.length_drop]
    omega
  have front : (old.take off).length = off := by rw [List.length_take]; omega
  rw [whole, byteAt, byteAt, byteAt, List.getD_eq_getElem?_getD, List.getD_eq_getElem?_getD, List.getD_eq_getElem?_getD,
    List.getElem?_append, front]
  by_cases before : i < off
  · rw [if_pos before, if_neg (by omega), List.getElem?_take_of_lt before]
  · rw [if_neg before, List.getElem?_append]
    by_cases inside : i < off + new.length
    · rw [if_pos (by omega), if_pos ⟨by omega, inside⟩]
    · rw [if_neg (by omega), if_neg fun h => inside h.2, List.getElem?_drop]
      exact congrArg (fun k => (old[k]?).getD 0) (by omega)

/-- R192: the section named takes the bytes, and every other stays. -/
theorem Body.write_sec (b : Body) {n off m : Nat} {new : List Sys2Proof.Byte} (low : 1 ≤ m) :
    (b.write n off new).sec m = if m = n then splice (b.sec m) off new else b.sec m := by
  have place : m - 1 + 1 = m := by omega
  simp only [Body.sec, Body.write, List.getD_eq_getElem?_getD, Vector.getElem?_toList, Vector.getElem?_mapIdx]
  cases b.sections[m - 1]? with
  | none => simp [splice]
  | some old => simp [place]

/-! ## What the requests say -/

section
variable {s : State} {l : Link} {row : RequestRow} {r : Request}

/-- R179: a request that is long enough carries the least length of its kind. -/
theorem State.Ready.leastLength (h : s.Ready l row r) : row.leastLength ≤ r.fields.length := by
  have long := h.long
  simp only [Request.tooShort, h.row, Bool.or_eq_false_iff, decide_eq_false_iff_not, not_lt] at long
  simp only [Request.fields, List.length_take]
  omega

theorem spanOk_iff {n off count : Nat} : spanOk n off count = true ↔
    1 ≤ n ∧ n ≤ 8 ∧ 1 ≤ count ∧ count ≤ 24 ∧ off + count ≤ sectionLength n := by
  simp [spanOk, and_assoc]

end

/-! ## The right and the state that a write and a commit ask for (R192, R193) -/

section
variable {s : State} {l : Link}

theorem State.serviceRefusal_denied (h : l ≠ .chassis) : s.serviceRefusal l = some .notPermitted := if_pos h

theorem State.serviceRefusal_out (out : s.settings.serviceIn = false) : s.serviceRefusal .chassis = some .notInService := by
  simp [State.serviceRefusal, out]

theorem State.serviceRefusal_busy (inside : s.settings.serviceIn = true) (flies : s.settings.commit ≠ none) :
    s.serviceRefusal .chassis = some .busy := by
  simp [State.serviceRefusal, inside, Option.isSome_iff_ne_none, flies]

theorem State.serviceRefusal_none (inside : s.settings.serviceIn = true) (free : s.settings.commit = none) :
    s.serviceRefusal .chassis = none := by
  simp [State.serviceRefusal, inside, free]

end

/-! ## SETTINGS_WRITE (R192) -/

section
variable {s : State} {l : Link} {r : Request}

theorem actSettingsWrite_refused {code : ResultCode} (h : s.serviceRefusal l = some code) :
    actSettingsWrite l r s = (s, .refuse code) := by
  simp [actSettingsWrite, h]

theorem actSettingsWrite_malformed (h : s.serviceRefusal l = none)
    (outside : ¬ spanOk (u8At r.fields 0) (u16At r.fields 1) (r.fields.length - 3) = true) :
    actSettingsWrite l r s = (s, .refuse .malformed) := by
  simp [actSettingsWrite, h, outside]

theorem actSettingsWrite_done (h : s.serviceRefusal l = none)
    (fits : spanOk (u8At r.fields 0) (u16At r.fields 1) (r.fields.length - 3) = true) :
    actSettingsWrite l r s = (s.writeStaging (u8At r.fields 0) (u16At r.fields 1) (r.fields.drop 3), .done) := by
  simp [actSettingsWrite, h, fits]

/-- R192: a byte of the staging copy after a write. -/
theorem Body.byteAt_write {x : Body} (wf : x.wf = true) {n off : Nat} {f : List Sys2Proof.Byte} (low : 1 ≤ n) (high : n ≤ 8)
    (fits : off + (f.length - 3) ≤ sectionLength n) {m : Nat} (named : 1 ≤ m) (i : Nat) :
    byteAt ((x.write n off (f.drop 3)).sec m) i =
      if m = n ∧ off ≤ i ∧ i < off + (f.length - 3) then byteAt f (3 + (i - off)) else byteAt (x.sec m) i := by
  rw [Body.write_sec x named]
  by_cases here : m = n
  · subst here
    have length : (x.sec m).length = sectionLength m := by
      have := Body.wf_iff.mp wf ⟨m - 1, by omega⟩
      rwa [← Body.sec_eq, show m - 1 + 1 = m by omega] at this
    have count : (f.drop 3).length = f.length - 3 := List.length_drop
    rw [if_pos rfl, byteAt_splice (by rw [count, length]; exact fits), count]
    refine if_congr (by simp) ?_ rfl
    simp [byteAt, List.getD_eq_getElem?_getD, List.getElem?_drop]
  · rw [if_neg here, if_neg fun h => here h.1]

end

/-! ## SETTINGS_READ (R192) -/

section
variable {s : State} {r : Request}

theorem actSettingsRead_malformed (outside : ¬ spanOk (u8At r.fields 0) (u16At r.fields 1) (u8At r.fields 3) = true) :
    actSettingsRead r s = (s, .refuse .malformed) := by
  simp [actSettingsRead, outside]

theorem actSettingsRead_done (fits : spanOk (u8At r.fields 0) (u16At r.fields 1) (u8At r.fields 3) = true) :
    actSettingsRead r s = (s, ⟨.done, ((s.body.sec (u8At r.fields 0)).drop (u16At r.fields 1)).take (u8At r.fields 3)⟩) := by
  simp [actSettingsRead, fits]

end

/-- Settles O53: each refusal in its order; a write is the bytes spliced into their section, a read the bytes of the working copy. -/
theorem settingsWriteAndRead : Obligations.SettingsWriteAndRead := by
  refine ⟨fun s l r ready => ?_, fun s l r ready => ?_⟩
  · intro Refused n off count fits
    have some : 4 ≤ r.fields.length := ready.leastLength
    have span : spanOk n off count = true ↔ fits := by
      have least : 1 ≤ count := by omega
      simp only [spanOk_iff, least, true_and]
      rfl
    refine ⟨fun other => ready.refused (actSettingsWrite_refused (State.serviceRefusal_denied other)), ?_, ?_, ?_, ?_⟩
    · rintro rfl out
      exact ready.refused (actSettingsWrite_refused (State.serviceRefusal_out out))
    · rintro rfl inside flies
      exact ready.refused (actSettingsWrite_refused (State.serviceRefusal_busy inside flies))
    · rintro rfl inside free outside
      exact ready.refused (actSettingsWrite_malformed (State.serviceRefusal_none inside free) (mt span.mp outside))
    · rintro rfl inside free fit x staged wf
      obtain ⟨t, next, replied, rest⟩ := ready.answered
        (actSettingsWrite_done (State.serviceRefusal_none inside free) (span.mpr fit)) rfl
      obtain ⟨low, high, -, end_⟩ := fit
      have settings : t.settings = { s.settings with staging := s.settings.staging.map fun b => b.write n off (r.fields.drop 3) } :=
        (congrArg State.settings rest :)
      rw [staged] at settings
      exact ⟨t, x.write n off (r.fields.drop 3), next, settings, Body.write_wf wf _ _ _,
        fun m i named => Body.byteAt_write wf low high end_ named i, replied,
        (State.besideSettings_of_links rest).trans rfl⟩
  · intro n off count fits
    exact ⟨fun outside => ready.refused (actSettingsRead_malformed (mt spanOk_iff.mp outside)),
      fun fit => ready.refused (actSettingsRead_done (spanOk_iff.mpr fit))⟩

end Sys2Proof.Machine
end

section
/-! Service state is entered and left (R191): O52; the write of a commit ends (R194): O55. Both hand a change of SERVICE on (R103, R111). -/

namespace Sys2Proof.Machine

/-! ## A change of the settings block, handed on (R189, R191) -/

/-- From s to m the settings block and the condition SERVICE have changed, under the same working copy, and nothing else. -/
structure State.ServiceChanged (s m : State) : Prop where
  moving : m.vehicle.conds.moving = s.vehicle.conds.moving
  zones : m.zoneRec = s.zoneRec
  arbiter : m.arbiter = s.arbiter
  body : m.body = s.body
  links : m.links = s.links
  rest : m.besideVehicle = s.besideVehicle

/-- From s to t the settings block and the vehicle state have become those of m, and zones and arbiter have been told (R103). -/
structure State.ServiceTold (s m t : State) : Prop where
  settings : t.settings = m.settings
  vehicle : t.vehicle = m.vehicle
  zones : s.ZonesTold t
  arbiter : s.ArbiterTold t
  rest : t.besideVehicle = s.besideVehicle

/-- R103, R191: the change reaches zones and arbiter as an arrival of the vehicle state it makes: MOVING stays. -/
theorem State.ServiceChanged.told {s m t : State} (h : s.ServiceChanged m) (after : t.besideLinks = (State.settingsStep s m).besideLinks) :
    s.ServiceTold m t := by
  have still : ¬ ({ s with settings := m.settings } : State).MovingEnds m := fun ⟨was, is, _⟩ => by
    rw [h.moving] at is
    exact Bool.false_ne_true (was.symm.trans is)
  have arrived : ({ s with settings := m.settings } : State).Arrived m m.vehicle :=
    ⟨rfl, fun moves => absurd moves still, fun moves => absurd moves still, fun _ => ⟨rfl, rfl⟩, h.zones, h.arbiter, rfl, h.rest⟩
  have noted := arrived.links (State.besideLinks_noteSettings s m)
  have handed := (State.handOn_handedOn s (State.noteSettings s m)).links after
  obtain ⟨-, -, -, -, -, -, vehicle, -, -, -, settings, -⟩ :=
    State.besideZones_fields (handed.rest.trans (State.besideZones_noteSettings s m))
  refine ⟨settings, vehicle, fun z => ?_, noted.arbiterTold handed,
    (State.besideVehicle_of_zones (handed.rest.trans (State.besideZones_noteSettings s m))).trans h.rest⟩
  have told := noted.zonesTold handed z
  have body : ({ s with settings := m.settings } : State).body = s.body := h.body
  rw [body] at told
  exact told

/-- The request that has left its queue is no part of the change. -/
theorem State.ServiceTold.of_taken {s m t : State} {l : Link} (h : (s.taken l).ServiceTold m t) : s.ServiceTold m t :=
  ⟨h.settings, h.vehicle, h.zones, h.arbiter, h.rest⟩

/-! ## SERVICE_ENTER and SERVICE_EXIT (R191) -/

section
variable {s : State} {l : Link} {r : Request}

theorem Vehicle.lastReverse_iff {v : Vehicle} : v.lastReverse = true ↔ v.raw.map RawChassis.gear = some .reverse := by
  cases raw : v.raw <;> simp [Vehicle.lastReverse, raw]

theorem State.beginService_changed (s : State) : s.ServiceChanged s.beginService := ⟨rfl, rfl, rfl, rfl, rfl, rfl⟩

theorem State.endService_changed (s : State) : s.ServiceChanged s.endService := ⟨rfl, rfl, rfl, rfl, rfl, rfl⟩

theorem State.exitPending_changed (s : State) (pending : Bool) :
    s.ServiceChanged (s.setSettings { s.settings with exitPending := pending }) :=
  ⟨rfl, rfl, rfl, rfl, rfl, rfl⟩

theorem actServiceEnter_denied (h : l ≠ .chassis) : actServiceEnter l r s = (s, .refuse .notPermitted) := if_pos h

theorem actServiceEnter_moving (h : ¬ (s.vehicle.speed = 0 ∧ s.vehicle.raw.map RawChassis.gear ≠ some .reverse)) :
    actServiceEnter .chassis r s = (s, .refuse .notInService) := by
  have moves : s.vehicle.speed ≠ 0 ∨ s.vehicle.lastReverse = true := by
    rw [Vehicle.lastReverse_iff]
    tauto
  simp [actServiceEnter, moves]

theorem actServiceEnter_taken (h : s.vehicle.speed = 0 ∧ s.vehicle.raw.map RawChassis.gear ≠ some .reverse) :
    actServiceEnter .chassis r s = (s.enterService, .done) := by
  have stands : ¬ (s.vehicle.speed ≠ 0 ∨ s.vehicle.lastReverse = true) := by
    rw [Vehicle.lastReverse_iff]
    tauto
  simp [actServiceEnter, stands]

theorem State.enterService_out (out : s.settings.serviceIn = false) : s.enterService = State.settingsStep s s.beginService := by
  simp [State.enterService, out]

theorem State.enterService_in (inside : s.settings.serviceIn = true) :
    s.enterService = State.settingsStep s (s.setSettings { s.settings with exitPending := false }) := by
  simp [State.enterService, inside]

theorem State.askServiceEnd_free (free : s.settings.commit = none) : s.askServiceEnd = s.endService := if_pos free

theorem State.askServiceEnd_busy (flies : s.settings.commit ≠ none) :
    s.askServiceEnd = s.setSettings { s.settings with exitPending := true } := if_neg flies

theorem actServiceExit_denied (h : l ≠ .chassis) : actServiceExit l r s = (s, .refuse .notPermitted) := if_pos h

theorem actServiceExit_out (out : s.settings.serviceIn = false) :
    actServiceExit .chassis r s = (s, .refuse .notInService) := by
  simp [actServiceExit, out]

theorem actServiceExit_taken (inside : s.settings.serviceIn = true) :
    actServiceExit .chassis r s = (State.settingsStep s s.askServiceEnd, .done) := by
  simp [actServiceExit, inside]

/-- R191: a request that makes the settings block of m, and is answered with DONE. -/
theorem State.Ready.serviceTold {row : RequestRow} {act : Request → State → State × Answer} {m : State} (h : s.Ready l row r)
    (serves : (s.taken l).ServiceChanged m) (acts : act r (s.taken l) = (State.settingsStep (s.taken l) m, .done)) :
    ∃ t, whileRunning s (answering row l act) = .next t ∧ s.ServiceTold m t ∧ s.Replied t l r .done := by
  have raised : State.Raised (s.taken l) (State.settingsStep (s.taken l) m) :=
    (State.Raised.of_links serves.links).trans (State.settingsStep_raised _ _)
  obtain ⟨t, next, replied, rest⟩ := h.worked acts raised
  exact ⟨t, next, (serves.told rest).of_taken, replied⟩

end

/-- Settles O52: a request that is taken changes the settings block and SERVICE, and hands that on. -/
theorem serviceStateIsEnteredAndLeft : Obligations.ServiceStateIsEnteredAndLeft := by
  refine fun s l r => ⟨fun ready => ?_, fun ready => ?_⟩
  · intro Refused standing
    refine ⟨fun other => ready.refused (actServiceEnter_denied other), ?_, ?_⟩
    · rintro rfl moves
      exact ready.refused (actServiceEnter_moving moves)
    · rintro rfl stands
      have acts := actServiceEnter_taken (s := s.taken .chassis) (r := r) stands
      by_cases inside : s.settings.serviceIn = true
      · rw [State.enterService_in (s := s.taken .chassis) inside] at acts
        obtain ⟨t, next, told, replied⟩ := ready.serviceTold ((s.taken .chassis).exitPending_changed false) acts
        exact ⟨t, next, fun out => absurd inside (by simp [out]), fun _ => ⟨told.settings, told.vehicle⟩, told.zones, told.arbiter,
          replied, told.rest⟩
      · rw [State.enterService_out (s := s.taken .chassis) (Bool.eq_false_iff.mpr inside)] at acts
        obtain ⟨t, next, told, replied⟩ := ready.serviceTold (s.taken .chassis).beginService_changed acts
        exact ⟨t, next, fun _ => ⟨told.settings, told.vehicle⟩, fun is => absurd is inside, told.zones, told.arbiter, replied,
          told.rest⟩
  · intro Refused
    refine ⟨fun other => ready.refused (actServiceExit_denied other), ?_, ?_⟩
    · rintro rfl out
      exact ready.refused (actServiceExit_out out)
    · rintro rfl inside
      have acts := actServiceExit_taken (s := s.taken .chassis) (r := r) inside
      by_cases free : s.settings.commit = none
      · rw [State.askServiceEnd_free (s := s.taken .chassis) free] at acts
        obtain ⟨t, next, told, replied⟩ := ready.serviceTold (s.taken .chassis).endService_changed acts
        exact ⟨t, next, fun _ => ⟨told.settings, told.vehicle⟩, fun flies => absurd free flies, told.zones, told.arbiter, replied,
          told.rest⟩
      · rw [State.askServiceEnd_busy (s := s.taken .chassis) free] at acts
        obtain ⟨t, next, told, replied⟩ := ready.serviceTold ((s.taken .chassis).exitPending_changed true) acts
        exact ⟨t, next, fun is => absurd is free, fun _ => ⟨told.settings, told.vehicle⟩, told.zones, told.arbiter, replied, told.rest⟩

/-! ## The write of a commit (R194) -/

/-- From s to t a commit in flight has ended, and with it service state where an exit was pending (R191, R194). -/
structure State.CommitEnded (s t : State) : Prop where
  free : t.settings.commit = none
  settled : t.settings.exitPending = false
  working : t.settings.working = s.settings.working
  leaves : s.settings.exitPending = true →
    t.settings.serviceIn = false ∧ t.settings.staging = none ∧ t.vehicle.conds.service = false
  stays : s.settings.exitPending = false →
    t.settings.serviceIn = s.settings.serviceIn ∧ t.settings.staging = s.settings.staging ∧ t.vehicle = s.vehicle
  zones : s.ZonesTold t
  arbiter : s.ArbiterTold t
  rest : t.besideVehicle = s.besideVehicle

/-- R194: a commit in flight ends by f, which says what becomes of the image, the state, the result and the memory. -/
theorem State.commitEnds {s : State} (running : s.phase = .running) (flies : s.settings.commit ≠ none)
    {f : SettingsBlock → SettingsBlock} (free : (f s.settings).commit = none) (working : (f s.settings).working = s.settings.working)
    (pending : (f s.settings).exitPending = s.settings.exitPending) (service : (f s.settings).serviceIn = s.settings.serviceIn)
    (staging : (f s.settings).staging = s.settings.staging) :
    ∃ t, (whileRunning s fun u => u.endCommit f) = .next t ∧ s.CommitEnded t ∧ t.settings.committed = (f s.settings).committed ∧
      t.settings.state = (f s.settings).state ∧ t.settings.lastWrite = (f s.settings).lastWrite ∧
      t.settings.memory = (f s.settings).memory := by
  refine ⟨_, whileRunning_running running _, ?_⟩
  cases leaving : s.settings.exitPending with
  | true =>
    have ends : s.endCommit f = State.settingsStep s (s.setSettings (f s.settings)).endService := by
      simp [State.endCommit, flies, leaving]
    have changed : s.ServiceChanged (s.setSettings (f s.settings)).endService := ⟨rfl, rfl, rfl, working, rfl, rfl⟩
    have told := changed.told (State.settle_besideLinks (State.settingsStep s (s.setSettings (f s.settings)).endService))
    rw [ends]
    obtain ⟨settings, vehicle, zones, arbiter, rest⟩ := told
    exact ⟨
      { free := (congrArg SettingsBlock.commit settings).trans free
        settled := congrArg SettingsBlock.exitPending settings
        working := (congrArg SettingsBlock.working settings).trans working
        leaves := fun _ => ⟨congrArg SettingsBlock.serviceIn settings, congrArg SettingsBlock.staging settings,
          congrArg (fun v : Vehicle => v.conds.service) vehicle⟩
        stays := fun stays => absurd (leaving.symm.trans stays) Bool.noConfusion
        zones := zones, arbiter := arbiter, rest := rest },
      (congrArg SettingsBlock.committed settings :), (congrArg SettingsBlock.state settings :),
      (congrArg SettingsBlock.lastWrite settings :), (congrArg SettingsBlock.memory settings :)⟩
  | false =>
    have ends : s.endCommit f = State.settingsStep s (s.setSettings (f s.settings)) := by
      simp [State.endCommit, flies, leaving]
    have changed : s.ServiceChanged (s.setSettings (f s.settings)) := ⟨rfl, rfl, rfl, working, rfl, rfl⟩
    have told := changed.told (State.settle_besideLinks (State.settingsStep s (s.setSettings (f s.settings))))
    rw [ends]
    obtain ⟨settings, vehicle, zones, arbiter, rest⟩ := told
    exact ⟨
      { free := (congrArg SettingsBlock.commit settings).trans free
        settled := (congrArg SettingsBlock.exitPending settings).trans (pending.trans leaving)
        working := (congrArg SettingsBlock.working settings).trans working
        leaves := fun leaves => absurd (leaving.symm.trans leaves) Bool.noConfusion
        stays := fun _ => ⟨(congrArg SettingsBlock.serviceIn settings).trans service,
          (congrArg SettingsBlock.staging settings).trans staging, vehicle⟩
        zones := zones, arbiter := arbiter, rest := rest },
      congrArg SettingsBlock.committed settings, congrArg SettingsBlock.state settings,
      congrArg SettingsBlock.lastWrite settings, congrArg SettingsBlock.memory settings⟩

/-- Settles O55: a write that completes is read back as the working copy because the memory is canonical; a failed one spoils it. -/
theorem commitWriteEnds : Obligations.CommitWriteEnds := by
  intro s running ok canonical flies Ended
  have ended : ∀ t, s.CommitEnded t → Ended t := fun t h =>
    ⟨h.free, h.settled, h.working, h.leaves, h.stays, h.zones, h.arbiter, h.rest⟩
  have modified := ok.1.inFlight (Option.isSome_iff_ne_none.mpr flies)
  have failed := State.commitEnds running flies (f := SettingsBlock.fail) rfl rfl rfl rfl rfl
  obtain ⟨t, next, ends, committed, state, lastWrite, memory⟩ :=
    State.commitEnds running flies (f := SettingsBlock.complete) rfl rfl rfl rfl rfl
  refine ⟨⟨t, next, ended t ends, committed, state, lastWrite, ?_⟩, fun c which => ?_⟩
  · rw [memory]
    exact SettingsMemory.validBody_write canonical.2 ok.1.valid.1 ok.1.valid.2
  · obtain ⟨t, next, ends, committed, state, lastWrite, memory⟩ := failed
    refine ⟨t, ?_, ended t ends, committed, state.trans modified, lastWrite, congrArg SettingsMemory.validBody memory⟩
    rcases which with rfl | rfl <;> exact next

end Sys2Proof.Machine
end

section
/-! SETTINGS_COMMIT (R193): O54. A staging copy that is valid is put in force in every block. -/

namespace Sys2Proof.Machine

/-! ## The mask sets through the onsets (R142) -/

section
variable {t : State} {a b : Arbiter}

theorem CauseRec.raised_masks (r : CauseRec) (c : CauseSettings) : (r.raised c).masks = r.masks := by
  unfold CauseRec.raised
  split <;> rfl

/-- R142: an onset leaves the mask sets. -/
theorem State.OnsetTaken.masks {z : Zone} {old new : ZoneRec} (h : t.OnsetTaken z old new a b) (i : Cause) :
    b.causes[i].masks = a.causes[i].masks := by
  obtain ⟨stays, chooses⟩ := h
  by_cases calm : ¬ old.Onset new ∨ (t.body.zone z).preferredView = Option.none
  · rw [stays calm]
  · obtain ⟨onset, view⟩ := not_or.mp calm
    obtain ⟨v, view⟩ := Option.ne_none_iff_exists'.mp view
    obtain ⟨raised, some, others, made⟩ := chooses v (not_not.mp onset) view
    have kept : b.causes[i].masks = (((t.withArbiter a).withCauses raised).causeRec i).masks := made.masks i
    rw [kept, State.withCauses_causeRec]
    by_cases raises : (t.body.cause i).RaisedBy z v
    · rw [some i raises, CauseRec.raised_masks]
    · rw [others i raises]

theorem State.OnsetsTaken.masks {before after : Zone → ZoneRec} (h : t.OnsetsTaken before after a b) (i : Cause) :
    b.causes[i].masks = a.causes[i].masks := by
  obtain ⟨y, first, last, steps⟩ := State.onsetsTaken_iff.mp h
  have kept : ∀ n, n ≤ 8 → (y n).causes[i].masks = a.causes[i].masks := by
    intro n le
    induction n with
    | zero => rw [first]
    | succ n ih => exact ((steps ⟨n, by omega⟩).masks i).trans (ih (by omega))
  rw [← last]
  exact kept 8 (le_refl 8)

end

/-! ## The zones and the arbiter at a commit (R127, R152) -/

section
variable (s : State)

/-- R127: a zone's record after a commit. -/
def State.committedZone (z : Zone) : ZoneRec :=
  if (s.body.zone z).enabled = true then
    ((s.zoneRec z).recount (s.body.zone z) s.body.countFloor s.tracks).evaluate (s.body.zone z) s.vehicle.conds
  else { (s.zoneRec z).toIdle with occupancy := 0, warnMark := false }

theorem State.commitZones_taken : s.ZonesTaken s.commitZones s.committedZone := by
  refine State.zonesTaken_foldl fun u z rest own => ?_
  obtain ⟨-, -, -, -, -, -, vehicle, tracks, -, -, settings, -⟩ := State.besideZones_fields rest
  have body : u.body = s.body := congrArg SettingsBlock.working settings
  show u.ZoneTaken (u.commitZone z) z _
  unfold State.commitZone State.committedZone
  rw [← own, ← body, ← vehicle, ← tracks]
  dsimp only
  split <;> exact u.takeZone_taken z _

/-- R152: a cause made QUIET. -/
def CauseRec.silenced (r : CauseRec) : CauseRec := { r with stage := .quiet, timer := none }

theorem CauseRec.silenced_congr {r q : CauseRec} (masks : r.masks = q.masks) : r.silenced = q.silenced := by
  simp only [CauseRec.silenced, masks]

/-- R152: at a commit the choice is made with every cause QUIET. -/
theorem State.arbiterCommit_made : (s.withCauses fun i => (s.causeRec i).silenced).ChoiceMade s.arbiterCommit := by
  have causes : (s.arbiter.causes.map fun r => ({ r with stage := .quiet, timer := none } : CauseRec)) =
      Vector.ofFn fun i => (s.causeRec i).silenced := Vector.ext fun i hi => by
    simp [State.causeRec, CauseRec.silenced]
  have made := State.choose_made { s with
    arbiter := { s.arbiter with causes := s.arbiter.causes.map fun r => { r with stage := .quiet, timer := none } } }
  exact made.congr rfl (congrArg (fun c => { s.arbiter with causes := c }) causes.symm) rfl rfl

end

/-- R152: after a choice between causes that are all QUIET they are as they were made. -/
theorem State.ChoiceMade.of_silenced {s t : State} (h : s.ChoiceMade t) {i : Cause} (quiet : (s.causeRec i).stage = .quiet) :
    t.causeRec i = s.causeRec i :=
  h.others i fun served => nomatch quiet.symm.trans served.2

/-! ## The table and the regulators at a commit (R51, R99) -/

/-- R99: the table without the slots that a body's maps drop. -/
def ObjectTable.keptBy (t : ObjectTable) (b : Body) : ObjectTable :=
  { t with slots := t.slots.mapFinIdx fun i o h => if b.drops ⟨i, h⟩ o then none else o }

theorem State.commitTable_besideLinks (s : State) :
    s.commitTable.besideLinks = ({ s with table := s.table.keptBy s.body } : State).besideLinks :=
  State.foldl_fixes _ State.besideLinks (fun t l => by split <;> rfl) _ _

theorem ObjectTable.keptBy_slot (t : ObjectTable) (b : Body) (i : ObjSlot) :
    (t.keptBy b).slots[i] = match t.slots[i] with
      | some o => if b.maps o.owner (sectorOf i) then some o else none
      | none => none := by
  have slot : (t.keptBy b).slots[i] = if b.drops i t.slots[i] then none else t.slots[i] := by
    simp [ObjectTable.keptBy]
  rw [slot]
  cases t.slots[i] with
  | none => simp
  | some o => cases maps : b.maps o.owner (sectorOf i) <;> simp [Body.drops, maps]

/-- R51: what a commit makes of a regulator's duty. -/
theorem Regulator.commit_duty (old new : CameraSettings) (accepted : Option StatusRecord) (r : Regulator) :
    (r.commit old new accepted).duty =
      if new.fitted = false then 0 else if r.duty ≠ 0 ∧ r.duty < new.stopDuty then new.stopDuty else r.duty :=
  if_congr (by simp) rfl rfl

theorem Regulator.commit_stopTimer (old new : CameraSettings) (accepted : Option StatusRecord) (r : Regulator) :
    (r.commit old new accepted).stopTimer =
      if (r.commit old new accepted).duty ≠ r.duty ∨ old.stopDuty ≠ new.stopDuty ∨ (r.commit old new accepted).duty = 0 then none
      else r.stopTimer := rfl

/-! ## OBJECTS_PURGED at a commit (R99) -/

/-- Whether OBJECTS_PURGED of a link is set. -/
def State.purged (s : State) (l : Link) : Bool := (s.ctl l).flags.objectsPurged

section
variable (s : State)

theorem State.purged_of_links {s t : State} (h : t.links = s.links) : t.purged = s.purged := funext fun l => by
  rw [State.purged, State.purged, State.ctl, State.ctl, h]

theorem State.raise_purged (k : NoticeKind) (n : Nat) (f : List Byte) : (s.raise k n f).purged = s.purged :=
  funext fun l => (s.raise_ctl k n f l).2.2

theorem State.choose_purged : s.choose.purged = s.purged := funext fun l => (s.choose_ctl l).2.2

theorem State.noteSettings_purged (before : State) : (State.noteSettings before s).purged = s.purged := by
  unfold State.noteSettings
  split
  · rfl
  · exact s.raise_purged _ _ _

theorem State.takeZone_purged (z : Zone) (r : ZoneRec) : (s.takeZone z r).purged = s.purged := by
  have noticed : (s.noticedZone z r).purged = s.purged := by
    unfold State.noticedZone
    split
    · rfl
    · have alerted : ((s.setZoneRec z r).zoneChange z r).purged = ((s.setZoneRec z r).raise .zone z.val r.fields).purged :=
        State.purged_of_links rfl
      exact alerted.trans ((s.setZoneRec z r).raise_purged _ _ _)
  by_cases calm : ¬ (s.zoneRec z).Onset r ∨ (s.body.zone z).preferredView = none
  · rw [State.takeZone_of_none calm, noticed]
  · obtain ⟨onset, view⟩ := not_or.mp calm
    obtain ⟨v, view⟩ := Option.ne_none_iff_exists'.mp view
    rw [State.takeZone_of_onset (not_not.mp onset) view, State.onset_eq, State.choose_purged]
    exact noticed

theorem State.commitZones_purged : s.commitZones.purged = s.purged :=
  State.foldl_fixes _ State.purged (fun u z => by unfold State.commitZone; dsimp only; split <;> exact u.takeZone_purged z _) _ _

theorem State.arbiterCommit_purged : s.arbiterCommit.purged = s.purged := State.choose_purged _

theorem State.setPurged_purged (l m : Link) : (s.setPurged l).purged m = (s.purged m || decide (m = l)) := by
  unfold State.setPurged State.purged
  by_cases e : m = l
  · subst e
    simp
  · simp [State.ctl_setCtl_of_ne _ _ _ _ e, e]

/-- The flag set at the links of a list for which p holds. -/
theorem State.setPurged_foldl (p : Link → Bool) (q : List Link) (m : Link) :
    (q.foldl (fun t l => if p l then t.setPurged l else t) s).purged m = (s.purged m || (decide (m ∈ q) && p m)) := by
  induction q generalizing s with
  | nil => simp
  | cons l q ih =>
    rw [List.foldl_cons, ih]
    by_cases sets : p l = true
    · rw [if_pos sets, State.setPurged_purged]
      by_cases e : m = l
      · subst e
        simp [sets]
      · simp [e]
    · rw [if_neg sets]
      by_cases e : m = l
      · subst e
        simp [sets]
      · simp [e]

theorem State.losesSlot_iff (b : Body) (m : Link) :
    s.losesSlot b m = true ↔ ∃ i o, s.slot i = some o ∧ o.owner = m ∧ b.maps m (sectorOf i) = false := by
  simp only [State.losesSlot, List.any_eq_true, List.mem_finRange, true_and, Bool.and_eq_true, ownedBy_iff]
  refine exists_congr fun i => ⟨?_, ?_⟩
  · rintro ⟨drops, o, slot, rfl⟩
    exact ⟨o, slot, rfl, by simpa [slot, Body.drops] using drops⟩
  · rintro ⟨o, slot, rfl, unmapped⟩
    exact ⟨by simp [slot, Body.drops, unmapped], o, slot, rfl⟩

theorem State.commitTable_purged (m : Link) : s.commitTable.purged m = (s.purged m || s.losesSlot s.body m) := by
  have all : m ∈ Link.all := by cases m <;> decide
  rw [State.commitTable, State.setPurged_foldl _ (s.losesSlot s.body)]
  simp [all]
  rfl

theorem State.applyCommit_purged (x : Body) (m : Link) : (s.applyCommit x).purged m = (s.purged m || s.losesSlot x m) := by
  have table := (s.setSettings (s.settings.putInForce x)).commitTable_purged m
  have alerted : ∀ u : State, u.alertCommit.purged = u.purged := fun u => State.purged_of_links (s := u) rfl
  rw [State.applyCommit, State.arbiterCommit_purged, alerted, State.commitZones_purged, State.noteSettings_purged,
    State.purged_of_links (State.commitVehicle_links _)]
  exact table

theorem LinkCtl.makeRoom_purged (c : LinkCtl) : c.makeRoom.flags.objectsPurged = c.flags.objectsPurged := by
  unfold LinkCtl.makeRoom
  repeat' split
  all_goals rfl

/-- R181: the reply sets NOTICES_LOST at most. -/
theorem State.reply_purged (l : Link) (r : Request) (a : Answer) : (s.reply l r a).settle.purged = s.purged := funext fun m => by
  rw [State.purged, ((s.reply l r a).settle_ctl m).2.2.1]
  by_cases e : m = l
  · subst e
    rw [State.reply_ctl_self]
    exact (s.ctl m).makeRoom_purged
  · rw [State.reply_ctl_of_ne _ _ _ e]
    rfl

theorem State.taken_purged (l : Link) : (s.taken l).purged = s.purged := funext fun m => by
  rw [State.purged, State.taken]
  by_cases e : m = l
  · subst e
    rw [State.ctl_setCtl_self]
    rfl
  · rw [State.ctl_setCtl_of_ne _ _ _ _ e]
    rfl

end

/-! ## The commit, block by block (R193) -/

section
variable (s : State) (x : Body)

/-- R51, R99, R193: the table and the regulators have taken the commit of x. -/
def State.commitTables : State := (s.setSettings (s.settings.putInForce x)).commitTable.commitRegulators s.body

/-- The same beside the link controllers. -/
def State.inForce : State :=
  ({ s with settings := s.settings.putInForce x, table := s.table.keptBy x } : State).commitRegulators s.body

theorem State.commitTables_besideLinks : (s.commitTables x).besideLinks = (s.inForce x).besideLinks := by
  have table := (s.setSettings (s.settings.putInForce x)).commitTable_besideLinks
  exact (congrArg (fun u : State => (u.commitRegulators s.body).besideLinks) table :)

/-- R104, R189, R193: the settings block and the vehicle state have taken it as well. -/
def State.commitNoted : State := State.noteSettings s (s.commitTables x).commitVehicle

theorem State.applyCommit_eq : s.applyCommit x = (s.commitNoted x).commitZones.alertCommit.arbiterCommit := rfl

theorem State.commitNoted_arrived : (s.commitTables x).Arrived (s.commitNoted x) ((s.commitTables x).vehicle.commit x) := by
  have body : (s.commitTables x).body = x := (congrArg State.body (s.commitTables_besideLinks x) :)
  have arrived := (s.commitTables x).movingEnds_arrived ((s.commitTables x).vehicle.commit (s.commitTables x).body)
  rw [body] at arrived
  exact arrived.links ((State.besideLinks_noteSettings s _).trans (by rw [State.commitVehicle, body]))

end

theorem Alert.follow_flags (b : Body) (a : Alert) : (a.follow b).flags = a.flags := by
  unfold Alert.follow
  dsimp only
  split
  · rfl
  · cases chimeLevelOf a.flags a.copies <;> rfl

/-- R127, R136, R152: zones, alert unit and arbiter have taken the commit. -/
structure State.MonitorsTook (n t : State) : Prop where
  zones : t.zoneRec = n.committedZone
  arbiter : ∃ a, t.OnsetsTaken n.zoneRec t.zoneRec n.arbiter a ∧
    State.ChoiceMade ((t.withArbiter a).withCauses fun i => (n.causeRec i).silenced) t
  alert : t.alert.flags = n.body.chimeFlags
  rest : t.besideZones = n.besideZones

theorem State.commitMonitors_took {n t : State} (after : t.besideLinks = n.commitZones.alertCommit.arbiterCommit.besideLinks) :
    n.MonitorsTook t := by
  have taken := n.commitZones_taken
  generalize n.commitZones = z at after taken
  have views : t.besideViews = z.alertCommit.besideViews :=
    (State.besideViews_of_links after).trans z.alertCommit.besideViews_arbiterCommit
  have rest : t.besideZones = n.besideZones := (State.besideZones_of_views views).trans taken.rest
  obtain ⟨-, -, -, -, -, -, vehicle, -⟩ := State.besideZones_fields rest
  have body : t.body = n.body := State.body_of_besideZones rest
  have bodyZ : z.body = n.body := State.body_of_besideZones taken.rest
  have vehicleZ : z.vehicle = n.vehicle := (State.besideZones_fields taken.rest).2.2.2.2.2.2.1
  have zones : t.zoneRec = n.committedZone := by
    rw [← taken.zones]
    exact (congrArg State.zoneRec views :)
  have alert : t.alert.flags = n.body.chimeFlags := by
    rw [← bodyZ]
    exact (congrArg (fun u : State => u.alert.flags) views).trans (Alert.follow_flags _ _)
  have arbiter : t.arbiter = z.alertCommit.arbiterCommit.arbiter := (congrArg State.arbiter after :)
  have causes : (fun i => (z.alertCommit.causeRec i).silenced) = fun i => (n.causeRec i).silenced :=
    funext fun i => CauseRec.silenced_congr (taken.onsets.masks i)
  have made := z.alertCommit.arbiterCommit_made
  rw [causes] at made
  refine ⟨zones, ⟨z.arbiter, ?_, ?_⟩, alert, rest⟩
  · rw [zones]
    exact taken.onsets.congr body vehicle
  · exact made.congr (body.trans bodyZ.symm) rfl (vehicle.trans vehicleZ.symm) arbiter

/-- From s to t the body x has been put in force in every block, and what is beside it stays (R193); nothing is said of the link
controllers. -/
structure State.Committed (s t : State) (x : Body) : Prop where
  settings : ∃ pending, t.settings = { s.settings.putInForce x with exitPending := pending }
  slots : ∀ i, t.slot i = match s.slot i with
    | some o => if x.maps o.owner (sectorOf i) then some o else none
    | none => none
  strips : t.strips = s.strips
  regulators : ∀ c, t.reg c = (s.reg c).commit (s.body.camera c) (x.camera c) (s.recv c).accepted
  moving : t.vehicle.conds.moving = decide (x.movingThreshold ≤ s.vehicle.speed)
  raw : t.vehicle.raw = s.vehicle.raw
  zones : ∀ z, t.zoneRec z =
    if (x.zone z).enabled = true then ((s.zoneRec z).recount (x.zone z) x.countFloor s.tracks).evaluate (x.zone z) t.vehicle.conds
    else { (s.zoneRec z).toIdle with occupancy := 0, warnMark := false }
  arbiter : ∃ a, t.OnsetsTaken s.zoneRec t.zoneRec s.arbiter a ∧
    State.ChoiceMade ((t.withArbiter a).withCauses fun i => (s.causeRec i).silenced) t
  alert : t.alert.flags = x.chimeFlags
  rest : t.receivers = s.receivers ∧ t.pictures = s.pictures ∧ t.tracks = s.tracks ∧ t.supply = s.supply ∧
    t.generator = s.generator ∧ t.frame = s.frame

theorem State.applyCommit_committed {s t : State} {x : Body} (after : t.besideLinks = (s.applyCommit x).besideLinks) :
    s.Committed t x := by
  have tables := s.commitTables_besideLinks x
  have arrived := s.commitNoted_arrived x
  have took : (s.commitNoted x).MonitorsTook t := State.commitMonitors_took after
  generalize s.commitTables x = w at tables arrived
  generalize s.commitNoted x = n at arrived took
  obtain ⟨zones, arbiter, alert, rest⟩ := took
  have body : n.body = x := arrived.body.trans (congrArg State.body tables :)
  have pending : ∃ pending, n.settings = { s.settings.putInForce x with exitPending := pending } := by
    have settings : w.settings = s.settings.putInForce x := (congrArg State.settings tables :)
    have flies : w.settings.commit ≠ none := by simp [settings, SettingsBlock.putInForce]
    by_cases moves : w.MovingEnds n
    · exact ⟨true, settings ▸ (arrived.waits moves flies).1⟩
    · exact ⟨s.settings.exitPending, (arrived.stays moves).1.trans settings⟩
  have vehicle : t.vehicle = n.vehicle := (congrArg State.vehicle rest :)
  have was : w.vehicle = s.vehicle := (congrArg State.vehicle tables :)
  have arrives := arrived.vehicle
  rw [was, ← vehicle] at arrives
  have fixed : t.besideVehicle = (s.inForce x).besideVehicle :=
    (State.besideVehicle_of_zones rest).trans (arrived.rest.trans (congrArg State.besideVehicle tables :))
  have records : n.zoneRec = s.zoneRec := arrived.zones.trans (congrArg State.zoneRec tables :)
  have choice : n.arbiter = s.arbiter := arrived.arbiter.trans (congrArg State.arbiter tables :)
  have causes : n.causeRec = s.causeRec := funext fun i => congrArg (fun a : Arbiter => a.causes[i]) choice
  have tracks : n.tracks = s.tracks := (congrArg State.tracks rest.symm :).trans (congrArg State.tracks fixed :)
  have settings : t.settings = n.settings := (congrArg State.settings rest :)
  refine
    { settings := settings ▸ pending
      slots := fun i => (congrArg (fun u : State => u.slot i) fixed :).trans (ObjectTable.keptBy_slot _ _ i)
      strips := (congrArg State.strips fixed :)
      regulators := fun c => (congrArg (fun u : State => u.reg c) fixed :).trans (State.commitRegulators_reg _ _ c)
      moving := (congrArg (fun v : Vehicle => v.conds.moving) arrives :)
      raw := (congrArg Vehicle.raw arrives :)
      zones := fun z => ?_
      arbiter := ?_
      alert := body ▸ alert
      rest := ⟨(congrArg State.receivers fixed :), (congrArg State.pictures fixed :), (congrArg State.tracks fixed :),
        (congrArg State.supply fixed :), (congrArg State.generator fixed :), (congrArg State.frame fixed :)⟩ }
  · rw [zones, State.committedZone, body, records, tracks, vehicle]
  · rw [records, choice, causes] at arbiter
    exact arbiter

/-! ## The request (R193) -/

section
variable {s : State} {l : Link} {r : Request}

/-- The request that has left its queue is no part of the commit. -/
theorem State.Committed.of_taken {t : State} {x : Body} (h : (s.taken l).Committed t x) : s.Committed t x := by
  obtain ⟨settings, slots, strips, regulators, moving, raw, zones, arbiter, alert, rest⟩ := h
  exact ⟨settings, slots, strips, regulators, moving, raw, zones, arbiter, alert, rest⟩

/-- A block that raises notices, and OBJECTS_PURGED as it leaves it. -/
theorem State.Ready.worked_purged {u : State} {row : RequestRow} {act : Request → State → State × Answer} {a : Answer}
    (h : s.Ready l row r) (acts : act r (s.taken l) = (u, a)) (raised : State.Raised (s.taken l) u) :
    ∃ t, whileRunning s (answering row l act) = .next t ∧ s.Replied t l r a ∧ t.besideLinks = u.besideLinks ∧
      t.purged = u.purged := by
  refine ⟨_, whileRunning_running h.running _, ?_⟩
  rw [h.answering_eq, acts]
  exact ⟨State.replied_of_raised raised, rfl, u.reply_purged l r a⟩

theorem actSettingsCommit_refused {code : ResultCode} (h : s.serviceRefusal l = some code) :
    actSettingsCommit l r s = (s, .refuse code) := by
  simp [actSettingsCommit, h]

theorem actSettingsCommit_staged {x : Body} (h : s.serviceRefusal l = none) (staged : s.settings.staging = some x) :
    actSettingsCommit l r s = s.tryCommit x := by
  simp [actSettingsCommit, h, staged]

theorem State.tryCommit_invalid {x : Body} {n item : Nat} (h : x.firstFailure = some (n, item)) :
    s.tryCommit x = (s, ⟨.invalid, byte n :: be16 item⟩) := by
  simp [State.tryCommit, h]

theorem State.tryCommit_valid {x : Body} (h : x.valid = true) : s.tryCommit x = (s.applyCommit x, .done) := by
  simp [State.tryCommit, Body.valid_iff.mp h]

end

/-- Settles O54: a copy that is refused changes nothing; a valid one is in force in every block before the reply. -/
theorem commitPutsTheStagingCopyInForce : Obligations.CommitPutsTheStagingCopyInForce := by
  intro s l r ready Refused
  refine ⟨fun other => ready.refused (actSettingsCommit_refused (State.serviceRefusal_denied other)), ?_, ?_, ?_⟩
  · rintro rfl out
    exact ready.refused (actSettingsCommit_refused (State.serviceRefusal_out out))
  · rintro rfl inside flies
    exact ready.refused (actSettingsCommit_refused (State.serviceRefusal_busy inside flies))
  · rintro rfl inside free x staged
    have acts : actSettingsCommit .chassis r (s.taken .chassis) = (s.taken .chassis).tryCommit x :=
      actSettingsCommit_staged (State.serviceRefusal_none inside free) staged
    refine ⟨fun n item fails => ready.refused (acts.trans (State.tryCommit_invalid fails)), fun valid => ?_⟩
    rw [State.tryCommit_valid valid] at acts
    obtain ⟨t, next, replied, rest, flags⟩ := ready.worked_purged acts ((s.taken .chassis).applyCommit_raised x)
    have committed : s.Committed t x := (State.applyCommit_committed rest).of_taken
    have purged : ∀ m, t.purged m = (s.purged m || s.losesSlot x m) := fun m => by
      rw [flags, State.applyCommit_purged, State.taken_purged]
      rfl
    obtain ⟨pending, settings⟩ := committed.settings
    obtain ⟨lit, blink⟩ := Prod.mk.inj committed.strips
    refine ⟨t, next, replied, (congrArg SettingsBlock.working settings :),
      (congrArg SettingsBlock.staging settings :).trans staged, (congrArg SettingsBlock.state settings :),
      (congrArg SettingsBlock.commit settings :), (congrArg SettingsBlock.committed settings :),
      (congrArg SettingsBlock.lastWrite settings :), (congrArg SettingsBlock.memory settings :), committed.slots, lit, blink,
      fun c => ?_, fun c => ?_, fun m => ?_, fun z enabled => (committed.zones z).trans (if_pos enabled), committed.arbiter,
      committed.moving, committed.raw, fun z idle => ?_, committed.alert, fun i => ?_, committed.rest⟩
    · rw [committed.regulators]
      exact ⟨rfl, rfl, rfl, rfl⟩
    · intro duty
      have kept : (t.reg c).duty = duty := by
        rw [committed.regulators, Regulator.commit_duty]
      refine ⟨kept, ?_, fun absent => ?_, fun a accepted => ?_⟩
      · rw [← kept, committed.regulators, Regulator.commit_stopTimer]
      · rw [committed.regulators, absent]
        rfl
      · rw [committed.regulators, accepted]
        exact heaterDemand_some _ _ _
    · show t.purged m = true ↔ s.purged m = true ∨ _
      rw [purged, Bool.or_eq_true, State.losesSlot_iff]
    · rw [committed.zones, if_neg (by simp [idle])]
      exact ⟨rfl, rfl, rfl⟩
    · obtain ⟨a, -, made⟩ := committed.arbiter
      have before : ((t.withArbiter a).withCauses fun i => (s.causeRec i).silenced).causeRec i = (s.causeRec i).silenced :=
        State.withCauses_causeRec _ _ i
      have after := made.of_silenced (i := i) (congrArg CauseRec.stage before)
      rw [after, before]
      exact ⟨rfl, rfl, rfl⟩

end Sys2Proof.Machine
end

section
/-! SUPPORT. The first look of a restart (R128, R137, R153): zones and arbiter from their reset values. -/

namespace Sys2Proof.Machine

/-! ## A zone at its reset values (R119, Table 6-7) -/

/-- R119: a zone that a restart makes CLEAR: it is enabled, and armed under the conditions' fallbacks. -/
def State.clears (s : State) (z : Zone) : Bool := (s.body.zone z).enabled && (s.body.zone z).armed Conditions.atReset

/-- R128: the record of such a zone. -/
def ZoneRec.cleared : ZoneRec := ZoneRec.atReset.toClear

theorem ZoneRec.evaluate_atReset (cfg : ZoneSettings) (c : Conditions) :
    ZoneRec.atReset.evaluate cfg c = if cfg.armed c then ZoneRec.cleared else ZoneRec.atReset := by
  unfold ZoneRec.evaluate
  cases cfg.armed c <;> rfl

theorem ZoneRec.not_onset_cleared (r : ZoneRec) : ¬ r.Onset ZoneRec.cleared := fun h => nomatch h.1

/-- R126: such a zone's new record, its notice and the alert unit's copy. -/
def State.clearZone (s : State) (z : Zone) : State := (s.setZoneRec z ZoneRec.cleared).zoneChange z ZoneRec.cleared

theorem State.setZoneRec_self (s : State) (z : Zone) : s.setZoneRec z (s.zoneRec z) = s := by
  have same : s.zones.set z (s.zoneRec z) = s.zones := Vector.set_getElem_self z.isLt
  rw [State.setZoneRec, same]

/-- R119: an evaluation clears such a zone and leaves any other. -/
theorem State.evaluateZone_atReset {s : State} {z : Zone} (conds : s.vehicle.conds = Conditions.atReset)
    (stands : s.zoneRec z = ZoneRec.atReset) : s.evaluateZone z = if s.clears z then s.clearZone z else s := by
  unfold State.evaluateZone State.clears
  rw [conds, stands, ZoneRec.evaluate_atReset]
  cases (s.body.zone z).enabled
  · rfl
  cases (s.body.zone z).armed Conditions.atReset
  · rw [if_pos rfl, if_neg Bool.false_ne_true, State.takeZone_of_none (.inl (stands ▸ ZoneRec.not_onset_self _)), State.noticedZone,
      if_pos (by rw [stands]), ← stands, s.setZoneRec_self]
    rfl
  · rw [if_pos rfl, if_pos rfl, State.takeZone_of_none (.inl (ZoneRec.not_onset_cleared _)), State.noticedZone, if_neg ?_]
    · rfl
    · rw [stands]
      exact fun same => nomatch congrArg ZoneFace.state same

/-! ## The alert unit (R130, R137) -/

/-- The unit's copy shows no occupied zone, and the chime is off. -/
structure Alert.Calm (a : Alert) : Prop where
  level : a.level = .off
  warn : a.hzWarn = false
  caution : a.hzCaution = false
  copies : ∀ z : Zone, a.copies[z].occupied = false

theorem Alert.atReset_calm (started : Bool) (flags : BitVec 8) (duty : Nat) : (Alert.atReset started flags duty).Calm :=
  ⟨rfl, rfl, rfl, fun z => by simp [Alert.atReset, ZoneFace.occupied]⟩

/-- R130: a calm unit stays as it is. -/
theorem Alert.Calm.follow {a : Alert} (h : a.Calm) (b : Body) : a.follow b = a := by
  have still : ∀ z : Zone, a.copies[z].warns = false ∧ a.copies[z].cautions = false := fun z => by
    have free : ¬ a.copies[z].occupied = true := by simp only [h.copies z, Bool.false_eq_true, not_false_eq_true]
    rw [ZoneFace.occupied_iff, not_or] at free
    exact ⟨Bool.eq_false_iff.mpr free.1, Bool.eq_false_iff.mpr free.2⟩
  have unmet : ((List.finRange 8).any fun _ => false) = false := rfl
  have level : chimeLevelOf a.flags a.copies = a.level := by
    simp only [chimeLevelOf, still, h.level, Bool.false_and, Bool.and_false, unmet, Bool.false_eq_true, if_false]
  have warn : hzWarnOf a.copies = a.hzWarn := by
    simp only [hzWarnOf, still, h.warn, unmet]
  have caution : hzCautionOf a.copies = a.hzCaution := by
    simp only [hzCautionOf, h.copies, h.caution, unmet]
  rw [Alert.follow, level, warn, caution]
  exact if_pos rfl

/-- The unit's copies replaced. -/
def Alert.withCopies (a : Alert) (copies : Vector ZoneFace 8) : Alert := { a with copies := copies }

/-- R130: a calm unit takes a CLEAR zone into its copy. -/
theorem State.clearZone_alert {s : State} (h : s.alert.Calm) (z : Zone) :
    (s.clearZone z).alert.Calm ∧ ∃ copies, (s.clearZone z).alert = s.alert.withCopies copies := by
  have told : (s.clearZone z).alert =
      if s.alert.started then (s.alert.withCopies (s.alert.copies.set z ZoneRec.cleared.face)).follow s.body else s.alert := rfl
  have calm : (s.alert.withCopies (s.alert.copies.set z ZoneRec.cleared.face)).Calm := by
    refine ⟨h.level, h.warn, h.caution, fun y => ?_⟩
    by_cases e : y = z
    · subst e
      simp [Alert.withCopies, ZoneRec.cleared, ZoneRec.atReset, ZoneRec.toClear, ZoneRec.face, ZoneFace.occupied]
    · have apart : z.val ≠ y.val := fun same => e (Fin.ext same.symm)
      simpa [Alert.withCopies, apart] using h.copies y
  rw [told, calm.follow]
  split
  · exact ⟨calm, _, rfl⟩
  · exact ⟨h, s.alert.copies, rfl⟩

/-! ## The notices (R126, R182) -/

/-- Messages at the tail of a controller's outbound queue. -/
def LinkCtl.joined (c : LinkCtl) (q : List OutMsg) : LinkCtl := { c with outbound := c.outbound ++ q }

theorem LinkCtl.joined_nil (c : LinkCtl) : c.joined [] = c := by
  rw [LinkCtl.joined, List.append_nil]

theorem LinkCtl.joined_joined (c : LinkCtl) (q p : List OutMsg) : (c.joined q).joined p = c.joined (q ++ p) := by
  rw [LinkCtl.joined, LinkCtl.joined, LinkCtl.joined, List.append_assoc]

/-- R182: a notice of a new subject joins a queue with room. -/
theorem LinkCtl.pushNotice_new {c : LinkCtl} {m : OutMsg} (new : ∀ q ∈ c.outbound, q.notice ≠ m.notice)
    (room : c.outbound.length < 12) : c.pushNotice m = c.joined [m] := by
  refine LinkCtl.pushNotice_joins (List.findIdx?_eq_none_iff.mpr fun q waits => ?_) room
  simpa using new q waits

/-- R126: the ZONE notice of a zone made CLEAR. -/
def clearedMsg (z : Zone) : OutMsg := noticeMsg .zone z.val [1, 0, 0, 0, 0, 0]

theorem State.clearZone_ctl {s : State} (running : s.phase = .running) {l : Link} {z : Zone}
    (new : ∀ q ∈ (s.ctl l).outbound, q.notice ≠ some (.zone, z.val)) (room : (s.ctl l).outbound.length < 12) :
    (s.clearZone z).ctl l = (s.ctl l).joined (if s.body.wantsNotice l.ix.val 0 then [clearedMsg z] else []) := by
  have raised : (s.clearZone z).ctl l = ((s.setZoneRec z ZoneRec.cleared).raise .zone z.val ZoneRec.cleared.fields).ctl l := rfl
  have pushed : (s.ctl l).pushNotice (clearedMsg z) = (s.ctl l).joined [clearedMsg z] := LinkCtl.pushNotice_new new room
  have ctl : (s.setZoneRec z ZoneRec.cleared).ctl l = s.ctl l := rfl
  have told : noticeMsg .zone z.val ZoneRec.cleared.fields = clearedMsg z := rfl
  rw [raised, State.raise_pushes (s := s.setZoneRec z ZoneRec.cleared) running, told, ctl, pushed]
  show (if s.body.wantsNotice l.ix.val 0 = true then _ else _) = _
  split
  · rfl
  · rw [LinkCtl.joined_nil]

/-- R182: what the zones of a list put into a link's queue. -/
def State.zoneNotices (s : State) (l : Link) (q : List Zone) : List OutMsg :=
  if s.body.wantsNotice l.ix.val 0 then (q.filter s.clears).map clearedMsg else []

theorem State.zoneNotices_cons (s : State) (l : Link) (z : Zone) (q : List Zone) :
    s.zoneNotices l (z :: q) =
      (if s.clears z then if s.body.wantsNotice l.ix.val 0 then [clearedMsg z] else [] else []) ++ s.zoneNotices l q := by
  unfold State.zoneNotices
  by_cases clears : s.clears z <;> by_cases wants : s.body.wantsNotice l.ix.val 0 = true <;> simp [clears, wants]

/-! ## The zones one after another (log 34) -/

/-- The zones of q stand at their reset values yet, and the queues have room for their notices. -/
structure State.Awaits (s : State) (q : List Zone) : Prop where
  running : s.phase = .running
  conds : s.vehicle.conds = Conditions.atReset
  alert : s.alert.Calm
  once : q.Nodup
  zones : ∀ z ∈ q, s.zoneRec z = ZoneRec.atReset
  new : ∀ l, ∀ m ∈ (s.ctl l).outbound, ∀ z ∈ q, m.notice ≠ some (.zone, z.val)
  room : ∀ l, (s.ctl l).outbound.length + q.length ≤ 12

section
variable {s : State} {z : Zone} {q : List Zone} (h : s.Awaits (z :: q))
include h

theorem State.Awaits.skip : s.Awaits q :=
  ⟨h.running, h.conds, h.alert, (List.nodup_cons.mp h.once).2, fun y waits => h.zones y (List.mem_cons_of_mem z waits),
    fun l m sits y waits => h.new l m sits y (List.mem_cons_of_mem z waits), fun l => by
      have room := h.room l
      rw [List.length_cons] at room
      omega⟩

theorem State.Awaits.clearZone_ctl (l : Link) :
    (s.clearZone z).ctl l = (s.ctl l).joined (if s.body.wantsNotice l.ix.val 0 then [clearedMsg z] else []) := by
  refine State.clearZone_ctl h.running (fun m sits => h.new l m sits z List.mem_cons_self) ?_
  have room := h.room l
  rw [List.length_cons] at room
  omega

theorem State.Awaits.clear : (s.clearZone z).Awaits q := by
  obtain ⟨fresh, once⟩ := List.nodup_cons.mp h.once
  have apart : ∀ y ∈ q, y ≠ z := fun y waits e => fresh (e ▸ waits)
  refine ⟨h.running, h.conds, (State.clearZone_alert h.alert z).1, once, fun y waits => ?_, fun l m sits y waits => ?_, fun l => ?_⟩
  · exact (s.zoneRec_setZoneRec_of_ne z y ZoneRec.cleared (apart y waits)).trans (h.zones y (List.mem_cons_of_mem z waits))
  · rw [h.clearZone_ctl l] at sits
    rcases List.mem_append.mp sits with old | own
    · exact h.new l m old y (List.mem_cons_of_mem z waits)
    · split at own
      · obtain rfl := List.mem_singleton.mp own
        intro same
        have place : z.val = y.val := congrArg Prod.snd (Option.some.inj same)
        exact apart y waits (Fin.ext place.symm)
      · cases own
  · have room := h.room l
    rw [List.length_cons] at room
    rw [h.clearZone_ctl l, LinkCtl.joined, List.length_append]
    split
    · rw [List.length_singleton]
      omega
    · rw [List.length_nil]
      omega

end

/-- R128: what the first evaluation of the zones of a list tells the alert unit and the links. -/
theorem State.Awaits.looked {q : List Zone} {s : State} (h : s.Awaits q) :
    (∃ copies, (q.foldl State.evaluateZone s).alert = s.alert.withCopies copies) ∧
      ∀ l, (q.foldl State.evaluateZone s).ctl l = (s.ctl l).joined (s.zoneNotices l q) := by
  induction q generalizing s with
  | nil =>
    refine ⟨⟨s.alert.copies, rfl⟩, fun l => ?_⟩
    simp [State.zoneNotices, LinkCtl.joined_nil]
  | cons z q ih =>
    rw [List.foldl_cons, State.evaluateZone_atReset h.conds (h.zones z List.mem_cons_self)]
    simp only [State.zoneNotices_cons]
    by_cases clears : s.clears z = true
    · obtain ⟨⟨copies, alert⟩, ctl⟩ := ih h.clear
      obtain ⟨-, own, first⟩ := State.clearZone_alert h.alert z
      rw [if_pos clears]
      refine ⟨⟨copies, by rw [alert, first]; rfl⟩, fun l => ?_⟩
      rw [ctl, h.clearZone_ctl, LinkCtl.joined_joined, if_pos clears]
      rfl
    · obtain ⟨alert, ctl⟩ := ih h.skip
      rw [if_neg clears]
      refine ⟨alert, fun l => ?_⟩
      rw [ctl, if_neg clears, List.nil_append]

/-! ## The arbiter (R148, R153) -/

/-- Without an onset the arbiter stays. -/
theorem State.OnsetsTaken.calm {t : State} {before after : Zone → ZoneRec} {a b : Arbiter} (h : t.OnsetsTaken before after a b)
    (none : ∀ z, ¬ (before z).Onset (after z)) : b = a := by
  obtain ⟨y, first, last, steps⟩ := State.onsetsTaken_iff.mp h
  have stays : ∀ n, n ≤ 8 → y n = a := by
    intro n le
    induction n with
    | zero => exact first
    | succ n ih => exact ((steps ⟨n, by omega⟩).1 (.inl (none _))).trans (ih (by omega))
  rw [← last]
  exact stays 8 (le_refl 8)

/-- R149: where no cause competes and the default view is shown without a cause, the choice leaves everything. -/
theorem State.choose_idle {s : State} (none : ∀ i, s.competes i = false) (view : s.arbiter.shownView = s.body.defaultView)
    (cause : s.arbiter.shownCause = .none) : s.choose = s := by
  have idle : s.candidate = .none := by
    rcases s.candidate_cases with ⟨idle, -⟩ | ⟨i, -, best⟩
    · exact idle
    · exact absurd best.1 (by simp [none i])
  have same : s.setShownCause .none = s := by
    rw [State.setShownCause, ← cause]
  have decided : s.decideView = s := by
    simp [State.decideView, idle, view, same]
  rw [State.choose, decided, State.noteView]
  exact if_pos ⟨rfl, rfl⟩

/-- R141: no LEVEL source holds at the conditions' fallbacks. -/
theorem CauseSource.holds_atReset (k : CauseSource) : k.holds Conditions.atReset = false := by
  cases k <;> rfl

theorem State.competes_atReset {s : State} (conds : s.vehicle.conds = Conditions.atReset)
    (arbiter : s.arbiter = Arbiter.atReset s.body.defaultView) (i : Cause) : s.competes i = false := by
  have quiet : (s.causeRec i).stage = .quiet := by
    simp [State.causeRec, arbiter, Arbiter.atReset]
  rw [Bool.eq_false_iff]
  intro competes
  rcases State.asking_iff.mp (State.competes_iff.mp competes).2.2 with ⟨-, woken⟩ | ⟨-, holds⟩
  · exact woken quiet
  · rw [conds, CauseSource.holds_atReset] at holds
    cases holds

/-! ## The first look -/

/-- The blocks that a first look reads stand at their reset values, and the queues hold a reply at most (R137, R187; Tables 6-10, 8-4). -/
structure State.Restarted (s : State) : Prop where
  running : s.phase = .running
  vehicle : s.vehicle = Vehicle.atReset
  zones : s.zones = Vector.replicate 8 ZoneRec.atReset
  arbiter : s.arbiter = Arbiter.atReset s.body.defaultView
  alert : s.alert.Calm
  replies : ∀ l, ∀ m ∈ (s.ctl l).outbound, m.notice = none
  few : ∀ l, (s.ctl l).outbound.length ≤ 1

/-- From s to t the first look has been taken, whatever the link controllers hold (R128, R153). -/
structure State.Looked (s t : State) : Prop where
  zones : ∀ z, (t.zoneRec z).state =
    if (s.body.zone z).enabled ∧ (s.body.zone z).armed Conditions.atReset then .clear else .idle
  arbiter : t.arbiter = s.arbiter
  alert : ∃ copies, t.alert = s.alert.withCopies copies
  rest : t.besideZones = s.besideZones

theorem State.Looked.links {s t u : State} (h : s.Looked t) (rest : u.besideLinks = t.besideLinks) : s.Looked u := by
  obtain ⟨zones, arbiter, ⟨copies, alert⟩, beside⟩ := h
  refine ⟨fun z => ?_, (congrArg State.arbiter rest :).trans arbiter, ⟨copies, (congrArg State.alert rest :).trans alert⟩,
    (State.besideZones_of_views (State.besideViews_of_links rest)).trans beside⟩
  rw [← zones z]
  exact (congrArg (fun v : State => (v.zoneRec z).state) rest :)

theorem State.Looked.raise {s t : State} (h : s.Looked t) (k : NoticeKind) (n : Nat) (f : List Byte) : s.Looked (t.raise k n f) :=
  h.links rfl

theorem State.Looked.settle {s t : State} (h : s.Looked t) : s.Looked t.settle := h.links rfl

theorem State.Looked.settings {s t : State} (h : s.Looked t) : t.settings = s.settings := (congrArg State.settings h.rest :)

theorem State.Looked.phase {s t : State} (h : s.Looked t) : t.phase = s.phase := (congrArg State.phase h.rest :)

section
variable {s : State} (h : s.Restarted)
include h

theorem State.Restarted.zoneRec (z : Zone) : s.zoneRec z = ZoneRec.atReset := by
  simp [State.zoneRec, h.zones]

theorem State.Restarted.conds : s.vehicle.conds = Conditions.atReset := by
  rw [h.vehicle]
  rfl

theorem State.Restarted.awaits : s.Awaits (List.finRange 8) where
  running := h.running
  conds := h.conds
  alert := h.alert
  once := List.nodup_finRange 8
  zones := fun z _ => h.zoneRec z
  new := fun l m sits z _ => by simp [h.replies l m sits]
  room := fun l => by
    have few := h.few l
    rw [List.length_finRange]
    omega

theorem State.Restarted.evaluated (z : Zone) : s.evaluated z = if s.clears z then ZoneRec.cleared else ZoneRec.atReset := by
  unfold State.evaluated State.clears
  rw [h.zoneRec, h.conds, ZoneRec.evaluate_atReset]
  cases (s.body.zone z).enabled <;> rfl

/-- R128: no zone of a restart enters WARNING. -/
theorem State.Restarted.not_onset (z : Zone) : ¬ (s.zoneRec z).Onset (s.evaluated z) := by
  rw [h.evaluated, h.zoneRec]
  split
  · exact ZoneRec.not_onset_cleared _
  · exact ZoneRec.not_onset_self _

/-- R128, R153: the zones are evaluated, the arbiter finds no cause, and the links hear of the zones made CLEAR. -/
theorem State.Restarted.firstLook :
    s.Looked s.firstLook ∧ ∀ l, s.firstLook.ctl l = (s.ctl l).joined (s.zoneNotices l (List.finRange 8)) := by
  obtain ⟨zones, rest, onsets⟩ := s.evaluateZones_taken
  have looked : (∃ copies, s.evaluateZones.alert = s.alert.withCopies copies) ∧
      ∀ l, s.evaluateZones.ctl l = (s.ctl l).joined (s.zoneNotices l (List.finRange 8)) := h.awaits.looked
  obtain ⟨alert, ctl⟩ := looked
  rw [State.firstLook]
  generalize s.evaluateZones = t at *
  have arbiter : t.arbiter = s.arbiter := onsets.calm h.not_onset
  have body := State.body_of_besideZones rest
  have vehicle : t.vehicle = s.vehicle := (congrArg State.vehicle rest :)
  have stands : t.arbiter = Arbiter.atReset t.body.defaultView := by
    rw [arbiter, body, h.arbiter]
  have none := State.competes_atReset (by rw [vehicle, h.conds]) stands
  rw [State.choose_idle none (by rw [stands]; rfl) (by rw [stands]; rfl)]
  refine ⟨⟨fun z => ?_, arbiter, alert, rest⟩, ctl⟩
  rw [zones, h.evaluated, apply_ite ZoneRec.state]
  exact if_congr (by simp [State.clears]) rfl rfl

end

end Sys2Proof.Machine
end

section
/-! The end of the settings load (R190): O57. -/

namespace Sys2Proof.Machine

/-- Each link's controller after a change of all of them. -/
theorem State.mapLinks_ctl (s : State) (f : Nat → LinkCtl → Nat → LinkCtl) (l : Link) :
    (s.mapLinks f).ctl l = f l.ix.val (s.ctl l) (1000 * s.body.ownerTimeout l) := by
  simp only [State.mapLinks, State.ctl, Fin.getElem_fin, Vector.getElem_mapIdx]
  rfl

/-- R182, R189: what a SETTINGS notice after the first look does to a link's queue. -/
theorem State.Restarted.settingsNotice {s : State} (h : s.Restarted) (f : List Byte) (l : Link) :
    (s.firstLook.raise .settings 0 f).ctl l =
      (s.ctl l).joined (s.zoneNotices l (List.finRange 8) ++
        if s.body.wantsNotice l.ix.val 4 then [noticeMsg .settings 0 f] else []) := by
  obtain ⟨looked, ctl⟩ := h.firstLook
  generalize s.firstLook = t at looked ctl
  have running : t.phase = .running := looked.phase.trans h.running
  have body : t.body = s.body := State.body_of_besideZones looked.rest
  have others : ∀ m ∈ (t.ctl l).outbound, m.notice ≠ some (.settings, 0) := fun m sits => by
    rw [ctl l] at sits
    rcases List.mem_append.mp sits with reply | zone
    · simp [h.replies l m reply]
    · unfold State.zoneNotices at zone
      split at zone
      · obtain ⟨z, -, rfl⟩ := List.mem_map.mp zone
        exact fun same => nomatch same
      · cases zone
  have count : (s.zoneNotices l (List.finRange 8)).length ≤ 8 := by
    unfold State.zoneNotices
    split
    · rw [List.length_map]
      exact (List.length_filter_le _ _).trans (by simp)
    · exact Nat.zero_le _
  have room : (t.ctl l).outbound.length < 12 := by
    have few := h.few l
    rw [ctl l, LinkCtl.joined, List.length_append]
    omega
  have pushed : (t.ctl l).pushNotice (noticeMsg .settings 0 f) = (t.ctl l).joined [noticeMsg .settings 0 f] :=
    LinkCtl.pushNotice_new others room
  rw [State.raise_pushes running, body, pushed, ← LinkCtl.joined_joined, ← ctl l]
  show (if s.body.wantsNotice l.ix.val 4 = true then _ else _) = _
  split
  · rfl
  · rw [LinkCtl.joined_nil]

/-! ## The blocks started from the working copy (R190) -/

section
variable (s : State) (found : Option Body)

/-- R190: the blocks as the end of the load starts them, before their first look. -/
def State.started : State :=
  let s2 := ((({ s with
      phase := .running, settings := s.settings.loaded found, receivers := Vector.replicate 4 Receiver.atReset } :
      State).restartRegulators.restartTables).mapLinks fun _ => LinkCtl.start)
  { s2 with alert := Alert.atReset true s2.body.chimeFlags s2.body.chimeVolume }

theorem State.endLoad_eq :
    s.endLoad found = (s.started found).firstLook.raise .settings 0 (s.started found).firstLook.settings.fields := rfl

theorem State.started_ctl (l : Link) :
    (s.started found).ctl l = (s.ctl l).start (1000 * (found.getD Body.builtIn).ownerTimeout l) :=
  State.mapLinks_ctl _ _ l

theorem State.started_restarted : (s.started found).Restarted where
  running := rfl
  vehicle := rfl
  zones := rfl
  arbiter := rfl
  alert := Alert.atReset_calm _ _ _
  replies := fun l m sits => by
    rw [State.started_ctl] at sits
    cases sits
  few := fun l => by
    rw [State.started_ctl]
    exact Nat.zero_le 1

end

theorem whileLoading_loading {s : State} (h : s.phase = .loading) (found : Option Body) :
    whileLoading s found = .next (s.endLoad found).settle := congrArg Host.Outcome.next (if_pos h)

/-- Settles O57: the blocks start from the working copy, and the first look leaves all but CLEAR zones as they start. -/
theorem loadEndStartsTheBlocks : Obligations.LoadEndStartsTheBlocks := by
  intro s i found loading ends
  have next : exec i s = .next (s.endLoad found).settle := by
    rcases ends with ⟨rfl, rfl⟩ | ⟨rfl | rfl, rfl⟩ <;> exact whileLoading_loading loading _
  have restarted := s.started_restarted found
  obtain ⟨looked, -⟩ := restarted.firstLook
  have loaded : (s.started found).firstLook.settings = s.settings.loaded found := looked.settings
  have raised := restarted.settingsNotice (s.settings.loaded found).fields
  have ended := s.endLoad_eq found
  rw [loaded] at ended
  rw [← ended] at raised
  have after : (s.started found).Looked (s.endLoad found).settle := ended ▸ (looked.raise _ _ _).settle
  generalize s.endLoad found = u at *
  obtain ⟨zones, arbiter, ⟨copies, alert⟩, rest⟩ := after
  have settings : u.settle.settings = s.settings.loaded found := (congrArg State.settings rest :)
  have vehicle : u.settle.vehicle = Vehicle.atReset := (congrArg State.vehicle rest :)
  have regulators : u.settle.regulators = (s.started found).regulators := (congrArg State.regulators rest :)
  have slots : u.settle.slot = (s.started found).slot := (congrArg State.slot rest :)
  have receivers : u.settle.recv = (s.started found).recv := (congrArg State.recv rest :)
  refine ⟨u.settle, found.getD Body.builtIn, next, rfl, (congrArg State.phase rest :), (congrArg SettingsBlock.working settings :),
    (congrArg SettingsBlock.committed settings :), (congrArg SettingsBlock.state settings :),
    (congrArg SettingsBlock.staging settings :), (congrArg SettingsBlock.serviceIn settings :),
    (congrArg SettingsBlock.exitPending settings :), (congrArg SettingsBlock.commit settings :),
    (congrArg SettingsBlock.lastWrite settings :), (congrArg SettingsBlock.load settings :),
    (congrArg SettingsBlock.memory settings :), fun c => ?_, fun c => ?_, fun i => ?_, vehicle, vehicle ▸ rfl,
    (congrArg State.tracks rest :), zones, (congrArg Alert.started alert :), (congrArg Alert.level alert :),
    (congrArg Alert.hzWarn alert :), (congrArg Alert.hzCaution alert :), (congrArg Alert.toneDuty alert :), arbiter, fun l => ?_,
    (congrArg State.supply rest :), (congrArg State.generator rest :), (congrArg State.frame rest :),
    (congrArg State.pictures rest :), (congrArg State.resetLineHigh rest :), (congrArg State.pending rest :)⟩
  · rw [receivers]
    exact Vector.getElem_replicate c.isLt
  · rw [State.reg, regulators]
    exact Vector.getElem_ofFn c.isLt
  · rw [slots]
    exact Vector.getElem_replicate i.isLt
  · obtain ⟨inbound, outbound, flags, ownerTimer, -⟩ := u.settle_ctl l
    rw [inbound, outbound, flags, ownerTimer, raised l, State.started_ctl, settings]
    refine ⟨rfl, rfl, rfl, fun wants => ?_⟩
    have body : (s.started found).body = found.getD Body.builtIn := rfl
    rw [body, if_pos wants, ← LinkCtl.joined_joined]
    exact List.getLast?_concat

end Sys2Proof.Machine
end

section
/-! The warm reset (R195), by the RESET_N line and by a RESET request: O58. -/

namespace Sys2Proof.Machine

/-! ## The blocks after a warm reset -/

/-- R171: a warm reset blackens the frame that is drawn, from rows that an earlier one has fixed already. -/
theorem Frame.blacken_eq (f : Frame) (free : Nat) :
    ∃ rows, f.blacken free = { f with blackFrom := some rows } ∧ ∀ b, f.blackFrom = some b → rows = b := by
  cases black : f.blackFrom with
  | none =>
    exact ⟨(Config.monitorRowsDrawn free % 481, Config.recorderRowsDrawn free % 481), by simp only [Frame.blacken, black],
      fun b same => nomatch same⟩
  | some rows => exact ⟨rows, by simp only [Frame.blacken, black], fun b same => Option.some.inj same⟩

/-- R174: what a CAN port that is sending nothing has up at the end of a step. -/
def LinkCtl.headUp (c : LinkCtl) (b : Body) (i : Nat) : Option Transit :=
  if c.busOff then none
  else c.outbound.head?.map fun m =>
    { msg := some m, ident := b.canId i (if m.notice.isSome then 2 else 1), removesHead := true, disregard := false }

theorem LinkCtl.putUp_transit {c : LinkCtl} (idle : c.transit = none) (b : Body) (i : Nat) :
    (c.putUp b i).transit = c.headUp b i := by
  unfold LinkCtl.headUp
  cases off : c.busOff with
  | true =>
    rw [LinkCtl.putUp_busOff b i off, idle]
    rfl
  | false =>
    cases queue : c.outbound with
    | nil => rw [LinkCtl.putUp_empty b i idle queue]; rfl
    | cons m rest => rw [LinkCtl.putUp_head b i idle off queue]; rfl

/-- From s to t the blocks have taken their warm-reset values and the first look, and every queue but the outbound ones is known. -/
structure State.WarmRestarted (s t : State) : Prop where
  looked : s.warmBlocks.Looked t
  ctl : ∀ l, (t.ctl l).inbound = [] ∧ (t.ctl l).flags = EventFlags.clear ∧ (t.ctl l).busOff = (s.ctl l).busOff ∧
    (t.ctl l).ownerTimer = some (1000 * s.body.ownerTimeout l)
  detector : (t.ctl .detector).transit =
    (s.ctl .detector).transit.map fun f => { f with removesHead := false, disregard := true }
  ports : ∀ p : CanPort, (t.ctl p.link).transit = (t.ctl p.link).headUp s.body p.link.ix.val

/-- The notices of a warm reset of s to t on a link: the zones made CLEAR, and the end of service state (log 38). -/
def State.resetNotices (s t : State) (l : Link) : List OutMsg :=
  s.zoneNotices l (List.finRange 8) ++
    if s.settings.serviceIn && s.body.wantsNotice l.ix.val 4 then [noticeMsg .settings 0 t.settings.fields] else []

section
variable (s : State)

theorem State.warmBlocks_ctl (l : Link) :
    s.warmBlocks.ctl l = (s.ctl l).warmReset l.ix.val (1000 * s.body.ownerTimeout l) :=
  State.mapLinks_ctl _ _ l

/-- R187: what `first` puts into the emptied queues is all they hold before the first look. -/
theorem State.warmBlocks_restarted {u : State} (running : s.phase = .running) (beside : u.besideLinks = s.warmBlocks.besideLinks)
    {q : Link → List OutMsg} (ctl : ∀ l, u.ctl l = (s.warmBlocks.ctl l).joined (q l))
    (replies : ∀ l, ∀ m ∈ q l, m.notice = none) (few : ∀ l, (q l).length ≤ 1) : u.Restarted := by
  have queue : ∀ l, (u.ctl l).outbound = q l := fun l => by
    rw [ctl, State.warmBlocks_ctl]
    exact List.nil_append _
  have alert : u.alert = Alert.atReset s.alert.started s.alert.flags s.alert.toneDuty := (congrArg State.alert beside :)
  exact
    { running := (congrArg State.phase beside :).trans running
      vehicle := (congrArg State.vehicle beside :)
      zones := (congrArg State.zones beside :)
      arbiter := (congrArg (fun v : State => v.arbiter) beside :).trans
        (congrArg (fun v : State => Arbiter.atReset v.body.defaultView) beside.symm :)
      alert := alert ▸ Alert.atReset_calm _ _ _
      replies := fun l m sits => replies l m (queue l ▸ sits)
      few := fun l => (queue l).symm ▸ few l }

theorem State.Looked.of_links {s t u : State} (h : s.Looked t) (beside : s.besideLinks = u.besideLinks) : u.Looked t := by
  obtain ⟨zones, arbiter, ⟨copies, alert⟩, rest⟩ := h
  have body : s.body = u.body := (congrArg State.body beside :)
  exact ⟨body ▸ zones, arbiter.trans (congrArg State.arbiter beside :),
    ⟨copies, alert.trans (congrArg (fun v : State => v.alert.withCopies copies) beside :)⟩,
    rest.trans (State.besideZones_of_views (State.besideViews_of_links beside))⟩

/-- R174, R187: the emptied queues with what has joined them, and the ports at the end of the step. -/
theorem State.Looked.warmRestarted {w : State} (looked : s.warmBlocks.Looked w) {q : Link → List OutMsg}
    (ctl : ∀ l, w.ctl l = (s.warmBlocks.ctl l).joined (q l)) :
    s.WarmRestarted w.settle ∧ ∀ l, (w.settle.ctl l).outbound = q l := by
  have empty : ∀ l, w.ctl l = ((s.ctl l).warmReset l.ix.val (1000 * s.body.ownerTimeout l)).joined (q l) := fun l => by
    rw [ctl, State.warmBlocks_ctl]
  have body : w.body = s.body := (State.body_of_besideZones looked.rest :).trans rfl
  refine ⟨⟨looked.settle, fun l => ?_, ?_, fun p => ?_⟩, fun l => ?_⟩
  · obtain ⟨inbound, -, flags, ownerTimer, busOff⟩ := w.settle_ctl l
    rw [inbound, flags, ownerTimer, busOff, empty]
    exact ⟨rfl, rfl, rfl, rfl⟩
  · rw [State.settle_detector, empty]
    rfl
  · have idle : (w.ctl p.link).transit = none := by
      rw [empty]
      exact if_pos (CanPort.link_lt p)
    obtain ⟨-, outbound, -, -, busOff⟩ := w.settle_ctl p.link
    rw [LinkCtl.headUp, outbound, busOff, State.settle_port, LinkCtl.putUp_transit idle, body]
    rfl
  · rw [(w.settle_ctl l).2.1, empty]
    exact List.nil_append _

/-- R195: the warm reset whose `first` puts q into the emptied queues. -/
theorem State.warmReset_restarts (running : s.phase = .running) {first : State → State}
    (beside : (first s.warmBlocks).besideLinks = s.warmBlocks.besideLinks) {q : Link → List OutMsg}
    (ctl : ∀ l, (first s.warmBlocks).ctl l = (s.warmBlocks.ctl l).joined (q l)) (replies : ∀ l, ∀ m ∈ q l, m.notice = none)
    (few : ∀ l, (q l).length ≤ 1) :
    s.WarmRestarted (s.warmReset first).settle ∧
      ∀ l, ((s.warmReset first).settle.ctl l).outbound = q l ++ s.resetNotices (s.warmReset first).settle l := by
  have restarted := s.warmBlocks_restarted running beside ctl replies few
  have reset : s.warmReset first = State.noteServiceEnd s (first s.warmBlocks).firstLook := rfl
  obtain ⟨looked, told⟩ := restarted.firstLook
  have raised := restarted.settingsNotice (first s.warmBlocks).firstLook.settings.fields
  have body : (first s.warmBlocks).body = s.body := (congrArg State.body beside :)
  have notices : ∀ l, (first s.warmBlocks).zoneNotices l (List.finRange 8) = s.zoneNotices l (List.finRange 8) := fun l => by
    unfold State.zoneNotices State.clears
    rw [body]
  generalize first s.warmBlocks = u at *
  generalize u.firstLook = v at *
  rw [reset]
  cases inside : s.settings.serviceIn with
  | true =>
    have noted : State.noteServiceEnd s v = v.raise .settings 0 v.settings.fields := if_pos inside
    rw [noted]
    have joined : ∀ l, (v.raise .settings 0 v.settings.fields).ctl l =
        (s.warmBlocks.ctl l).joined (q l ++ s.resetNotices (v.raise .settings 0 v.settings.fields).settle l) := fun l => by
      rw [raised, ctl, LinkCtl.joined_joined, notices, body, State.resetNotices, inside]
      rfl
    exact ((looked.raise _ _ _).of_links beside).warmRestarted s joined
  | false =>
    have noted : State.noteServiceEnd s v = v := if_neg (by simp [inside])
    rw [noted]
    have joined : ∀ l, v.ctl l = (s.warmBlocks.ctl l).joined (q l ++ s.resetNotices v.settle l) := fun l => by
      rw [told, ctl, LinkCtl.joined_joined, notices, State.resetNotices, inside, Bool.false_and, if_neg Bool.false_ne_true,
        List.append_nil]
    exact (looked.of_links beside).warmRestarted s joined

end

/-! ## The RESET_N line and the RESET request -/

section
variable {s : State}

theorem State.lineFalls_resets (running : s.phase = .running) (high : s.resetLineHigh = true) :
    s.lineFalls = (State.warmReset { s with resetLineHigh := false } id).settle := by
  simp [State.lineFalls, running, high]

/-- R195: with the line low already, or before the blocks have started, the fall changes the line alone. -/
theorem State.lineFalls_idle (idle : s.phase ≠ .running ∨ s.resetLineHigh = false) :
    s.lineFalls = { s with resetLineHigh := false } := by
  cases high : s.resetLineHigh with
  | true =>
    have stopped : s.phase ≠ .running := idle.resolve_right (by simp [high])
    simp [State.lineFalls, stopped, high]
  | false => rw [State.lineFalls, if_neg (by simp [high]), ← high]

section
variable {l : Link} {r : Request} (h : s.Ready l .reset r)
include h

theorem State.Ready.answerReset_eq :
    s.answerReset l =
      if l ≠ .chassis then (s.taken l).reply l r (.refuse .notPermitted) else (s.taken l).warmReset fun t => t.reply l r .done := by
  obtain ⟨rest, queue⟩ := List.head?_eq_some_iff.mp h.head
  have taken : s.taken l = s.setCtl l { s.ctl l with inbound := rest } := by rw [State.taken, queue]; rfl
  rw [State.answerReset, State.takeHead_ready queue h.room h.row, ← taken]
  simp [h.long]

end

/-- The request that has left its queue is no part of what the reset leaves. -/
theorem State.taken_sending (s : State) (l m : Link) :
    ((s.taken l).ctl m).busOff = (s.ctl m).busOff ∧ ((s.taken l).ctl m).transit = (s.ctl m).transit := by
  by_cases e : m = l
  · subst e
    rw [State.taken, State.ctl_setCtl_self]
    exact ⟨rfl, rfl⟩
  · rw [State.taken, State.ctl_setCtl_of_ne _ _ _ _ e]
    exact ⟨rfl, rfl⟩

theorem State.WarmRestarted.of_taken {t : State} {l : Link} (h : (s.taken l).WarmRestarted t) : s.WarmRestarted t := by
  obtain ⟨looked, ctl, detector, ports⟩ := h
  refine ⟨looked.of_links rfl, fun m => ?_, ?_, ports⟩
  · rw [← (s.taken_sending l m).1]
    exact ctl m
  · rw [← (s.taken_sending l .detector).2]
    exact detector

end

/-- R187, R195: the reply of a RESET is the first message of the emptied queue. -/
theorem State.warmBlocks_reply (s : State) (l : Link) (r : Request) (m : Link) :
    (s.warmBlocks.reply l r .done).ctl m = (s.warmBlocks.ctl m).joined (if m = l then [replyMsg r .done] else []) := by
  by_cases e : m = l
  · subst e
    have room : (s.warmBlocks.ctl m).outbound.length < 12 := by
      rw [State.warmBlocks_ctl]
      exact Nat.zero_lt_succ 11
    rw [State.reply_ctl_self, if_pos rfl, ((s.warmBlocks.ctl m).pushReply_order (replyMsg r .done)).1 room]
    rfl
  · rw [State.reply_ctl_of_ne _ _ _ e, if_neg e, LinkCtl.joined_nil]

/-- Settles O58: the blocks restart, and a queue holds RESET's reply, the zones' notices and the end of service state, in this order. -/
theorem warmResetRestartsTheBlocks : Obligations.WarmResetRestartsTheBlocks := by
  unfold Obligations.WarmResetRestartsTheBlocks
  intro Reset Queued
  have reset : ∀ s t : State, s.phase = .running → s.WarmRestarted t → Reset s t := by
    intro s t running ⟨⟨zones, arbiter, ⟨copies, alert⟩, rest⟩, ctl, detector, ports⟩
    have phase : t.phase = .running := (congrArg State.phase rest :).trans running
    have frame : t.frame = s.frame.map fun f => f.blacken s.free := (congrArg State.frame rest :)
    have recv : t.recv = s.warmBlocks.recv := (congrArg State.recv rest :)
    have pict : ∀ c, t.pict c = (s.pict c).warmReset := fun c =>
      (congrArg (fun u : State => u.pict c) rest :).trans (Vector.getElem_map _ c.isLt)
    have reg : t.reg = s.warmBlocks.reg := (congrArg State.reg rest :)
    refine ⟨phase, fun c => ?_, fun c i => ?_, fun c => ?_, fun c => ?_, (congrArg State.table rest :),
      (congrArg State.vehicle rest :), (congrArg State.tracks rest :), zones, (congrArg Alert.level alert :),
      (congrArg Alert.segment alert :), (congrArg Alert.hzWarn alert :), (congrArg Alert.hzCaution alert :),
      (congrArg Alert.started alert :), arbiter, fun f drawn => ?_, fun none => ?_, (congrArg State.settings rest :), ctl,
      fun f sends => ?_, fun idle => ?_, fun p => ⟨fun silent => ?_, fun m queue joined head => ?_⟩, ?_,
      (congrArg State.supply rest :), (congrArg State.generator rest :), (congrArg State.pending rest :)⟩
    · rw [recv]
      exact Vector.getElem_map _ c.isLt
    · rw [pict, Picture.warmReset_slot]
      simp [PicSlot.warmReset]
    · rw [pict]
      exact ⟨rfl, rfl, rfl⟩
    · rw [reg]
      exact Vector.getElem_ofFn c.isLt
    · obtain ⟨rows, black, kept⟩ := f.blacken_eq s.free
      exact ⟨rows, by rw [frame, drawn, ← black]; rfl, kept⟩
    · rw [frame, none]
      rfl
    · rw [detector, sends]
      rfl
    · rw [detector, idle]
      rfl
    · rw [ports, LinkCtl.headUp, (ctl p.link).2.2.1]
      rcases silent with off | empty
      · exact if_pos off
      · rw [empty]
        exact ite_self _
    · rw [ports, LinkCtl.headUp, (ctl p.link).2.2.1, joined, head]
      rfl
    · rw [State.attention, phase]
      rfl
  refine ⟨fun s running high => ?_, fun s idle => congrArg Host.Outcome.next (State.lineFalls_idle idle), fun s => rfl,
    fun s r ready => ?_, fun s l r ready other => ?_⟩
  · have restarts := State.warmReset_restarts { s with resetLineHigh := false } running (first := id) rfl (q := fun _ => [])
      (fun l => (LinkCtl.joined_nil _).symm) (fun l m sits => (nomatch sits)) fun l => Nat.zero_le 1
    obtain ⟨restarted, queues⟩ := restarts
    have next : exec .resetN s = .next _ := congrArg Host.Outcome.next (State.lineFalls_resets running high)
    generalize (State.warmReset { s with resetLineHigh := false } id).settle = t at *
    have restart : Reset { s with resetLineHigh := false } t := reset _ t running restarted
    exact ⟨t, next, restart, (congrArg State.resetLineHigh restarted.looked.rest :), queues⟩
  · have restarts := (s.taken .chassis).warmReset_restarts ready.running (first := fun t => t.reply .chassis r .done) rfl
      ((s.taken .chassis).warmBlocks_reply .chassis r) (fun l m sits => ?_) fun l => ?_
    · obtain ⟨restarted, queues⟩ := restarts
      have next : exec (.reset .chassis) s = .next ((s.taken .chassis).warmReset fun t => t.reply .chassis r .done).settle := by
        refine (whileRunning_running ready.running _).trans ?_
        rw [ready.answerReset_eq, if_neg (not_not.mpr rfl)]
      generalize ((s.taken .chassis).warmReset fun t => t.reply .chassis r .done).settle = t at *
      have own := queues .chassis
      exact ⟨t, next, reset s t ready.running restarted.of_taken, (congrArg State.resetLineHigh restarted.looked.rest :),
        own ▸ rfl, own, fun l e => (queues l).trans (by rw [if_neg e]; rfl)⟩
    · split at sits
      · obtain rfl := List.mem_singleton.mp sits
        rfl
      · cases sits
    · split
      · exact le_refl 1
      · exact Nat.zero_le 1
  · refine ⟨_, whileRunning_running ready.running _, ?_⟩
    rw [ready.answerReset_eq, if_pos other]
    exact ⟨State.onlyReplied_of_links rfl, rfl⟩

end Sys2Proof.Machine
end

section
/-! SUPPORT. Which commands leave the phase, the frame memories, the zones, the alert and the settings block as they are: all but the
cameras', the zones', the vehicle's, the tracks', the settings block's and the resets'. -/

namespace Sys2Proof.Machine

/-! ## The part of the state that the picture and the monitoring are made of -/

/-- The phase, the frame memories, the zones, the alert and the settings block. -/
def State.scene (s : State) : Phase × Vector Picture 4 × Vector ZoneRec 8 × Alert × SettingsBlock :=
  (s.phase, s.pictures, s.zones, s.alert, s.settings)

theorem State.scene_of_besideViews {s t : State} (h : t.besideViews = s.besideViews) : t.scene = s.scene :=
  (congrArg State.scene h :)

theorem State.scene_of_besideTable {s t : State} (h : t.besideTable = s.besideTable) : t.scene = s.scene :=
  (congrArg State.scene h :)

/-! ## Through the blocks -/

theorem State.scene_closeFrame (s : State) : s.countDownTable.closeFrame.scene = s.scene := by
  have counted := State.scene_of_besideTable s.countDownTable_besideTable
  generalize s.countDownTable = u at counted
  exact counted

theorem State.scene_canFrame (s : State) (l : Link) (ident : BitVec 11) (payload : List Byte) :
    (s.canFrame l ident payload).scene = s.scene := by
  unfold State.canFrame
  repeat' split
  all_goals rfl

theorem State.scene_completeExchange (s : State) (half : List Byte) : (s.completeExchange half).scene = s.scene := by
  unfold State.completeExchange
  dsimp only
  repeat' split
  all_goals rfl

theorem State.scene_sendWord (s : State) (c : Camera) :
    (if (s.recv c).returnTimer = none then s else s.sendWord c).scene = s.scene := by
  split <;> rfl

theorem State.scene_ownerExpiry (s : State) (l : Link) : (s.ownerExpiry l).scene = s.scene := by
  unfold State.ownerExpiry
  split
  · rfl
  · exact (State.scene_of_besideViews (State.besideViews_clearMasks _ l)).trans
      (State.scene_of_besideTable (s.silenced_besideTable l))

theorem State.scene_dipExpiry (s : State) : s.dipExpiry.scene = s.scene := by
  unfold State.dipExpiry
  split <;> rfl

theorem State.scene_recoveryExpiry (s : State) : s.recoveryExpiry.scene = s.scene := by
  unfold State.recoveryExpiry
  split <;> rfl

theorem State.scene_answerUnknown (l : Link) (s : State) : (s.answerUnknown l).scene = s.scene := by
  unfold State.answerUnknown
  split
  · rfl
  · rename_i taken
    obtain ⟨rest, -, -, -, rfl⟩ := State.takeHead_eq taken
    rfl

/-! ## Through the requests -/

section
variable (l : Link) (r : Request) (s : State)

/-- Requests of the overlay object table. -/
theorem State.scene_objectRequests :
    (actObjectPut l r s).1.scene = s.scene ∧ (actObjectMove l r s).1.scene = s.scene ∧
    (actObjectStyle l r s).1.scene = s.scene ∧ (actTextSetCursor l r s).1.scene = s.scene ∧
    (actTextAppend l r s).1.scene = s.scene ∧ (actObjectRemove l r s).1.scene = s.scene := by
  unfold actObjectPut actObjectMove actObjectStyle actTextSetCursor actTextAppend actObjectRemove
  and_intros
  all_goals try dsimp only
  all_goals repeat' split
  all_goals rfl

theorem State.scene_viewRequest : (actViewRequest r s).1.scene = s.scene := by
  unfold actViewRequest
  dsimp only
  repeat' split
  on_goal 1 =>
    exact State.scene_of_besideViews ((State.besideViews_choose _).trans (s.besideViews_raiseCause _))
  all_goals rfl

theorem State.scene_viewMaskSet : (actViewMaskSet l r s).1.scene = s.scene := by
  unfold actViewMaskSet
  split
  · exact State.scene_of_besideViews (s.besideViews_maskCauses l _)
  · rfl

/-- Requests that read. -/
theorem State.scene_readings :
    (actStatusQuery l r s).1.scene = s.scene ∧ (actSettingsRead r s).1.scene = s.scene := by
  unfold actStatusQuery actSettingsRead
  and_intros
  all_goals try dsimp only
  all_goals repeat' split
  all_goals rfl

end

/-! ## The commands -/

/-- Whether a command is of no camera's rows, no zone, and leaves vehicle, tracks and settings block too. -/
def leavesScene : Instr → Bool
  | .frameStartRecord .. | .lineRecord .. | .blankingRecord .. | .silenceTimerExpiry _ | .errorWindowEnd _ => false
  | .concealmentCopyFinish _ | .outputFrameStart => false
  | .zoneAck _ | .holdTimerExpiry _ | .dwellPeriodEnd _ | .segmentTimerExpiry => false
  | i => keepsLedger i

section
variable {s t : State}

theorem State.scene_block {f : State → State} (keeps : ∀ u : State, (f u).scene = u.scene)
    (next : whileRunning s f = .next t) : t.scene = s.scene :=
  whileRunning_fixes State.scene (fun _ => rfl) f keeps next

theorem State.scene_request {row : RequestRow} {l : Link} {act : Request → State → State × Answer}
    (next : whileRunning s (answering row l act) = .next t) (keeps : ∀ r u, (act r u).1.scene = u.scene) :
    t.scene = s.scene :=
  State.scene_block (answering_fixes State.scene (fun _ _ _ => rfl) row l act keeps) next

theorem State.scene_link {l : Link} {f : LinkCtl → LinkCtl} (next : (whileRunning s fun u => u.onCtl l f) = .next t) :
    t.scene = s.scene :=
  State.scene_block (f := fun u => u.onCtl l f) (fun _ => rfl) next

theorem State.scene_powered {f : State → State} (keeps : ∀ u : State, (f u).scene = u.scene)
    (next : whilePowered s f = .next t) : t.scene = s.scene := by
  unfold whilePowered at next
  split at next
  all_goals obtain rfl := Host.Outcome.next.inj next
  · rfl
  · exact keeps s
  · exact keeps s

theorem State.scene_supply {f : Supply → Supply} (next : (whilePowered s fun u => u.setSupply (f u.supply)) = .next t) :
    t.scene = s.scene :=
  State.scene_powered (f := fun u => u.setSupply (f u.supply)) (fun _ => rfl) next

/-- A command whose answer is written out. -/
theorem State.scene_same {u : State} (next : (.next u : Host.Outcome State Fault Refusal) = .next t)
    (same : u.scene = s.scene) : t.scene = s.scene :=
  Host.Outcome.next.inj next ▸ same

/-- The commands of the other blocks leave frame memories, zones, alert and settings block. -/
theorem exec_scene {i : Instr} (leaves : leavesScene i = true) (next : exec i s = .next t) : t.scene = s.scene := by
  cases i with
  | returnTimerExpiry c => exact State.scene_block (fun u => u.scene_sendWord c) next
  | stopTimerExpiry c => exact State.scene_block (f := fun u => u.setReg c (u.reg c).stopExpiry) (fun _ => rfl) next
  | outputFrameEnd =>
    change execOutputFrameEnd s = .next t at next
    unfold execOutputFrameEnd at next
    split at next
    · exact State.scene_block State.scene_closeFrame next
    · exact State.scene_same next rfl
    · exact State.scene_same next rfl
  | objectPut l | objectMove l | objectStyle l | objectTextSetCursor l | objectTextAppend l | objectRemove l =>
    refine State.scene_request next fun r u => ?_
    have := State.scene_objectRequests l r u
    simp only [this]
  | objectRemoveAll l | stripSet l => exact State.scene_request next fun _ _ => rfl
  | viewRequest l => exact State.scene_request next State.scene_viewRequest
  | viewMaskSet l => exact State.scene_request next (State.scene_viewMaskSet l)
  | viewMaskClear l =>
    exact State.scene_request next fun _ u => State.scene_of_besideViews (u.besideViews_unmaskCauses l _)
  | statusQuery l => exact State.scene_request next fun r u => (State.scene_readings l r u).1
  | settingsRead l => exact State.scene_request next fun r u => (State.scene_readings l r u).2
  | ownerSilenceTimerExpiry l => exact State.scene_block (fun u => u.scene_ownerExpiry l) next
  | causeTimerExpiry i =>
    exact State.scene_block (fun u => State.scene_of_besideViews (u.besideViews_causeExpiry i)) next
  | showTimerExpiry => exact State.scene_block (fun u => State.scene_of_besideViews u.besideViews_showExpiry) next
  | canRequestFrame p ident payload => exact State.scene_block (fun u => u.scene_canFrame p.link ident payload) next
  | spiExchangeStart =>
    change execSpiExchangeStart s = .next t at next
    unfold execSpiExchangeStart at next
    split at next
    · exact State.scene_link next
    · exact State.scene_same next rfl
    · exact State.scene_same next rfl
  | spiExchange half =>
    change execSpiExchange half s = .next t at next
    unfold execSpiExchange at next
    split at next
    · refine State.scene_block (fun u => ?_) next
      split
      · rfl
      · exact u.scene_completeExchange half
    · exact State.scene_same next rfl
    · exact State.scene_same next rfl
  | spiExchangeCutShort =>
    change execSpiExchangeCutShort s = .next t at next
    unfold execSpiExchangeCutShort at next
    split at next
    · exact State.scene_block (f := State.cutExchange) (fun _ => rfl) next
    · exact State.scene_same next rfl
    · exact State.scene_same next rfl
  | canFrameAcknowledged p | canArbitrationLoss p | canBusError p | canBusOff p | canBusOffRecovery p =>
    exact State.scene_link next
  | unknownKind l => exact State.scene_block (State.scene_answerUnknown l) next
  | supplyFallBelow18V | supplyRiseTo18V | supplyRiseTo20V | supplyFallBelow20V => exact State.scene_supply next
  | dipTimerExpiry => exact State.scene_powered State.scene_dipExpiry next
  | recoveryTimerExpiry => exact State.scene_powered State.scene_recoveryExpiry next
  | resetNRise => exact State.scene_same next rfl
  | _ => cases leaves

end

end Sys2Proof.Machine
end

section
/-! SUPPORT. The picture slots of one camera as canonical memories (Table 2-1), through every operation on that camera. -/

namespace Sys2Proof.Machine

/-! ## Through the operations of the picture memory -/

/-- The pixels of every slot are in canonical form. -/
def Picture.Canonical (p : Picture) : Prop := ∀ i, Memory.wf Config.blankPixel (p.slot i).pixels

theorem Picture.atReset_canonical : Picture.atReset.Canonical := fun i => by
  rw [Picture.atReset_slot]
  exact ⟨List.Pairwise.nil, fun _ e => by cases e⟩

section
variable {p : Picture}

theorem Picture.Canonical.of_pixels {q : Picture} (h : p.Canonical) (same : ∀ i, (q.slot i).pixels = (p.slot i).pixels) :
    q.Canonical :=
  fun i => by rw [same]; exact h i

theorem Picture.Canonical.setSlot (h : p.Canonical) (i : SlotIx) {x : PicSlot} (wf : Memory.wf Config.blankPixel x.pixels) :
    (p.setSlot i x).Canonical := fun j => by
  rw [Picture.slot_setSlot]
  split
  · exact wf
  · exact h j

theorem Picture.Canonical.openFill (h : p.Canonical) (i : SlotIx) : (p.openFill i).Canonical := h.setSlot i (h i)

theorem Picture.Canonical.hold (h : p.Canonical) (i : SlotIx) (k : Holder) : (p.hold i k).Canonical := h.setSlot i (h i)

theorem Picture.Canonical.abandon (h : p.Canonical) (i : SlotIx) : (p.abandon i).Canonical :=
  h.of_pixels fun j => (p.abandon_slot i j).2.2

theorem Picture.Canonical.release (h : p.Canonical) (i : SlotIx) (k : Holder) : (p.release i k).Canonical := by
  unfold Picture.release
  split
  · exact h.setSlot i (h i)
  · exact h

theorem Picture.Canonical.complete (h : p.Canonical) (i : SlotIx) : (p.complete i).Canonical := by
  have retired : ∀ j, (p.setSlot j (p.slot j).retire).Canonical := fun j => h.setSlot j (h j)
  unfold Picture.complete
  dsimp only
  repeat' split
  · exact h.setSlot i (h i)
  · exact (retired _).setSlot i (retired _ i)
  · exact h.setSlot i (h i)

theorem Picture.Canonical.startCopy (h : p.Canonical) (g : Nat) (i : SlotIx) : (p.startCopy g i).Canonical :=
  h.of_pixels fun j => by rw [Picture.startCopy_slot]

theorem Picture.Canonical.finishCopy (h : p.Canonical) : p.finishCopy.Canonical := Picture.finishCopy_pixels_wf h

theorem Picture.Canonical.judge (h : p.Canonical) : p.judge.Canonical :=
  h.of_pixels fun i => by rw [Picture.judge_slot]; split <;> rfl

theorem Picture.Canonical.drop (h : p.Canonical) (k : Holder) : (p.drop k).Canonical := by
  unfold Picture.drop
  split
  · exact h.release _ k
  · exact h

theorem Picture.Canonical.moveHold (h : p.Canonical) (k : Holder) (uses : Bool) : (p.moveHold k uses).Canonical := by
  unfold Picture.moveHold
  repeat' split
  · exact h
  · exact (h.hold _ k).release _ k
  · exact h.hold _ k
  · exact h.drop k

/-- R34: the holds of the composers are no matter of the pixels. -/
theorem Picture.Canonical.frameStart (h : p.Canonical) (uses : Bool) : (p.frameStart uses).Canonical :=
  (h.judge.moveHold .monitor uses).moveHold .recorder true

/-- R42: a warm reset leaves the pixels. -/
theorem Picture.Canonical.warmReset (h : p.Canonical) : p.warmReset.Canonical :=
  h.of_pixels fun i => by rw [Picture.warmReset_slot]; rfl

end

/-! ## Through the operations on a camera -/

section
variable {s : State} {c : Camera} (h : (s.pict c).Canonical)
include h

theorem State.abandonFill_canonical : ((s.abandonFill c).pict c).Canonical := by
  cases fill : (s.recv c).fill with
  | none => rwa [State.abandonFill_of_no_fill fill]
  | some f =>
    rw [State.abandonFill_of_fill fill]
    simpa using h.abandon f.slot

theorem State.openFill_canonical (cycle : Nat) : ((s.openFill c cycle).pict c).Canonical := by
  have freed := State.abandonFill_canonical h
  unfold State.openFill
  dsimp only
  split
  · exact freed
  · simpa using freed.openFill _

/-- R29, R30: a fill that ends is abandoned or completes. -/
theorem State.endFill_canonical (f : Fill) : ((s.endFill c f).pict c).Canonical := by
  by_cases ends : s.endsAbandoned c f
  · rw [(State.endFill_abandons ends).1]; exact h.abandon f.slot
  · rw [(State.endFill_completes ends).1]; exact h.complete f.slot

/-- R32: the rows of a copy land. -/
theorem State.finishCopy_canonical : ((s.finishCopy c).pict c).Canonical := by
  unfold State.finishCopy
  split
  · exact h
  · have landed : ((s.setPict c (s.pict c).finishCopy).pict c).Canonical := by simpa using h.finishCopy
    dsimp only
    split
    · split
      · exact State.endFill_canonical landed _
      · exact landed
    · exact landed

/-- R18: a verdict marks groups and starts a copy. -/
theorem State.judgeGroup_canonical (f : Fill) (g : Nat) (check : Byte) : ((s.judgeGroup c f g check).pict c).Canonical :=
  h.of_pixels fun i => (s.judgeGroup_sameRows c f g check i).1

/-- R2: a row is stored. -/
theorem State.writeRow_canonical (f : Fill) (r : Nat) (k : RowRecord) : ((s.writeRow c f r k).pict c).Canonical := by
  rw [State.writeRow_pict]
  exact h.setSlot _ (Memory.store_wf _ _ _ _ (h _))

theorem State.lineInFill_canonical (r : Nat) (k : RowRecord) : ((s.lineInFill c r k).pict c).Canonical := by
  have finished : ∀ due : Bool, ((if due then s.finishCopy c else s).pict c).Canonical := fun due => by
    cases due
    · exact h
    · exact State.finishCopy_canonical h
  unfold State.lineInFill
  dsimp only
  split
  · exact finished _
  · have written := State.writeRow_canonical (finished (r % 8 == 0 && decide (8 ≤ r))) ‹Fill› r k
    split
    · exact State.judgeGroup_canonical written _ _ _
    · exact written

theorem State.lastInFill_canonical (k : RowRecord) : ((s.lastInFill c k).pict c).Canonical := by
  have finished := State.finishCopy_canonical h
  unfold State.lastInFill
  dsimp only
  split
  · exact finished
  · rw [(State.addStatusByte_statusOnly _ _).pict]
    unfold State.endIfDone
    have judged : ∀ (f : Fill) check, ((State.markJudged (State.judgeGroup
        ((s.finishCopy c).setRecv c { (s.finishCopy c).recv c with fill := some f }) c f 59 check) c).pict c).Canonical :=
      fun f check => State.judgeGroup_canonical (c := c) (by simpa using finished) f 59 check
    split
    · exact State.endFill_canonical (judged _ _) _
    · exact judged _ _

theorem State.takePlace_canonical (n : Nat) (k : RowRecord) : ((s.takePlace c n k).pict c).Canonical := by
  unfold State.takePlace
  repeat' split
  · exact h
  · exact State.lineInFill_canonical h _ k
  · exact State.lastInFill_canonical h k
  · exact State.finishCopy_canonical h
  · exact h

/-- R1 to R3, R6, R7, R10: a line or blanking record. -/
theorem State.rowRecord_canonical (k : RowRecord) : ((s.rowRecord c k).pict c).Canonical := by
  unfold State.rowRecord
  dsimp only
  split
  · exact h
  · exact h
  · split
    · simpa using h
    · simpa using h
  · split
    · simpa using State.abandonFill_canonical h
    · split
      · simpa using h
      · simp only [State.noteCamera_keeps]
        exact State.takePlace_canonical (by simpa using h) _ k

theorem State.rowArrives_canonical (k : RowRecord) : ((s.rowArrives c k).pict c).Canonical :=
  State.rowRecord_canonical (by simpa using h) k

/-- R6 to R10: a frame-start record. -/
theorem State.frameStart_canonical (cycle : Nat) : ((s.frameStart c cycle).pict c).Canonical := by
  unfold State.frameStart State.enterLocked
  dsimp only
  split
  · simpa using h
  · simpa using h
  · split
    · simpa using State.openFill_canonical (s := s.setRecv c _) (by simpa using h) cycle
    · simpa using h
  · split
    · simpa using h
    · split
      · simpa using State.openFill_canonical (s := s.setRecv c _) (by simpa using h) cycle
      · simpa using State.abandonFill_canonical h

/-- R4 -/
theorem State.fallSilent_canonical : ((s.fallSilent c).pict c).Canonical := by
  by_cases stopped : (s.recv c).silenceTimer = none
  · rwa [State.fallSilent, if_pos stopped]
  · rw [State.fallSilent_pict stopped]
    exact State.abandonFill_canonical h

/-- R13 -/
theorem State.windowEnd_canonical : ((s.windowEnd c).pict c).Canonical := by
  unfold State.windowEnd
  dsimp only
  split
  · exact h
  · split
    · simpa using State.abandonFill_canonical h
    · simpa using h

end

end Sys2Proof.Machine
end

section
/-! Every step keeps the picture slots and the settings memory in canonical form (Table 2-1, R188): O7. -/

namespace Sys2Proof.Machine

/-! ## What the two memories are -/

/-- The picture memories and the cells of the settings memory. -/
def State.stores (s : State) : Vector Picture 4 × Memory := (s.pictures, s.settings.memory.cells)

theorem State.stores_of_besideZones {s t : State} (h : t.besideZones = s.besideZones) : t.stores = s.stores :=
  (congrArg State.stores h :)

theorem State.stores_of_besideViews {s t : State} (h : t.besideViews = s.besideViews) : t.stores = s.stores :=
  (congrArg State.stores h :)

theorem State.stores_unless {s t : State} {P : Prop} [Decidable P] (h : t.stores = s.stores) :
    (if P then s else t).stores = s.stores := by
  split
  · rfl
  · exact h

section
variable {s t : State} (h : s.MemoryOk)
include h

theorem State.MemoryOk.picture (c : Camera) : (s.pict c).Canonical := h.1 c

theorem State.MemoryOk.of_stores (e : t.stores = s.stores) : t.MemoryOk := by
  obtain ⟨pictures, cells⟩ := Prod.mk.inj e
  exact ⟨fun c => by rw [State.pict, pictures]; exact h.1 c, by rw [cells]; exact h.2⟩

/-- What makes the pictures anew and keeps the cells of the settings memory. -/
theorem State.MemoryOk.of_pictures {b : SettingsBlock} (canonical : ∀ c, (t.pict c).Canonical) (settings : t.settings = b)
    (cells : b.memory.cells = s.settings.memory.cells) : t.MemoryOk :=
  ⟨canonical, by rw [settings, cells]; exact h.2⟩

/-- What touches one camera alone and leaves its slots canonical leaves them all so. -/
theorem State.MemoryOk.camera_moves {c : Camera} (beside : t.besideCamera c = s.besideCamera c)
    (canonical : (t.pict c).Canonical) : t.MemoryOk := by
  have settings : t.settings = s.settings := (congrArg State.settings beside :)
  refine ⟨fun d => ?_, settings ▸ h.2⟩
  by_cases hd : d = c
  · exact hd ▸ canonical
  · obtain ⟨-, pict, -⟩ := State.otherCameras_of_besideCamera beside d hd
    rw [pict]
    exact h.1 d

end

/-! ## The blocks that leave the two memories -/

theorem State.settingsStep_stores (b s : State) : (State.settingsStep b s).stores = s.stores :=
  State.stores_of_besideZones (State.besideZones_settingsStep b s)

theorem State.askServiceEnd_stores (s : State) : s.askServiceEnd.stores = s.stores := by
  unfold State.askServiceEnd
  split <;> rfl

theorem State.movingEnds_stores (b s : State) : (State.movingEnds b s).stores = s.stores := by
  unfold State.movingEnds
  split
  · exact s.askServiceEnd_stores
  · rfl

theorem State.takeVehicle_stores (s : State) (v : Vehicle) : (s.takeVehicle v).stores = s.stores := by
  rw [State.takeVehicle, State.stores_of_besideZones (State.besideZones_handOn _ _),
    State.stores_of_besideZones (State.besideZones_noteSettings _ _), State.movingEnds_stores]
  rfl

theorem State.bodyReport_stores (s : State) (cycling : Bool) (c : Contacts) : (s.bodyReport cycling c).stores = s.stores := by
  unfold State.bodyReport
  dsimp only
  rw [State.stores_of_besideZones (State.besideZones_handOn _ _)]
  split
  · rfl
  · rw [State.stores_of_besideZones (State.besideZones_recountZones _)]
    rfl

theorem State.setPlace_stores (s : State) (p : Place) (k : Option Track) : (s.setPlace p k).stores = s.stores :=
  (State.stores_of_besideZones (State.besideZones_recountZones _)).trans rfl

theorem State.applyCommit_stores (s : State) (new : Body) : (s.applyCommit new).stores = s.stores := by
  have table : ∀ u : State, u.commitTable.stores = u.stores := fun u =>
    State.foldl_fixes _ State.stores (fun t l => by split <;> rfl) _ _
  have alerted : ∀ u : State, u.alertCommit.stores = u.stores := fun _ => rfl
  unfold State.applyCommit
  dsimp only
  rw [State.stores_of_besideViews (State.besideViews_arbiterCommit _), alerted,
    State.stores_of_besideZones (State.besideZones_commitZones _), State.stores_of_besideZones (State.besideZones_noteSettings _ _),
    State.commitVehicle, State.movingEnds_stores]
  exact table _

section
variable (l : Link) (r : Request) (s : State)

theorem actVehicleState_stores : (actVehicleState l r s).1.stores = s.stores := by
  unfold actVehicleState
  repeat' split
  on_goal 3 => exact State.takeVehicle_stores _ _
  all_goals rfl

theorem actBodyState_stores : (actBodyState l r s).1.stores = s.stores := by
  unfold actBodyState
  repeat' split
  on_goal 3 => exact State.bodyReport_stores _ _ _
  all_goals rfl

theorem actTrackUpdate_stores : (actTrackUpdate l r s).1.stores = s.stores := by
  rcases actTrackUpdate_cases l r s with same | ⟨p, cls, -, -, placed⟩
  · rw [same]
  · rw [placed, State.setPlace_stores]

theorem actTrackDrop_stores : (actTrackDrop l r s).1.stores = s.stores := by
  rcases actTrackDrop_cases l r s with same | ⟨p, dropped⟩
  · rw [same]
  · rw [dropped, State.setPlace_stores]

theorem actZoneAck_stores : (actZoneAck l r s).1.stores = s.stores := by
  unfold actZoneAck
  dsimp only
  repeat' split
  on_goal 3 => exact State.stores_of_besideZones (s.besideZones_takeZone _ _)
  all_goals rfl

/-- Requests of the settings block. -/
theorem State.serviceRequests_stores :
    (actServiceEnter l r s).1.stores = s.stores ∧ (actServiceExit l r s).1.stores = s.stores ∧
    (actSettingsWrite l r s).1.stores = s.stores ∧ (actSettingsCommit l r s).1.stores = s.stores := by
  unfold actServiceEnter actServiceExit actSettingsWrite actSettingsCommit State.enterService State.tryCommit
  and_intros
  all_goals try dsimp only
  all_goals repeat' split
  all_goals simp only [State.settingsStep_stores, State.askServiceEnd_stores, State.applyCommit_stores]
  all_goals rfl

end

/-! ## The blocks that write them -/

section
variable {s t : State} (h : s.MemoryOk)
include h

/-- R194: a commit in flight ends by f, which leaves the settings memory canonical. -/
theorem State.MemoryOk.endCommit {f : SettingsBlock → SettingsBlock}
    (wf : Memory.wf Config.blankSetting (f s.settings).memory.cells) : (s.endCommit f).MemoryOk := by
  have ended : (s.setSettings (f s.settings)).MemoryOk := ⟨h.1, wf⟩
  unfold State.endCommit
  split
  · exact h
  · dsimp only
    refine ended.of_stores ((State.settingsStep_stores _ _).trans ?_)
    split <;> rfl

/-- R188, R194: a write that completes stores the record; one that fails leaves the cells. -/
theorem State.MemoryOk.commitEnds : (s.endCommit SettingsBlock.complete).MemoryOk ∧ (s.endCommit SettingsBlock.fail).MemoryOk :=
  ⟨h.endCommit (Memory.store_wf _ _ _ _ h.2), h.endCommit h.2⟩

/-- R34 to R37: the frame start moves holds. -/
theorem State.MemoryOk.startFrame : s.startFrame.MemoryOk := by
  have pict := s.openCameras_pict
  obtain ⟨-, -, -, -, -, -, -, -, -, -, settings, -⟩ := s.openCameras_fields
  unfold State.startFrame
  generalize s.openCameras = u at pict settings
  have opened : u.MemoryOk := h.of_pictures (fun c => by rw [pict]; exact (h.picture c).frameStart _) settings rfl
  exact opened.of_stores rfl

/-- R190, R197: a loss of power empties the pictures and leaves the cells. -/
theorem State.MemoryOk.powerLoss : s.powerLoss.MemoryOk := by
  have cells : s.settings.survivingMemory.cells = s.settings.memory.cells := by
    unfold SettingsBlock.survivingMemory
    split <;> rfl
  have pict : ∀ c, s.powerLoss.pict c = Picture.atReset := State.reset_pict
  exact h.of_pictures (fun c => by rw [pict]; exact Picture.atReset_canonical) rfl cells

/-- R190: the end of the settings load. -/
theorem State.MemoryOk.endLoad (found : Option Body) : (s.endLoad found).MemoryOk := by
  obtain ⟨-, -, pict⟩ := State.recv_of_imaging (s.endLoad_imaging found)
  obtain ⟨settings, -⟩ := Prod.mk.inj (s.endLoad_served found)
  exact h.of_pictures (fun c => by rw [pict]; exact h.1 c) settings rfl

/-- R42, R195: a warm reset. -/
theorem State.MemoryOk.warmReset {first : State → State} (imaging : ∀ u : State, (first u).imaging = u.imaging)
    (served : ∀ u : State, (first u).served = u.served) : (s.warmReset first).MemoryOk := by
  obtain ⟨-, -, pict⟩ := State.recv_of_imaging (s.warmReset_imaging imaging)
  obtain ⟨settings, -⟩ := Prod.mk.inj (s.warmReset_served served)
  refine h.of_pictures (fun c => ?_) settings rfl
  rw [pict, show (s.pictures.map Picture.warmReset)[c] = (s.pict c).warmReset by simp [State.pict]]
  exact (h.picture c).warmReset

theorem State.MemoryOk.lineFalls : s.lineFalls.MemoryOk := by
  have low : ({ s with resetLineHigh := false } : State).MemoryOk := h.of_stores rfl
  unfold State.lineFalls
  split
  · split
    · exact (low.warmReset (fun _ => rfl) fun _ => rfl).of_stores rfl
    · exact low
  · exact h

theorem State.MemoryOk.answerReset (l : Link) : (s.answerReset l).MemoryOk := by
  unfold State.answerReset
  split
  · exact h
  · rename_i taken
    obtain ⟨rest, -, -, -, rfl⟩ := State.takeHead_eq taken
    have head : (s.setCtl l { s.ctl l with inbound := rest }).MemoryOk := h.of_stores rfl
    split
    · exact head.of_stores rfl
    · split
      · exact head.of_stores rfl
      · exact head.warmReset (fun _ => rfl) fun _ => rfl

/-- A step on an empty queue (log 1). -/
theorem State.MemoryOk.idle : s.idle.MemoryOk := by
  unfold State.idle
  split
  · exact h
  · exact h.of_stores rfl

/-! ## The kinds of commands -/

/-- A command that keeps the memories in order. -/
theorem State.MemoryOk.work {f : State → State} (keeps : ∀ u : State, u.MemoryOk → (f u).MemoryOk)
    (next : whileRunning s f = .next t) : t.MemoryOk :=
  whileRunning_keeps State.MemoryOk (fun _ hu => hu.of_stores rfl) f (fun u _ hu => keeps u hu) next h

/-- A command of one camera. -/
theorem State.MemoryOk.camera {c : Camera} {f : State → State} (beside : ∀ u : State, (f u).besideCamera c = u.besideCamera c)
    (canonical : ∀ u : State, (u.pict c).Canonical → ((f u).pict c).Canonical) (next : whileRunning s f = .next t) :
    t.MemoryOk :=
  h.work (fun u hu => hu.camera_moves (beside u) (canonical u (hu.picture c))) next

/-- A command of another block. -/
theorem State.MemoryOk.block {f : State → State} (keeps : ∀ u : State, (f u).stores = u.stores)
    (next : whileRunning s f = .next t) : t.MemoryOk :=
  h.of_stores (whileRunning_fixes State.stores (fun _ => rfl) f keeps next)

/-- A request of another block. -/
theorem State.MemoryOk.request {row : RequestRow} {l : Link} {act : Request → State → State × Answer}
    (keeps : ∀ r u, (act r u).1.stores = u.stores) (next : whileRunning s (answering row l act) = .next t) : t.MemoryOk :=
  h.block (answering_fixes State.stores (fun _ _ _ => rfl) row l act keeps) next

/-- A record that a row's place is taken by. -/
theorem State.MemoryOk.rowRecord {c : Camera} {k : RowRecord} (next : (whileRunning s fun u => u.rowArrives c k) = .next t) :
    t.MemoryOk :=
  h.camera (fun u => u.besideCamera_rowArrives c k) (fun _ hu => State.rowArrives_canonical hu k) next

/-- The end of the settings load. -/
theorem State.MemoryOk.loaded {found : Option Body} (next : whileLoading s found = .next t) : t.MemoryOk := by
  obtain rfl := Host.Outcome.next.inj next
  split
  · have ended := h.endLoad found
    generalize s.endLoad found = u at ended
    exact ended.of_stores rfl
  · exact h

/-! ## Every command (O7) -/

theorem exec_memoryOk {i : Instr} (next : exec i s = .next t) : t.MemoryOk := by
  by_cases leaves : leavesScene i = true
  · exact h.of_stores (congrArg (fun k => (k.2.1, k.2.2.2.2.memory.cells)) (exec_scene leaves next) :)
  · cases i with
    | frameStartRecord c packet =>
      change execFrameStartRecord c packet s = .next t at next
      unfold execFrameStartRecord at next
      split at next
      · split at next
        · cases next
        · exact h.camera (c := c) (fun u => by simp)
            (fun u hu => State.frameStart_canonical (s := u.wake c) (by simpa using hu) _) next
      · exact Host.Outcome.next.inj next ▸ h
    | lineRecord c packet =>
      change execLineRecord c packet s = .next t at next
      unfold execLineRecord at next
      split at next
      · exact h.rowRecord next
      · exact Host.Outcome.next.inj next ▸ h
    | blankingRecord c packet =>
      change execBlankingRecord c packet s = .next t at next
      unfold execBlankingRecord at next
      split at next
      · exact h.rowRecord next
      · exact Host.Outcome.next.inj next ▸ h
    | silenceTimerExpiry c =>
      exact h.camera (fun u => u.besideCamera_fallSilent c) (fun _ hu => State.fallSilent_canonical hu) next
    | errorWindowEnd c =>
      exact h.camera (fun u => u.besideCamera_windowEnd c) (fun _ hu => State.windowEnd_canonical hu) next
    | concealmentCopyFinish c =>
      exact h.camera (c := c) (f := fun u => State.noteCamera c u (u.finishCopy c)) (fun u => by simp)
        (fun u hu => by simpa using State.finishCopy_canonical hu) next
    | outputFrameStart =>
      change execOutputFrameStart s = .next t at next
      unfold execOutputFrameStart at next
      split at next
      · exact h.work (fun _ hu => hu.startFrame) next
      · exact Host.Outcome.next.inj next ▸ h
      · exact Host.Outcome.next.inj next ▸ h
    | zoneAck l => exact h.request (actZoneAck_stores l) next
    | holdTimerExpiry z => exact h.block (fun u => State.stores_of_besideZones (u.besideZones_holdExpiry z)) next
    | dwellPeriodEnd z => exact h.block (fun u => State.stores_of_besideZones (u.besideZones_dwellEnd z)) next
    | segmentTimerExpiry =>
      exact h.block (f := fun u => { u with alert := u.alert.segmentExpiry u.body }) (fun _ => rfl) next
    | vehicleState l => exact h.request (actVehicleState_stores l) next
    | bodyState l => exact h.request (actBodyState_stores l) next
    | indicatorOffDelayExpiry | chassisSilenceTimerExpiry | bodySilenceTimerExpiry =>
      exact h.block (fun u => State.stores_unless (u.takeVehicle_stores _)) next
    | trackUpdate l => exact h.request (actTrackUpdate_stores l) next
    | trackDrop l => exact h.request (actTrackDrop_stores l) next
    | trackExpiry p => exact h.block (fun u => State.stores_unless (u.setPlace_stores p none)) next
    | serviceEnter l | serviceExit l | settingsWrite l | settingsCommit l =>
      refine h.request (fun r u => ?_) next
      have := State.serviceRequests_stores l r u
      simp only [this]
    | commitWriteComplete =>
      exact h.work (f := fun u => u.endCommit SettingsBlock.complete) (fun _ hu => hu.commitEnds.1) next
    | commitWriteFailed | commitLimitExpiry =>
      exact h.work (f := fun u => u.endCommit SettingsBlock.fail) (fun _ hu => hu.commitEnds.2) next
    | coldReset below => exact Host.Outcome.next.inj next ▸ h.powerLoss.of_stores rfl
    | settingsLoadEnd | settingsLoadLimitExpiry | settingsLoadNotAcknowledged => exact h.loaded next
    | resetN => exact Host.Outcome.next.inj next ▸ h.lineFalls
    | reset l => exact h.work (fun _ hu => hu.answerReset l) next
    | supplyStop =>
      obtain rfl := Host.Outcome.next.inj next
      split
      · exact h
      · exact h.powerLoss.of_stores rfl
    | _ => exact absurd rfl leaves

end

/-- Settles O7: rows and copies are stored in canonical form, and so is the record of settings that a write puts in the memory. -/
theorem memoryStaysCanonical : Obligations.MemoryStaysCanonical := by
  intro s t ok stepped
  unfold step at stepped
  split at stepped
  · exact Host.Outcome.next.inj stepped ▸ ok.idle
  · rename_i i rest _
    have queued : (s.withPending rest).MemoryOk := ok.of_stores rfl
    exact exec_memoryOk queued stepped

end Sys2Proof.Machine
end

section
/-! SUPPORT. A zone's record in order (R119 to R124), through the pure rules of a zone and through the zone monitor's work. -/

namespace Sys2Proof.Machine

/-! ## Through the pure rules (Table 6-7) -/

theorem ZoneRec.atReset_ok : ZoneRec.atReset.Ok where
  hold := by decide
  dwelling := by decide
  rest := fun _ => ⟨rfl, rfl⟩
  dwell := by decide
  occupancy := by decide

section
variable {r : ZoneRec} (h : r.Ok)
include h

theorem ZoneRec.Ok.toIdle : r.toIdle.Ok :=
  ⟨by simp [ZoneRec.toIdle], by simp [ZoneRec.toIdle], fun _ => ⟨rfl, rfl⟩, Nat.zero_le _, h.occupancy⟩

theorem ZoneRec.Ok.toClear : r.toClear.Ok :=
  ⟨by simp [ZoneRec.toClear], by simp [ZoneRec.toClear], fun _ => ⟨rfl, rfl⟩, Nat.zero_le _, h.occupancy⟩

theorem ZoneRec.Ok.toHold (l : Level) (holdTime : Nat) : (r.toHold l holdTime).Ok := by
  unfold ZoneRec.toHold
  split
  · exact h.toClear
  · exact ⟨by simp, by simp, by simp, h.dwell, h.occupancy⟩

/-- R122: the dwell timer of a CAUTION or WARNING zone runs on, any other one's starts. -/
theorem ZoneRec.Ok.toLevel (l : Level) : (r.toLevel l).Ok := by
  have active : (r.toLevel l).state = .caution ∨ (r.toLevel l).state = .warning := by
    cases l <;> simp [ZoneRec.toLevel, Level.state]
  have runs : (r.toLevel l).dwellTimer.isSome = true := by
    obtain ⟨stays, starts⟩ := r.toLevel_dwellTimer l
    by_cases dwells : r.state = .caution ∨ r.state = .warning
    · rw [stays dwells]
      exact h.dwelling.mpr dwells
    · rw [starts (by cases st : r.state <;> simp [st] at dwells ⊢)]
      rfl
  have unheld : (r.toLevel l).holdTimer = none := rfl
  refine ⟨?_, iff_of_true runs active, fun rests => ?_, h.dwell, h.occupancy⟩
  · rcases active with st | st <;> simp [unheld, st]
  · rcases active with st | st <;> simp [st] at rests

/-- R119: an evaluation keeps the record in order. -/
theorem ZoneRec.Ok.evaluate (cfg : ZoneSettings) (c : Conditions) : (r.evaluate cfg c).Ok := by
  by_cases armed : cfg.armed c = true
  · by_cases empty : r.occupancy = 0
    · cases st : r.state with
      | idle => rw [ZoneRec.evaluate_idle armed empty st]; exact h.toClear
      | clear => rwa [ZoneRec.evaluate_clear armed empty st]
      | caution => rw [ZoneRec.evaluate_left armed empty (.inl st)]; exact h.toHold _ _
      | warning => rw [ZoneRec.evaluate_left armed empty (.inr st)]; exact h.toHold _ _
      | hold => rwa [ZoneRec.evaluate_held armed empty st (Option.isSome_iff_ne_none.mp (h.hold.mpr st))]
    · rw [ZoneRec.evaluate_occupied armed empty]; exact h.toLevel _
  · rw [ZoneRec.evaluate_unarmed armed]; exact h.toIdle

/-- R120: so does the evaluation of a zone in HOLD whose hold timer has expired. -/
theorem ZoneRec.Ok.evaluate_expired (hold : r.state = .hold) (cfg : ZoneSettings) (c : Conditions) :
    (({ r with holdTimer := none } : ZoneRec).evaluate cfg c).Ok := by
  by_cases armed : cfg.armed c = true
  · by_cases empty : r.occupancy = 0
    · rw [ZoneRec.evaluate_expired hold armed empty]; exact h.toClear
    · rw [ZoneRec.evaluate_occupied (r := { r with holdTimer := none }) armed empty]; exact h.toLevel _
  · rw [ZoneRec.evaluate_unarmed armed]; exact h.toIdle

/-- R122: the dwell of a zone whose dwell timer runs rises. -/
theorem ZoneRec.Ok.dwelled (runs : r.dwellTimer ≠ none) : r.dwelled.Ok := by
  have active := h.dwelling.mp (Option.isSome_iff_ne_none.mpr runs)
  refine ⟨h.hold, iff_of_true rfl active, fun rests => ?_, Nat.min_le_right _ _, h.occupancy⟩
  have still : r.state = .idle ∨ r.state = .clear := rests
  rcases active with st | st <;> simp [st] at still

/-- R123: a zone that warns is acknowledged. -/
theorem ZoneRec.Ok.acknowledged (warns : r.face.warns = true) : ({ r with acked := true } : ZoneRec).Ok := by
  refine ⟨h.hold, h.dwelling, fun rests => ?_, h.dwell, h.occupancy⟩
  have still : r.state = .idle ∨ r.state = .clear := rests
  rcases ZoneRec.face_warns.mp warns with st | ⟨st, -⟩ <;> simp [st] at still

theorem ZoneRec.Ok.tick : r.tick.Ok := by
  have same : ∀ t : Timer, (Timer.tick t).isSome = t.isSome := fun t => Option.isSome_map
  refine ⟨?_, ?_, h.rest, h.dwell, h.occupancy⟩
  · rw [ZoneRec.tick, same]; exact h.hold
  · rw [ZoneRec.tick, same]; exact h.dwelling

end

/-- R118: sixteen tracks and three contacts at most. -/
theorem ZoneSettings.occupancy_le (cfg : ZoneSettings) (floor : Nat) (t : Tracks) : cfg.occupancy floor t ≤ 19 := by
  have tracks : (cfg.counted floor t).length ≤ 16 := calc
    (cfg.counted floor t).length ≤ (t.places.toList.filterMap id).length := List.length_filter_le _ _
    _ ≤ t.places.toList.length := List.length_filterMap_le _ _
    _ = 16 := by simp
  have contact : ∀ b : Bool, b.toNat ≤ 1 := Bool.toNat_le
  have left := contact (cfg.contacts.getLsbD 0 && t.contacts.stepLeft)
  have right := contact (cfg.contacts.getLsbD 1 && t.contacts.stepRight)
  have curtain := contact (cfg.contacts.getLsbD 2 && t.contacts.curtain)
  unfold ZoneSettings.occupancy
  omega

/-- R118, R124: a recount keeps the record in order. -/
theorem ZoneRec.Ok.recount {r : ZoneRec} (h : r.Ok) (cfg : ZoneSettings) (floor : Nat) (t : Tracks) :
    (r.recount cfg floor t).Ok := by
  rw [ZoneRec.recount_eq]
  refine ⟨h.hold, h.dwelling, fun rests => ?_, h.dwell, cfg.occupancy_le floor t⟩
  obtain ⟨dwell, acked⟩ := h.rest rests
  refine ⟨dwell, ?_⟩
  dsimp only
  split
  · rfl
  · exact acked

/-! ## Through the zone monitor's work -/

/-- One zone in order: its record, and IDLE where it is not enabled. -/
def State.ZoneOk (s : State) (z : Zone) (r : ZoneRec) : Prop := r.Ok ∧ ((s.body.zone z).enabled = false → r.state = .idle)

section
variable {s : State}

/-- The record of an enabled zone. -/
theorem State.zoneOk_of_enabled {z : Zone} {r : ZoneRec} (ok : r.Ok) (enabled : (s.body.zone z).enabled = true) : s.ZoneOk z r :=
  ⟨ok, fun off => by rw [enabled] at off; cases off⟩

/-- Zones that have taken records in order, under the same settings. -/
theorem State.ZonesTaken.ok {t : State} {g : Zone → ZoneRec} (taken : s.ZonesTaken t g) (ok : ∀ z, s.ZoneOk z (g z)) :
    t.ZonesOk := by
  intro z
  rw [taken.zones, State.body_of_besideZones taken.rest]
  exact ok z

/-- R127: a commit puts every zone in order, whether or not it was IDLE where it is not enabled now. -/
theorem State.commitZones_ok (records : ∀ z, (s.zoneRec z).Ok) : s.commitZones.ZonesOk := by
  refine s.commitZones_taken.ok fun z => ?_
  unfold State.committedZone
  split
  · rename_i enabled
    exact State.zoneOk_of_enabled (((records z).recount _ _ _).evaluate _ _) enabled
  · have idle := (records z).toIdle
    exact ⟨⟨idle.hold, idle.dwelling, idle.rest, idle.dwell, Nat.zero_le _⟩, fun _ => rfl⟩

section
variable (h : s.ZonesOk)
include h

/-- One zone that has taken a record in order. -/
theorem State.ZonesOk.zoneTaken {t : State} {z : Zone} {r : ZoneRec} (taken : s.ZoneTaken t z r) (ok : s.ZoneOk z r) :
    t.ZonesOk := by
  intro y
  rw [State.body_of_besideZones taken.rest]
  by_cases e : y = z
  · subst e
    rw [taken.own]
    exact ok
  · rw [taken.others y e]
    exact h y

theorem State.ZonesOk.evaluateZones : s.evaluateZones.ZonesOk := by
  refine s.evaluateZones_taken.ok fun z => ?_
  unfold State.evaluated
  split
  · rename_i enabled
    exact State.zoneOk_of_enabled ((h z).1.evaluate _ _) enabled
  · exact h z

theorem State.ZonesOk.recountZones : s.recountZones.ZonesOk := by
  refine s.recountZones_taken.ok fun z => ?_
  unfold State.recounted
  dsimp only
  split
  · rename_i counts
    exact State.zoneOk_of_enabled (((h z).1.recount _ _ _).evaluate _ _) counts.1
  · exact h z

/-- R120: a hold timer that runs is that of a zone in HOLD. -/
theorem State.ZonesOk.holdExpiry (z : Zone) : (s.holdExpiry z).ZonesOk := by
  by_cases runs : (s.zoneRec z).holdTimer = none
  · rwa [State.holdExpiry, if_pos runs]
  · have hold := (h z).1.hold.mp (Option.isSome_iff_ne_none.mpr runs)
    have enabled := h.enabled (z := z) (by simp [hold])
    exact h.zoneTaken (State.holdExpiry_taken runs enabled) (State.zoneOk_of_enabled ((h z).1.evaluate_expired hold _ _) enabled)

/-- R122: a dwell timer that runs is that of a zone in CAUTION or WARNING. -/
theorem State.ZonesOk.dwellEnd (z : Zone) : (s.dwellEnd z).ZonesOk := by
  by_cases runs : (s.zoneRec z).dwellTimer = none
  · rwa [State.dwellEnd, if_pos runs]
  · have active := (h z).1.dwelling.mp (Option.isSome_iff_ne_none.mpr runs)
    have enabled := h.enabled (z := z) (by rcases active with st | st <;> simp [st])
    have dwelled := (h z).1.dwelled runs
    refine h.zoneTaken (State.dwellEnd_taken runs enabled (h z).1.dwell) (State.zoneOk_of_enabled ?_ enabled)
    unfold ZoneRec.afterPeriod
    split
    · exact dwelled.evaluate _ _
    · exact dwelled

/-- R123: a zone that warns is not IDLE. -/
theorem State.ZonesOk.acknowledge {z : Zone} (warns : (s.zoneRec z).face.warns = true) :
    (s.takeZone z { s.zoneRec z with acked := true }).ZonesOk :=
  h.zoneTaken (s.takeZone_taken z _) ⟨(h z).1.acknowledged warns, (h z).2⟩

end

end

end Sys2Proof.Machine
end

section
/-! SUPPORT. The alert output unit in order (R130 to R136): its level, lines and segment follow from its copy, and its copy is that of
the zones as they stand. -/

namespace Sys2Proof.Machine

/-! ## Through the unit's rules -/

/-- Table 7-3: the segment that sounds is one of the level's pattern, and its timer runs. -/
structure Alert.InPattern (a : Alert) : Prop where
  segment : a.level.hasSegment a.segment = true
  timer : a.segmentTimer.isSome = a.segment.isSome

/-- R132: a restart begins the level's pattern. -/
theorem Alert.restart_level (b : Body) (a : Alert) (l : ChimeLevel) : (a.restart b l).level = l ∧ (a.restart b l).InPattern := by
  cases l <;> exact ⟨rfl, rfl, rfl⟩

/-- R132: a restart leaves the unit's copy, flags and lines. -/
theorem Alert.restart_keeps (b : Body) (a : Alert) (l : ChimeLevel) :
    (a.restart b l).started = a.started ∧ (a.restart b l).flags = a.flags ∧ (a.restart b l).copies = a.copies ∧
    (a.restart b l).hzWarn = a.hzWarn ∧ (a.restart b l).hzCaution = a.hzCaution := by
  cases l <;> exact ⟨rfl, rfl, rfl, rfl, rfl⟩

theorem Alert.follow_keeps (b : Body) (a : Alert) :
    (a.follow b).started = a.started ∧ (a.follow b).flags = a.flags ∧ (a.follow b).copies = a.copies := by
  unfold Alert.follow
  dsimp only
  split
  · exact ⟨rfl, rfl, rfl⟩
  · obtain ⟨started, flags, copies, -⟩ := Alert.restart_keeps b
      { a with hzWarn := hzWarnOf a.copies, hzCaution := hzCautionOf a.copies } (chimeLevelOf a.flags a.copies)
    exact ⟨started, flags, copies⟩

/-- R130: level and lines are worked out from the copy, and the pattern restarts on a change of level. -/
theorem Alert.InPattern.follow {a : Alert} (h : a.InPattern) (b : Body) : (a.follow b).Ok := by
  unfold Alert.follow
  dsimp only
  split
  · rename_i same
    exact ⟨same.symm, rfl, rfl, h.segment, h.timer⟩
  · obtain ⟨level, segment, timer⟩ := Alert.restart_level b
      { a with hzWarn := hzWarnOf a.copies, hzCaution := hzCautionOf a.copies } (chimeLevelOf a.flags a.copies)
    obtain ⟨-, flags, copies, warn, caution⟩ := Alert.restart_keeps b
      { a with hzWarn := hzWarnOf a.copies, hzCaution := hzCautionOf a.copies } (chimeLevelOf a.flags a.copies)
    exact ⟨by rw [level, flags, copies], by rw [warn, copies], by rw [caution, copies], segment, timer⟩

theorem Alert.atReset_ok (started : Bool) (flags : BitVec 8) (duty : Nat) : (Alert.atReset started flags duty).Ok := by
  have pattern : (Alert.atReset started flags duty).InPattern := ⟨rfl, rfl⟩
  rw [← (Alert.atReset_calm started flags duty).follow Body.builtIn]
  exact pattern.follow _

/-- R132: the next segment is one of the same level. -/
theorem ChimeLevel.hasSegment_next {l : ChimeLevel} {g : Segment} (h : l.hasSegment (some g) = true) :
    l.hasSegment (some g.next) = true := by
  revert h
  cases l <;> cases g <;> decide

theorem Alert.Ok.segmentExpiry {a : Alert} (h : a.Ok) (b : Body) : (a.segmentExpiry b).Ok := by
  unfold Alert.segmentExpiry
  split
  · rename_i sounds
    exact ⟨h.level, h.hzWarn, h.hzCaution, ChimeLevel.hasSegment_next (sounds ▸ h.segment), rfl⟩
  · exact h

theorem Alert.segmentExpiry_keeps (b : Body) (a : Alert) :
    (a.segmentExpiry b).started = a.started ∧ (a.segmentExpiry b).flags = a.flags ∧ (a.segmentExpiry b).copies = a.copies := by
  unfold Alert.segmentExpiry
  split <;> exact ⟨rfl, rfl, rfl⟩

theorem Alert.Ok.tick {a : Alert} (h : a.Ok) : a.tick.Ok :=
  ⟨h.level, h.hzWarn, h.hzCaution, h.segment, Option.isSome_map.trans h.timer⟩

/-! ## The unit's copy of the zones (R130) -/

/-- The unit is started and in order under the chime flags given, and its copy is that of the zones. -/
structure State.AlertFollows (s : State) (flags : BitVec 8) : Prop where
  ok : s.alert.Ok
  started : s.alert.started = true
  flags : s.alert.flags = flags
  copies : ∀ z : Zone, s.alert.copies[z] = (s.zoneRec z).face

section
variable {s t : State} {flags : BitVec 8}

theorem State.AlertFollows.congr (h : s.AlertFollows flags) (zones : t.zones = s.zones) (alert : t.alert = s.alert) :
    t.AlertFollows flags := by
  obtain ⟨ok, started, same, copies⟩ := h
  exact ⟨alert ▸ ok, alert ▸ started, alert ▸ same, fun z => by rw [alert, copies, State.zoneRec, ← zones]; rfl⟩

/-- The arbiter's work leaves the unit. -/
theorem State.AlertFollows.of_views (h : s.AlertFollows flags) (views : t.besideViews = s.besideViews) : t.AlertFollows flags :=
  h.congr (congrArg State.zones views :) (congrArg State.alert views :)

/-- R130: a zone that shows a change is handed to the unit; one that shows none need not be. -/
theorem State.AlertFollows.noticedZone (h : s.AlertFollows flags) (z : Zone) (r : ZoneRec) :
    (s.noticedZone z r).AlertFollows flags := by
  have others : ∀ y, y ≠ z → (s.setZoneRec z r).zoneRec y = s.zoneRec y := fun y e => s.zoneRec_setZoneRec_of_ne z y r e
  unfold State.noticedZone
  split
  · rename_i shows
    refine ⟨h.ok, h.started, h.flags, fun y => (h.copies y).trans ?_⟩
    by_cases e : y = z
    · subst e
      rw [shows, State.zoneRec_setZoneRec_self]
    · rw [others y e]
  · have alert : ((s.setZoneRec z r).zoneChange z r).alert =
        ({ s.alert with copies := s.alert.copies.set z r.face } : Alert).follow s.body := if_pos h.started
    have zones : ((s.setZoneRec z r).zoneChange z r).zoneRec = (s.setZoneRec z r).zoneRec := rfl
    have pattern : ({ s.alert with copies := s.alert.copies.set z r.face } : Alert).InPattern :=
      ⟨h.ok.segment, h.ok.timer⟩
    obtain ⟨started, kept, copies⟩ := Alert.follow_keeps s.body { s.alert with copies := s.alert.copies.set z r.face }
    refine ⟨alert ▸ pattern.follow s.body, by rw [alert, started, h.started], by rw [alert, kept, h.flags], fun y => ?_⟩
    rw [alert, copies, zones]
    by_cases e : y = z
    · subst e
      simp
    · have apart : z.val ≠ y.val := fun same => e (Fin.ext same.symm)
      rw [others y e, ← h.copies y]
      simp [apart]

/-- R125, R130: a zone takes a record. -/
theorem State.AlertFollows.takeZone (h : s.AlertFollows flags) (z : Zone) (r : ZoneRec) : (s.takeZone z r).AlertFollows flags := by
  have noticed := h.noticedZone z r
  by_cases quiet : ¬ (s.zoneRec z).Onset r ∨ (s.body.zone z).preferredView = none
  · rwa [State.takeZone_of_none quiet]
  · obtain ⟨onset, view⟩ := not_or.mp quiet
    obtain ⟨v, view⟩ := Option.ne_none_iff_exists'.mp view
    rw [State.takeZone_of_onset (not_not.mp onset) view]
    exact noticed.of_views (State.besideViews_onset _ z v)

/-- The zones one after another. -/
theorem State.AlertFollows.foldl {f : State → Zone → State} (h : s.AlertFollows flags)
    (keeps : ∀ (u : State) z, u.AlertFollows flags → (f u z).AlertFollows flags) :
    ((List.finRange 8).foldl f s).AlertFollows flags :=
  List.foldlRecOn (motive := fun u => u.AlertFollows flags) _ _ h fun u hu z _ => keeps u z hu

theorem State.AlertFollows.evaluateZones (h : s.AlertFollows flags) : s.evaluateZones.AlertFollows flags := by
  refine h.foldl fun u z hu => ?_
  unfold State.evaluateZone
  split
  · exact hu.takeZone z _
  · exact hu

theorem State.AlertFollows.recountZones (h : s.AlertFollows flags) : s.recountZones.AlertFollows flags := by
  refine h.foldl fun u z hu => ?_
  unfold State.recountZone
  dsimp only
  split
  · exact hu.takeZone z _
  · exact hu

theorem State.AlertFollows.commitZones (h : s.AlertFollows flags) : s.commitZones.AlertFollows flags := by
  refine h.foldl fun u z hu => ?_
  unfold State.commitZone
  dsimp only
  split <;> exact hu.takeZone z _

/-- R136: after a commit the unit follows the flags of the settings in force. -/
theorem State.AlertFollows.alertCommit (h : s.AlertFollows flags) : s.alertCommit.AlertFollows s.body.chimeFlags := by
  have pattern : ({ s.alert with flags := s.body.chimeFlags } : Alert).InPattern :=
      ⟨h.ok.segment, h.ok.timer⟩
  obtain ⟨started, kept, copies⟩ := Alert.follow_keeps s.body { s.alert with flags := s.body.chimeFlags }
  exact ⟨pattern.follow s.body, started.trans h.started, kept, fun z => by rw [State.alertCommit, copies]; exact h.copies z⟩

end

end Sys2Proof.Machine
end

section
/-! Every step keeps the zones and the alert output unit in order (R119, R127, R130 to R136): O11. -/

namespace Sys2Proof.Machine

/-! ## What both are -/

/-- The zones, the alert output unit and the settings in force. -/
def State.guards (s : State) : Vector ZoneRec 8 × Alert × Body := (s.zones, s.alert, s.body)

theorem State.guards_of_besideViews {s t : State} (h : t.besideViews = s.besideViews) : t.guards = s.guards :=
  (congrArg State.guards h :)

theorem State.guards_of_besideCameras {s t : State} (h : t.besideCameras = s.besideCameras) : t.guards = s.guards :=
  (congrArg State.guards h :)

/-- Zones and alert unit in order, the unit's flags those in force: what every running state keeps. -/
structure State.Guarded (s : State) : Prop where
  zones : s.ZonesOk
  alert : s.AlertFollows s.body.chimeFlags

/-- Zones and alert unit in order, the unit only while the KS-4 runs: what every state keeps. -/
structure State.Watched (s : State) : Prop where
  zones : s.ZonesOk
  alert : s.AlertOk

theorem State.Guarded.watched {s : State} (h : s.Guarded) : s.Watched :=
  ⟨h.zones, fun _ => ⟨h.alert.ok, h.alert.started, h.alert.flags, h.alert.copies⟩⟩

theorem State.Watched.guarded {s : State} (h : s.Watched) (running : s.phase = .running) : s.Guarded := by
  obtain ⟨ok, started, flags, copies⟩ := h.alert running
  exact ⟨h.zones, ok, started, flags, copies⟩

theorem State.ZonesOk.congr {s t : State} (h : s.ZonesOk) (zones : t.zones = s.zones) (body : t.body = s.body) : t.ZonesOk := by
  intro z
  rw [State.zoneRec, zones, body]
  exact h z

/-- R129: zones at their reset values are in order under any settings. -/
theorem State.zonesOk_of_reset {s : State} (zones : s.zones = Vector.replicate 8 ZoneRec.atReset) : s.ZonesOk := by
  intro z
  have record : s.zoneRec z = ZoneRec.atReset := by rw [State.zoneRec, zones]; exact Vector.getElem_replicate z.isLt
  rw [record]
  exact ⟨ZoneRec.atReset_ok, fun _ => rfl⟩

theorem State.watched_of_reset {s : State} (zones : s.zones = Vector.replicate 8 ZoneRec.atReset) (phase : s.phase ≠ .running) :
    s.Watched :=
  ⟨State.zonesOk_of_reset zones, fun running => absurd running phase⟩

/-- R128, R137: zones and alert unit at their reset values, the unit started under the flags in force. -/
theorem State.guarded_of_reset {s : State} {duty : Nat} (zones : s.zones = Vector.replicate 8 ZoneRec.atReset)
    (alert : s.alert = Alert.atReset true s.body.chimeFlags duty) : s.Guarded := by
  refine ⟨State.zonesOk_of_reset zones, alert ▸ Alert.atReset_ok _ _ _, by rw [alert]; rfl, by rw [alert]; rfl, fun z => ?_⟩
  rw [alert, State.zoneRec, zones]
  simp [Alert.atReset, ZoneRec.atReset, ZoneRec.face]

/-! ## Through the blocks -/

section
variable {s t : State}

theorem State.Guarded.of_guards (h : s.Guarded) (e : t.guards = s.guards) : t.Guarded := by
  obtain ⟨zones, rest⟩ := Prod.mk.inj e
  obtain ⟨alert, body⟩ := Prod.mk.inj rest
  exact ⟨h.zones.congr zones body, by rw [body]; exact h.alert.congr zones alert⟩

theorem State.Watched.of_guards (h : s.Watched) (phase : t.phase = s.phase) (e : t.guards = s.guards) : t.Watched := by
  obtain ⟨zones, rest⟩ := Prod.mk.inj e
  obtain ⟨-, body⟩ := Prod.mk.inj rest
  refine ⟨h.zones.congr zones body, fun running => ?_⟩
  exact ((h.guarded (phase.symm.trans running)).of_guards e).watched.alert running

/-- The zone monitor's work, which leaves the settings. -/
theorem State.guarded_of_rest (rest : t.besideZones = s.besideZones) (zones : t.ZonesOk)
    (alert : t.AlertFollows s.body.chimeFlags) : t.Guarded :=
  ⟨zones, by rw [State.body_of_besideZones rest]; exact alert⟩

theorem State.noteSettings_guards (b s : State) : (State.noteSettings b s).guards = s.guards :=
  (congrArg State.guards (State.besideLinks_noteSettings b s) :)

theorem State.askServiceEnd_guards (s : State) : s.askServiceEnd.guards = s.guards := by
  unfold State.askServiceEnd
  split <;> rfl

theorem State.movingEnds_guards (b s : State) : (State.movingEnds b s).guards = s.guards := by
  unfold State.movingEnds
  split
  · exact s.askServiceEnd_guards
  · rfl

theorem State.Guarded.settle (h : s.Guarded) : s.settle.Guarded := h.of_guards rfl

section
variable (h : s.Guarded)
include h

theorem State.Guarded.choose : s.choose.Guarded := h.of_guards (State.guards_of_besideViews s.besideViews_choose)

theorem State.Guarded.evaluateZones : s.evaluateZones.Guarded :=
  State.guarded_of_rest s.evaluateZones_taken.rest h.zones.evaluateZones h.alert.evaluateZones

theorem State.Guarded.recountZones : s.recountZones.Guarded :=
  State.guarded_of_rest s.recountZones_taken.rest h.zones.recountZones h.alert.recountZones

theorem State.Guarded.firstLook : s.firstLook.Guarded := h.evaluateZones.choose

/-- R103: a change of conditions or speed is handed on. -/
theorem State.Guarded.handOn (b : State) : (State.handOn b s).Guarded := by
  have evaluated : (if b.vehicle.conds ≠ s.vehicle.conds then s.evaluateZones else s).Guarded := by
    split
    · exact h.evaluateZones
    · exact h
  unfold State.handOn
  dsimp only
  generalize (if b.vehicle.conds ≠ s.vehicle.conds then s.evaluateZones else s) = u at evaluated
  have unmasked : u.endMasked.choose.Guarded := (evaluated.of_guards (t := u.endMasked) rfl).choose
  split
  · split
    · exact unmasked.choose
    · exact evaluated.choose
  · split
    · exact unmasked
    · exact evaluated

theorem State.Guarded.settingsStep (b : State) : (State.settingsStep b s).Guarded :=
  (h.of_guards (State.noteSettings_guards b s)).handOn b

theorem State.Guarded.takeVehicle (v : Vehicle) : (s.takeVehicle v).Guarded := by
  have taken : ({ s with vehicle := v } : State).Guarded := h.of_guards rfl
  exact (taken.of_guards (State.movingEnds_guards s _)).settingsStep s

/-- R118: the track table is changed and the zones recounted. -/
theorem State.Guarded.setPlace (p : Place) (k : Option Track) : (s.setPlace p k).Guarded := by
  have placed : ({ s with tracks := s.tracks.withPlace p k } : State).Guarded := h.of_guards rfl
  rw [State.setPlace_eq]
  exact placed.recountZones

theorem State.Guarded.bodyReport (cycling : Bool) (c : Contacts) : (s.bodyReport cycling c).Guarded := by
  have reported : ∀ v k, ({ s with vehicle := v, tracks := k } : State).Guarded := fun _ _ => h.of_guards rfl
  unfold State.bodyReport
  dsimp only
  split
  · exact (reported _ _).handOn s
  · exact (reported _ _).recountZones.handOn s

/-- R194: a commit in flight ends by f, which leaves the settings in force. -/
theorem State.Guarded.endCommit {f : SettingsBlock → SettingsBlock} (working : (f s.settings).working = s.settings.working) :
    (s.endCommit f).Guarded := by
  have body : (s.setSettings (f s.settings)).body = s.body := working
  have ended : (s.setSettings (f s.settings)).Guarded :=
    h.of_guards (by rw [State.guards, body]; rfl)
  unfold State.endCommit
  split
  · exact h
  · dsimp only
    split
    · exact (ended.of_guards (t := (s.setSettings (f s.settings)).endService) rfl).settingsStep s
    · exact ended.settingsStep s

/-- R127, R136, R193: zones and alert unit take the new settings. -/
theorem State.Guarded.applyCommit (x : Body) : (s.applyCommit x).Guarded := by
  have table : ∀ u : State, u.commitTable.guards = u.guards := fun u =>
    State.foldl_fixes _ State.guards (fun t l => by split <;> rfl) _ _
  have noted : (s.commitNoted x).guards = (s.zones, s.alert, x) := by
    rw [State.commitNoted, State.noteSettings_guards, State.commitVehicle, State.movingEnds_guards]
    exact table _
  obtain ⟨zones, rest⟩ := Prod.mk.inj noted
  obtain ⟨alert, -⟩ := Prod.mk.inj rest
  rw [State.applyCommit_eq]
  generalize s.commitNoted x = n at zones alert
  have records : ∀ z, (n.zoneRec z).Ok := fun z => by rw [State.zoneRec, zones]; exact (h.zones z).1
  have committed := State.commitZones_ok records
  have follows := (h.alert.congr zones alert).commitZones.alertCommit
  generalize n.commitZones = u at committed follows
  have alerted : u.alertCommit.Guarded := ⟨committed.congr rfl rfl, follows⟩
  exact alerted.of_guards (State.guards_of_besideViews u.alertCommit.besideViews_arbiterCommit)

/-- R132: a segment ends. -/
theorem State.Guarded.segmentExpiry : ({ s with alert := s.alert.segmentExpiry s.body } : State).Guarded := by
  obtain ⟨started, flags, copies⟩ := s.alert.segmentExpiry_keeps s.body
  exact ⟨h.zones.congr rfl rfl, h.alert.ok.segmentExpiry s.body, started.trans h.alert.started, flags.trans h.alert.flags,
    fun z => (congrArg (fun v : Vector ZoneFace 8 => v[z]) copies).trans (h.alert.copies z)⟩

theorem State.Guarded.holdExpiry (z : Zone) : (s.holdExpiry z).Guarded := by
  refine State.guarded_of_rest (s.besideZones_holdExpiry z) (h.zones.holdExpiry z) ?_
  by_cases runs : (s.zoneRec z).holdTimer = none
  · rw [State.holdExpiry, if_pos runs]
    exact h.alert
  · have hold := (h.zones z).1.hold.mp (Option.isSome_iff_ne_none.mpr runs)
    rw [State.holdExpiry, if_neg runs, if_pos (h.zones.enabled (by simp [hold]))]
    exact h.alert.takeZone z _

/-- R122, R126: a dwell that rises without an evaluation shows the unit no change. -/
theorem State.Guarded.dwellEnd (z : Zone) : (s.dwellEnd z).Guarded := by
  refine State.guarded_of_rest (s.besideZones_dwellEnd z) (h.zones.dwellEnd z) ?_
  have silent : s.setZoneRec z (s.zoneRec z).dwelled = s.noticedZone z (s.zoneRec z).dwelled := (if_pos rfl).symm
  unfold State.dwellEnd
  dsimp only
  split
  · exact h.alert
  · split
    · exact h.alert.takeZone z _
    · rw [silent]
      exact h.alert.noticedZone z _

/-- R34: the frame start of the cameras leaves zones and alert unit. -/
theorem State.Guarded.startFrame : s.startFrame.Guarded := by
  have opened := h.of_guards (State.guards_of_besideCameras s.besideCameras_openCameras)
  unfold State.startFrame
  generalize s.openCameras = u at opened
  exact opened.of_guards rfl

/-- R129, R137, R195: a warm reset. -/
theorem State.Guarded.warmReset {first : State → State} (keeps : ∀ u : State, (first u).guards = u.guards) :
    (s.warmReset first).Guarded := by
  have blocks : s.warmBlocks.Guarded := by
    refine State.guarded_of_reset (duty := s.alert.toneDuty) rfl ?_
    have flags : s.alert.flags = s.warmBlocks.body.chimeFlags := h.alert.flags
    rw [← flags, ← h.alert.started]
    rfl
  have looked := (blocks.of_guards (keeps s.warmBlocks)).firstLook
  unfold State.warmReset State.noteServiceEnd
  generalize (first s.warmBlocks).firstLook = u at looked
  split
  · exact looked.of_guards rfl
  · exact looked

theorem State.Guarded.answerReset (l : Link) : (s.answerReset l).Guarded := by
  unfold State.answerReset
  split
  · exact h
  · rename_i taken
    obtain ⟨rest, -, -, -, rfl⟩ := State.takeHead_eq taken
    have head : (s.setCtl l { s.ctl l with inbound := rest }).Guarded := h.of_guards rfl
    split
    · exact head.of_guards rfl
    · split
      · exact head.of_guards rfl
      · exact head.warmReset fun _ => rfl

/-! ## Through the requests -/

section
variable (l : Link) (r : Request)

theorem State.Guarded.vehicleState : (actVehicleState l r s).1.Guarded := by
  unfold actVehicleState
  repeat' split
  · exact h
  · exact h
  · exact h.takeVehicle _

theorem State.Guarded.bodyState : (actBodyState l r s).1.Guarded := by
  unfold actBodyState
  repeat' split
  · exact h
  · exact h
  · exact h.bodyReport _ _

theorem State.Guarded.trackUpdate : (actTrackUpdate l r s).1.Guarded := by
  rcases actTrackUpdate_cases l r s with same | ⟨p, cls, -, -, placed⟩
  · rwa [same]
  · rw [placed]; exact h.setPlace _ _

theorem State.Guarded.trackDrop : (actTrackDrop l r s).1.Guarded := by
  rcases actTrackDrop_cases l r s with same | ⟨p, dropped⟩
  · rwa [same]
  · rw [dropped]; exact h.setPlace _ _

theorem State.Guarded.zoneAck : (actZoneAck l r s).1.Guarded := by
  by_cases there : u8At r.fields 0 < 8
  · rw [actZoneAck_zone (z := ⟨u8At r.fields 0, there⟩) rfl]
    split
    · exact h
    split
    · exact h
    · rename_i warns
      exact State.guarded_of_rest (s.besideZones_takeZone _ _) (h.zones.acknowledge (by simpa using warns)) (h.alert.takeZone _ _)
  · rw [actZoneAck_malformed (by omega)]
    exact h

theorem State.Guarded.serviceEnter : (actServiceEnter l r s).1.Guarded := by
  have begun : s.beginService.Guarded := h.of_guards rfl
  have stays : (s.setSettings { s.settings with exitPending := false }).Guarded := h.of_guards rfl
  unfold actServiceEnter State.enterService
  repeat' split
  · exact h
  · exact h
  · exact stays.settingsStep s
  · exact begun.settingsStep s

theorem State.Guarded.serviceExit : (actServiceExit l r s).1.Guarded := by
  unfold actServiceExit
  repeat' split
  · exact h
  · exact h
  · exact (h.of_guards s.askServiceEnd_guards).settingsStep s

theorem State.Guarded.settingsWrite : (actSettingsWrite l r s).1.Guarded := by
  unfold actSettingsWrite
  dsimp only
  repeat' split
  · exact h
  · exact h.of_guards rfl
  · exact h

theorem State.Guarded.settingsCommit : (actSettingsCommit l r s).1.Guarded := by
  unfold actSettingsCommit
  split
  · exact h
  · unfold State.tryCommit
    split
    · exact h
    · dsimp only
      exact h.applyCommit _
  · exact h

end

end

end

/-! ## The kinds of commands -/

section
variable {s t : State}

/-- R190: the end of the settings load. -/
theorem State.endLoad_guarded (s : State) (found : Option Body) : (s.endLoad found).Guarded := by
  have started : (s.started found).Guarded := State.guarded_of_reset rfl rfl
  have looked := started.firstLook
  rw [State.endLoad_eq]
  generalize (s.started found).firstLook = u at looked
  exact looked.of_guards rfl

section
variable (h : s.Watched)
include h

theorem State.Watched.idle : s.idle.Watched := by
  unfold State.idle
  split
  · exact h
  · have record : ∀ z, s.millisecond.zoneRec z = (s.zoneRec z).tick := s.millisecond_zoneRec
    refine ⟨fun z => ?_, fun running => ?_⟩
    · rw [record]
      exact ⟨(h.zones z).1.tick, (h.zones z).2⟩
    · obtain ⟨ok, started, flags, copies⟩ := h.alert running
      exact ⟨ok.tick, started, flags, fun z => by rw [record]; exact copies z⟩

/-- A command that keeps both in order. -/
theorem State.Watched.work {f : State → State} (keeps : ∀ u : State, u.Guarded → (f u).Guarded)
    (next : whileRunning s f = .next t) : t.Watched := by
  obtain rfl := Host.Outcome.next.inj next
  split
  · rename_i running
    exact (keeps s (h.guarded running)).settle.watched
  · exact h

/-- A request that keeps both in order. -/
theorem State.Watched.request {row : RequestRow} {l : Link} {act : Request → State → State × Answer}
    (keeps : ∀ r (u : State), u.Guarded → (act r u).1.Guarded) (next : whileRunning s (answering row l act) = .next t) :
    t.Watched := by
  obtain rfl := Host.Outcome.next.inj next
  split
  · rename_i running
    have answered := answering_keeps State.Guarded (fun _ _ _ hu => hu.of_guards rfl) row l act (fun r u _ hu => keeps r u hu) s
      running (h.guarded running)
    exact answered.settle.watched
  · exact h

/-- A command of the cameras. -/
theorem State.Watched.camera {f : State → State} (beside : ∀ u : State, (f u).besideCameras = u.besideCameras)
    (next : whileRunning s f = .next t) : t.Watched :=
  h.work (fun u hu => hu.of_guards (State.guards_of_besideCameras (beside u))) next

/-- A timer that does not run leaves both, and one that expires keeps them in order. -/
theorem State.Watched.timer {d : State → Timer} {f : State → State} (keeps : ∀ u : State, u.Guarded → (f u).Guarded)
    (next : (whileRunning s fun u => if d u = none then u else f u) = .next t) : t.Watched := by
  refine h.work (f := fun u => if d u = none then u else f u) (fun u hu => ?_) next
  split
  · exact hu
  · exact keeps u hu

/-- The end of the settings load. -/
theorem State.Watched.loaded {found : Option Body} (next : whileLoading s found = .next t) : t.Watched := by
  obtain rfl := Host.Outcome.next.inj next
  split
  · exact (s.endLoad_guarded found).settle.watched
  · exact h

theorem State.Watched.lineFalls : s.lineFalls.Watched := by
  have low : ({ s with resetLineHigh := false } : State).Watched := h.of_guards rfl rfl
  unfold State.lineFalls
  split
  · split
    · rename_i running
      exact ((low.guarded running).warmReset fun _ => rfl).settle.watched
    · exact low
  · exact h

/-! ## Every command (O11) -/

theorem exec_watched {i : Instr} (next : exec i s = .next t) : t.Watched := by
  by_cases leaves : leavesScene i = true
  · have same := exec_scene leaves next
    exact h.of_guards (congrArg Prod.fst same :) (congrArg (fun k => (k.2.2.1, k.2.2.2.1, k.2.2.2.2.working)) same :)
  · cases i with
    | frameStartRecord c packet =>
      change execFrameStartRecord c packet s = .next t at next
      unfold execFrameStartRecord at next
      split at next
      · split at next
        · cases next
        · exact h.camera (fun u => by simp) next
      · exact Host.Outcome.next.inj next ▸ h
    | lineRecord c packet =>
      change execLineRecord c packet s = .next t at next
      unfold execLineRecord at next
      split at next
      · exact h.camera (fun u => u.besideCameras_rowArrives c _) next
      · exact Host.Outcome.next.inj next ▸ h
    | blankingRecord c packet =>
      change execBlankingRecord c packet s = .next t at next
      unfold execBlankingRecord at next
      split at next
      · exact h.camera (fun u => u.besideCameras_rowArrives c _) next
      · exact Host.Outcome.next.inj next ▸ h
    | silenceTimerExpiry c => exact h.camera (fun u => u.besideCameras_fallSilent c) next
    | errorWindowEnd c => exact h.camera (fun u => u.besideCameras_windowEnd c) next
    | concealmentCopyFinish c =>
      exact h.camera (f := fun u => State.noteCamera c u (u.finishCopy c)) (fun u => by simp) next
    | outputFrameStart =>
      change execOutputFrameStart s = .next t at next
      unfold execOutputFrameStart at next
      split at next
      · exact h.work (fun _ hu => hu.startFrame) next
      · exact Host.Outcome.next.inj next ▸ h.of_guards rfl rfl
      · exact Host.Outcome.next.inj next ▸ h
    | zoneAck l => exact h.request (fun r _ hu => hu.zoneAck l r) next
    | holdTimerExpiry z => exact h.work (fun _ hu => hu.holdExpiry z) next
    | dwellPeriodEnd z => exact h.work (fun _ hu => hu.dwellEnd z) next
    | segmentTimerExpiry => exact h.work (fun _ hu => hu.segmentExpiry) next
    | vehicleState l => exact h.request (fun r _ hu => hu.vehicleState l r) next
    | bodyState l => exact h.request (fun r _ hu => hu.bodyState l r) next
    | indicatorOffDelayExpiry => exact h.timer (d := fun u => u.vehicle.offDelay) (fun _ hu => hu.takeVehicle _) next
    | chassisSilenceTimerExpiry => exact h.timer (d := fun u => u.vehicle.chassisTimer) (fun _ hu => hu.takeVehicle _) next
    | bodySilenceTimerExpiry => exact h.timer (d := fun u => u.vehicle.bodyTimer) (fun _ hu => hu.takeVehicle _) next
    | trackUpdate l => exact h.request (fun r _ hu => hu.trackUpdate l r) next
    | trackDrop l => exact h.request (fun r _ hu => hu.trackDrop l r) next
    | trackExpiry p =>
      refine h.work (f := fun u => u.trackExpiry p) (fun u hu => ?_) next
      unfold State.trackExpiry
      split
      · exact hu
      · exact hu.setPlace p none
    | serviceEnter l => exact h.request (fun r _ hu => hu.serviceEnter l r) next
    | serviceExit l => exact h.request (fun r _ hu => hu.serviceExit l r) next
    | settingsWrite l => exact h.request (fun r _ hu => hu.settingsWrite l r) next
    | settingsCommit l => exact h.request (fun r _ hu => hu.settingsCommit l r) next
    | commitWriteComplete => exact h.work (f := fun u => u.endCommit SettingsBlock.complete) (fun _ hu => hu.endCommit rfl) next
    | commitWriteFailed | commitLimitExpiry =>
      exact h.work (f := fun u => u.endCommit SettingsBlock.fail) (fun _ hu => hu.endCommit rfl) next
    | coldReset below => exact Host.Outcome.next.inj next ▸ State.watched_of_reset rfl (fun running => nomatch running)
    | settingsLoadEnd | settingsLoadLimitExpiry | settingsLoadNotAcknowledged => exact h.loaded next
    | resetN => exact Host.Outcome.next.inj next ▸ h.lineFalls
    | reset l => exact h.work (fun _ hu => hu.answerReset l) next
    | supplyStop =>
      obtain rfl := Host.Outcome.next.inj next
      split
      · exact h
      · exact State.watched_of_reset rfl (fun running => nomatch running)
    | _ => exact absurd rfl leaves

end

end

/-- Settles O11: each zone that takes a record takes one in order, and hands it to the unit where it shows a change; a commit and a reset
make both anew. -/
theorem zonesAndAlertStayInOrder : Obligations.ZonesAndAlertStayInOrder := by
  intro s t zones alert stepped
  have watched : s.Watched := ⟨zones, alert⟩
  suffices kept : t.Watched from ⟨kept.zones, kept.alert⟩
  unfold step at stepped
  split at stepped
  · exact Host.Outcome.next.inj stepped ▸ watched.idle
  · rename_i i rest _
    have queued : (s.withPending rest).Watched := watched.of_guards rfl rfl
    exact exec_watched queued stepped

end Sys2Proof.Machine
end

section
/-! The state right after a cold reset has every invariant (R190): O5. -/

namespace Sys2Proof.Machine

/-- R41: the picture slots at their reset values, and a blank settings memory. -/
theorem State.memoryOk_of_reset : State.reset.MemoryOk := by
  have pictures : ∀ c, (State.reset.pict c).Canonical := fun c => by
    rw [State.reset_pict]
    exact Picture.atReset_canonical
  exact ⟨pictures, List.Pairwise.nil, fun _ listed => nomatch listed⟩

/-- Settles O5: each block's reset values are in order, and the alert unit is not asked before the settings load has ended. -/
theorem invariantsHoldAtReset : Obligations.InvariantsHoldAtReset := by
  have watched : State.reset.Watched := State.watched_of_reset rfl (fun running => nomatch running)
  have exposures : State.reset.ExposuresOk := State.exposuresOk_of_powerLoss (s := State.reset) rfl
  exact ⟨State.queues_of_reset rfl, State.memoryOk_of_reset, State.picturesOk_of_reset rfl rfl,
    State.slotsMapped_of_empty (b := Body.builtIn) rfl, Tracks.atReset_ok, watched.zones, watched.alert,
    State.settingsOk_of_served (SettingsBlock.atReset_ok _) rfl rfl, fun c => (exposures c).regulator⟩

end Sys2Proof.Machine
end
